-- ==== Sys2Proof/Word.lean ====
section
/-! DEFINITION. The words of the machine: bytes as they stand in frames, and ticks of the 48-bit timebase
(00_scope section 4, "Tick" and "Byte order"). -/

namespace Sys2Proof

/-- One byte of a frame. -/
abbrev Byte := BitVec 8

/-- A tick of the timebase, counted modulo 2^48 (00_scope section 4; R22). -/
abbrev Tick := BitVec 48

/-- A signed 16-bit sample (00_scope section 4, "Sample and magnitude"). -/
abbrev Sample := BitVec 16

/-- A line: the 16 consecutive samples of one channel that one sample frame carries (00_scope section 4). -/
abbrev Line := List Sample

end Sys2Proof
end

