-- ==== Sys2Proof/Syntax.lean ====
section
/-! DEFINITION. The commands: one constructor for each row of spec/opcode_table.json, in the table's order. A command is
one step of the part, whole and indivisible: an event at a port or a pin, the execution of the order at the head of the
order intake, the expiry of a timer, or the end of an access to the capture memory.

Frames are given as the bytes that came over the wire (R191), so that the check code, the length and the kind are tested
by the model. The execution rows (ASSIGN to UNKNOWN_ORDER) carry no operand: the arguments are those of the order at
the head of the order intake, where ORDER_FRAME placed it (R184, R186). -/

namespace Sys2Proof

/-- The two inputs that assert full reset (R158). -/
inductive ResetPin where
  | resetLine
  | supplyGood
  deriving DecidableEq, Repr

/-- The two ports of the record link (11.1). -/
inductive Port where
  | near
  | far
  deriving DecidableEq, Repr

/-- How the capture memory answered an access it completed (R133); the fourth outcome is the command TIMEOUT. -/
inductive Answered where
  | done
  | split
  | fault
  deriving DecidableEq, Repr

/-- The commands of the part, one constructor per row of the table. -/
inductive Instr where
  /-- RESET_ASSERT: the named input goes low (R158). -/
  | resetAssert (pin : ResetPin)
  /-- RESET_RELEASE: both reset inputs are high (R158). -/
  | resetRelease
  /-- SETTLE_END: the settle period ends (R158, R1). -/
  | settleEnd
  /-- SIGNAL_DETECT: signal detect appears on a lane (R6). -/
  | signalDetect (lane : Fin 4)
  /-- LOSS_OF_SIGNAL: a lane loses signal (R8). -/
  | lossOfSignal (lane : Fin 4)
  /-- SAMPLE_FRAME: a frame from a pod arrives on a lane (R7, R10 to R15). -/
  | sampleFrame (lane : Fin 4) (frame : List Byte)
  /-- GAUGE_FRAME: a frame from the gauge arrives on a lane (R7, R10 to R12, R14, R16). -/
  | gaugeFrame (lane : Fin 4) (frame : List Byte)
  /-- SAMPLE_PROCESSED: a channel's detector takes the next sample of its delivered frame (R59). -/
  | sampleProcessed (channel : Fin 32)
  /-- LINK_SIGNAL_DETECT: signal detect appears on a record link port (R175). -/
  | linkSignalDetect (port : Port)
  /-- LINK_LOSS_OF_SIGNAL: a record link port loses signal (R175, R176). -/
  | linkLossOfSignal (port : Port)
  /-- IDLE_FRAME: an idle frame arrives at a record link port (R175). -/
  | idleFrame (port : Port) (frame : List Byte)
  /-- ORDER_FRAME: an order frame arrives at the near port (R184). -/
  | orderFrame (frame : List Byte)
  /-- PAUSE_MARK: a PAUSE mark arrives at the near port (R180). -/
  | pauseMark (frame : List Byte)
  /-- RESUME_MARK: a RESUME mark arrives at the near port (R180). -/
  | resumeMark (frame : List Byte)
  /-- BURST_MARK: a BURST mark arrives at the near port (R167, R183). -/
  | burstMark (frame : List Byte)
  /-- RECORD_FRAME: a record frame arrives at the far port (R181, R167). -/
  | recordFrame (frame : List Byte)
  /-- NEAR_TRANSMISSION_END: the frame being sent on the near port completes (R180). -/
  | nearTransmissionEnd
  /-- FAR_TRANSMISSION_END: the frame being sent on the far port completes (R183). -/
  | farTransmissionEnd
  /-- ASSIGN: execution of ASSIGN (R185). -/
  | assign
  /-- READ: execution of READ (R187). -/
  | read
  /-- WRITE: execution of a WRITE naming an unknown item, a nonexistent index or PART-STATUS (R187). -/
  | write
  /-- CHANNEL_BANK_WRITE (R38, R39, R52). -/
  | channelBankWrite
  /-- CHANNEL_CAPTURE_WRITE (R47, R52). -/
  | channelCaptureWrite
  /-- SENSOR_MAP_WRITE (R50, R52). -/
  | sensorMapWrite
  /-- PHASE_MAP_WRITE (R46, R52). -/
  | phaseMapWrite
  /-- LOCATION_HEADER_WRITE (R78). -/
  | locationHeaderWrite
  /-- PAIR_WRITE (R98, R99). -/
  | pairWrite
  /-- CELL_WRITE (R111). -/
  | cellWrite
  /-- CLASS_WRITE (R112). -/
  | classWrite
  /-- RATE_SLOT_WRITE (R113). -/
  | rateSlotWrite
  /-- TRACKER_WRITE (R27). -/
  | trackerWrite
  /-- CAPTURE_SETUP_WRITE (R128). -/
  | captureSetupWrite
  /-- LANE_WRITE (R21). -/
  | laneWrite
  /-- TAIL_SPAN_WRITE (R159). -/
  | tailSpanWrite
  /-- CHAIN_LATENCY_WRITE (R25). -/
  | chainLatencyWrite
  /-- TALLY_INTERVAL_WRITE (R189). -/
  | tallyIntervalWrite
  /-- SELECT_BANK: execution of SELECT-BANK with a bank number (R43). -/
  | selectBank
  /-- SELECT_BANK_FOLLOW: execution of SELECT-BANK with FOLLOW (R44). -/
  | selectBankFollow
  /-- SET_ROLE: execution of SET-ROLE (R3 to R5). -/
  | setRole
  /-- SYNC: execution of SYNC (R23, R24). -/
  | sync
  /-- START: execution of START (R160, R161). -/
  | start
  /-- STOP: execution of STOP (R162). -/
  | stop
  /-- FREEZE: execution of FREEZE (R166). -/
  | freeze
  /-- RELEASE: execution of RELEASE (R170). -/
  | release
  /-- RESTART: execution of RESTART (R171). -/
  | restart
  /-- CLEAR_CELL: execution of CLEAR-CELL (R122, R123). -/
  | clearCell
  /-- PULSE: execution of PULSE (R148, R149). -/
  | pulse
  /-- BYPASS_ON: execution of BYPASS(on), or of a BYPASS with a value that is neither on nor off (R172). -/
  | bypassOn
  /-- BYPASS_OFF: execution of BYPASS(off) (R172). -/
  | bypassOff
  /-- UNCLAIMED: execution of an order marked UNCLAIMED (R186). -/
  | unclaimed
  /-- UNKNOWN_ORDER: execution of an order of an unknown kind (R186). -/
  | unknownOrder
  /-- HOLD_TIMER_EXPIRY: the hold timer of the open group with this number expires (R86). -/
  | holdTimerExpiry (group : BitVec 32)
  /-- RATE_SLOT_BOUNDARY: the rate slot timer reaches a boundary (R119). -/
  | rateSlotBoundary
  /-- TAIL_END: the tail timer expires (R168). -/
  | tailEnd
  /-- TALLY_TIMER_EXPIRY: the tally timer expires (R189). -/
  | tallyTimerExpiry
  /-- RING_WRITE_COMPLETE: the ring write in progress completes (R133). -/
  | ringWriteComplete (outcome : Answered)
  /-- READOUT_READ_COMPLETE: the readout's read in progress completes (R140). -/
  | readoutReadComplete (outcome : Answered)
  /-- DUMP_READ_COMPLETE: the dump's read in progress completes (R144). -/
  | dumpReadComplete (outcome : Answered)
  /-- TIMEOUT: 16 ticks pass on the access in progress with no answer (R133). -/
  | timeout
  /-- READOUT_LINE_START: the readout takes the next line of its segment (R140). -/
  | readoutLineStart
  /-- DUMP_LINE_START: the dump takes its next line (R145). -/
  | dumpLineStart
  deriving DecidableEq, Repr

end Sys2Proof
end

