-- ==== Sys2Proof/Decode.lean ====
section
/-! DEFINITION. The command that a word of spec/opcode_table.json spells. The table gives no row of this block any bits
(every row's "fields" is empty and none has "fixed" bits), so no word spells a command. The byte layouts that the spec
does give, of frames, orders and items (R191 to R194), are read in Machine/Wire.lean and Machine/Operands.lean. -/

namespace Sys2Proof

/-- The command spelt by the `nbits` bits of `w`: none, since the table gives its rows no bits. -/
def decodeTableWord (_nbits _w : Nat) : Option Instr := none

end Sys2Proof
end

