-- ==== Sys2Proof/Config.lean ====
section
/-! DEFINITION. The free values: what the spec leaves open and the machine goes on with. A free value has no body, so no proof
can lean on one. -/

namespace Sys2Proof.Config

/-- What a line of the capture memory reads as when its contents are not known: no write of it has been completed
without a fault, or its latest write ended in a FAULT or a TIMEOUT (R129: "The memory contents are not cleared"; the
spec gives no contents after power-on nor after a failed write). A line is read only when its mark is HELD, so a
machine run from reset never sends this value; assumption log 9. -/
opaque unknownLine : Nat → Line

end Sys2Proof.Config
end

