-- ==== Sys2Proof/Machine/State.lean ====
section
/-! DEFINITION. The state of the part, block by block, as the sections "What ... holds" of spec/ list it (1.1, 2.3, 3.1, 4.1,
5.1, 6.1, 7.1, 8.1 to 8.4, 9.1, 10.2, 11.1), the queue of commands waiting, the ways a step can stop, and the state
after reset. Plain data throughout. Values that the spec calls absent are `none`; a field that exists only in one state
of its block (an open hit's measures, a rearm end, a test's send tick) stands under that state's constructor. -/

namespace Sys2Proof.Machine

/-! ## Lanes (chapter 1) -/

/-- Role of a lane (1.1), in the order of its list of values. -/
inductive LaneRole where
  | pod | gauge | off
  deriving DecidableEq, Repr

/-- State of a lane (1.1). -/
inductive LaneState where
  | off | down | aligning | up
  deriving DecidableEq, Repr

/-- Cause of a LANE notice (R19). -/
inductive LaneCause where
  | signal | aligned | noSignal | checks | role
  deriving DecidableEq, Repr

/-- A lane port (1.1). `signal` is the physical condition signal detect (00_scope section 3), an input pin. -/
structure Lane where
  role : LaneRole
  state : LaneState
  latency : Nat
  alignCount : Nat
  prevSeq : Option Byte
  expSeq : Option Byte
  expTick : Option Tick
  failures : Nat
  checkTally : Nat
  skipTally : Nat
  signal : Bool
  deriving DecidableEq, Repr

/-! ## Timebase and tracker (chapter 2) -/

/-- The timebase (2.1, R22, R25). `uptime` is the model's own: the ticks since reset release, which SYNC does not move; it
measures "the ticks that have passed since that arrival" (R24) and the 16 ticks of R133. -/
structure Timebase where
  counter : Tick
  set : Bool
  chainLatency : Nat
  uptime : Nat
  deriving DecidableEq, Repr

/-- Phase of the pressure history (2.3). -/
inductive Phase where
  | below | ramp | hold | fall | reload | nogauge
  deriving DecidableEq, Repr

/-- The ten tracker parameters (R27). -/
structure TrackerParams where
  startLevel : Nat
  rampThreshold : Nat
  fallThreshold : Nat
  holdEntryCount : Nat
  reloadMargin : Nat
  slopeWindow : Nat
  dropLimit : Nat
  dropWindow : Nat
  satCount : Nat
  satWindow : Nat
  deriving DecidableEq, Repr

/-- The gauge tracker (2.3). `history` has its newest sample last. -/
structure Tracker where
  params : TrackerParams
  history : List Nat
  pressure : Option Nat
  pmax : Nat
  phase : Phase
  steady : Nat
  armed : Bool
  satList : Vector (Option Tick) 32
  deriving DecidableEq, Repr

/-! ## Channel table (chapter 3) -/

/-- A bank record (3.2). -/
structure Bank where
  threshold : Nat
  riseWindow : Nat
  quietSpan : Nat
  rearmSpan : Nat
  durationLimit : Nat
  deriving DecidableEq, Repr

/-- A channel record (3.1). -/
structure Channel where
  banks : Vector Bank 4
  active : Fin 4
  pending : Fin 4
  follow : Bool
  captureOn : Bool
  preLines : Nat
  postLines : Nat
  homeCell : Option (Fin 1024)
  deriving DecidableEq, Repr

/-! ## Detectors (chapter 4) -/

/-- Cause of a hit's close (4.6). -/
inductive CloseCause where
  | quiet | limit | skip | lost | halt
  deriving DecidableEq, Repr

/-- The capture answer taken at a hit's opening (R62, R137): a segment, a segment with SHARED, NOCAP, or neither. -/
inductive CaptureAnswer where
  | nothing
  | segment (n : Fin 64)
  | shared (n : Fin 64)
  | nocap
  deriving DecidableEq, Repr

/-- The open-hit measures (4.1) with the arrival context of R62. -/
structure OpenHit where
  arrival : Tick
  peak : Nat
  peakTick : Tick
  crossings : Nat
  energy : Nat
  lastAbove : Tick
  prevAbove : Bool
  sat : Bool
  sensor : Fin 32
  bank : Fin 4
  phase : Phase
  pressure : Option Nat
  capture : CaptureAnswer
  deriving DecidableEq, Repr

/-- State of a detector (4.1). -/
inductive DetState where
  | off
  | quiet
  | opened (hit : OpenHit)
  | rearm (until_ : Tick)
  deriving DecidableEq, Repr

/-- A sample of a delivered frame that its detector has still to process (R59). -/
structure FeedSample where
  tick : Tick
  value : Sample
  saturated : Bool
  deriving DecidableEq, Repr

/-- The part of a delivered frame that a live detector has still to deal with: the stamp T and the samples not yet
processed, in tick order (R15, R59). State the manual implies: each processed sample is a step of its own. -/
structure Feed where
  stamp : Tick
  samples : List FeedSample
  deriving DecidableEq, Repr

/-- A channel detector (4.1). -/
structure Detector where
  state : DetState
  horizon : Option Tick
  feed : Option Feed
  deriving DecidableEq, Repr

/-- A hit record (4.7). -/
structure HitRecord where
  part : Nat
  channel : Fin 32
  sensor : Fin 32
  arrival : Tick
  rise : Nat
  duration : Nat
  crossings : Nat
  peak : Nat
  energy : Nat
  pressure : Option Nat
  phase : Phase
  bank : Fin 4
  cause : CloseCause
  sat : Bool
  test : Bool
  nocap : Bool
  shared : Bool
  segment : Option (Fin 64)
  group : Option (BitVec 32)
  deriving DecidableEq, Repr

/-! ## Grouping (chapter 5) -/

/-- An open group record (R79); `members` in arrival order. -/
structure Group where
  number : BitVec 32
  anchor : Tick
  latest : Tick
  members : List HitRecord
  deadline : Tick
  behind : Bool
  deriving DecidableEq, Repr

/-- How a group closes (R91). -/
inductive GroupClose where
  | normal | crowded | late | halted
  deriving DecidableEq, Repr

/-- The grouping unit (5.1, 5.2); `groups` in anchor order. -/
structure Grouping where
  groups : List Group
  counter : BitVec 32
  lastClosed : Option Tick
  window : Nat
  holdLimit : Nat
  minMembers : Nat
  deriving DecidableEq, Repr

/-! ## Location (chapter 6) -/

/-- A pair entry (6.1); `cells` has one position per bin, `none` for NONE. -/
structure PairEntry where
  first : Fin 32
  second : Fin 32
  binWidth : Nat
  binCount : Nat
  cells : List (Option (Fin 1024))
  deriving DecidableEq, Repr

/-- Location method (6.6). -/
inductive Method where
  | pair | zone | none
  deriving DecidableEq, Repr

/-- A member entry of an event record (6.6). -/
structure MemberEntry where
  sensor : Fin 32
  delay : Nat
  peak : Nat
  sat : Bool
  deriving DecidableEq, Repr

/-- The event record (6.6). The member count is the length of `members`. -/
structure EventRecord where
  part : Nat
  group : BitVec 32
  anchor : Tick
  members : List MemberEntry
  energy : Nat
  method : Method
  cell : Option (Fin 1024)
  pressure : Option Nat
  phase : Phase
  crowded : Bool
  late : Bool
  halted : Bool
  behind : Bool
  afterburst : Bool
  splitvote : Bool
  deriving DecidableEq, Repr

/-! ## Cells (chapter 7) -/

/-- Alarm cause (7.1). -/
inductive AlarmCause where
  | hold | reload | energy
  deriving DecidableEq, Repr

/-- Alarm state (7.1); the alarm cause is present exactly in ALARM. -/
inductive Alarm where
  | quiet
  | watch
  | alarm (cause : AlarmCause)
  deriving DecidableEq, Repr

/-- Cause of a CELL notice (R125). -/
inductive CellCause where
  | hold | reload | energy | rate | decay | clear | start
  deriving DecidableEq, Repr

/-- A cell record (7.1); `slots` holds the eight rate slots, slot 0 first. -/
structure Cell where
  cls : Fin 8
  events : Nat
  energy : Nat
  holdCount : Nat
  reloadCount : Nat
  slots : Vector Nat 8
  alarm : Alarm
  deriving DecidableEq, Repr

/-- A class record (7.1). -/
structure ClassRecord where
  watchRate : Nat
  holdLimit : Nat
  reloadLimit : Nat
  energyLimit : Nat
  deriving DecidableEq, Repr

/-- The cell unit (7.1). `boundary` is the tick of the rate slot timer's next boundary, absent when the timer is stopped. -/
structure CellUnit where
  cells : Vector Cell 1024
  classes : Vector ClassRecord 8
  slotLength : Nat
  boundary : Option Tick
  deriving DecidableEq, Repr

/-! ## Capture (chapter 8) -/

/-- Mark of a ring line (R129). -/
inductive LineMark where
  | held | void | bad
  deriving DecidableEq, Repr

/-- A channel's ring (R129); `marks` has one mark per ring index. -/
structure Ring where
  writePos : Nat
  ringTick : Option Tick
  marks : List LineMark
  deriving DecidableEq, Repr

/-- State of a segment descriptor that is not FREE (8.4). -/
inductive SegStage where
  | filling | sealed | reading
  deriving DecidableEq, Repr

/-- A segment descriptor that is not FREE (8.4). `nextPos` is the place in the readout order (R140) of the next line; `lost`
names the lines lost by their offsets, so that "lines lost" is its length. -/
structure Segment where
  stage : SegStage
  channel : Fin 32
  sensor : Fin 32
  arrival : Tick
  trigger : Nat
  pre : Nat
  post : Nat
  written : Nat
  nextPos : Nat
  lost : List Int
  lostReported : Nat
  damaged : Bool
  deriving DecidableEq, Repr

/-- A ring write, queued or in progress (R130). `voided` says that its ring index was voided after it was placed (R133). -/
structure RingWrite where
  channel : Fin 32
  index : Nat
  data : Line
  voided : Bool
  deriving DecidableEq, Repr

/-- What an access in progress is for (R133, R134). `live` is clear for a read whose record is not to be offered (R142, R143,
R145). `line` is the memory line read. -/
inductive AccessOp where
  | write (w : RingWrite)
  | readout (segment : Fin 64) (offset : Int) (line : Nat) (live : Bool)
  | dump (line : Nat) (live : Bool)
  deriving DecidableEq, Repr

/-- The access in progress, and the uptime at which it began (R133). -/
structure Access where
  op : AccessOp
  started : Nat
  deriving DecidableEq, Repr

/-- State of the capture memory port (R135). -/
inductive MemPort where
  | ready | failed
  deriving DecidableEq, Repr

/-- Progress of the dump (R144): the channels still to serve, the first being served; its next line; lines sent and
damaged. -/
structure Dump where
  channels : List (Fin 32)
  line : Nat
  sent : Nat
  damaged : Nat
  deriving DecidableEq, Repr

/-- The capture memory: its lines whose contents are known, in one canonical form: line numbers strictly rising (R129: the
memory is a store of lines, numbered from 0). -/
abbrev Memory := List (Nat × Line)

/-- The capture unit and the memory attached to its port (8.1 to 8.8). -/
structure Capture where
  memoryLines : Nat
  ringLines : Nat
  dumpDepth : Nat
  rings : Vector Ring 32
  memory : Memory
  queue : List RingWrite
  access : Option Access
  port : MemPort
  failures : Nat
  segments : Vector (Option Segment) 64
  dump : Option Dump
  deriving DecidableEq, Repr

/-! ## Pulse test (chapter 9) -/

/-- What the pulse test unit records at the start of a test (R149). The source lane is that of the source channel. -/
structure TestInfo where
  tag : Nat
  source : Fin 32
  channel : Fin 32
  window : Nat
  sendTick : Tick
  deriving DecidableEq, Repr

/-- Test state (9.1): frames counted is kept while WAITING, the fire tick F in WINDOW. -/
inductive TestState where
  | none
  | waiting (info : TestInfo) (frames : Nat)
  | window (info : TestInfo) (fire : Tick)
  deriving DecidableEq, Repr

/-- An entry of the result table: a delay and a peak (9.1). -/
structure TestEntry where
  delay : Nat
  peak : Nat
  deriving DecidableEq, Repr

/-- The pulse test unit (9.1); `hold` is the test hold list, in arrival order. -/
structure Pulse where
  test : TestState
  hold : List HitRecord
  results : Vector (Option TestEntry) 32
  deriving DecidableEq, Repr

/-- How a test ends (R155). -/
inductive EndCause where
  | done | nofire | laneLost | aborted
  deriving DecidableEq, Repr

/-! ## Run control (chapter 10) -/

/-- Run state (10.2). -/
inductive RunState where
  | idle | run | tailing | frozen
  deriving DecidableEq, Repr

/-- Burst cause (10.2). -/
inductive BurstCause where
  | pressure | saturation | manual | chained
  deriving DecidableEq, Repr

/-- Run control (10.2). `tailExpiry` is absent when the tail timer is stopped. -/
structure RunControl where
  state : RunState
  cause : Option BurstCause
  burstTick : Option Tick
  tailExpiry : Option Tick
  tailSpan : Nat
  bypass : Bool
  address : Nat
  deriving DecidableEq, Repr

/-! ## Records (4.7, 6.6, 8.5, 9.6, 11.9) -/

/-- A trace record (R141, R144). For a dump trace `segment` is absent and `tick` is the line's tick; for a segment trace `tick`
is the hit arrival. A closing record has no line, so its `offset` is absent. `cut` is 0 when CUT is clear. -/
structure TraceRecord where
  part : Nat
  segment : Option (Fin 64)
  sensor : Fin 32
  tick : Tick
  offset : Option Int
  cut : Nat
  samples : Option Line
  gap : Bool
  damaged : Bool
  lost : Bool
  isEnd : Bool
  dump : Bool
  deriving DecidableEq, Repr

/-- Kind of a failing access in a CAPTURE notice (R135). -/
inductive AccessKind where
  | ringWrite | readout | dump
  deriving DecidableEq, Repr

/-- Outcome of an access (R133). -/
inductive AccessOutcome where
  | done | split | fault | timeout
  deriving DecidableEq, Repr

/-- What a notice carries (R190). -/
inductive NoticeBody where
  | lane (lane : Fin 4) (old new : LaneState) (cause : LaneCause)
  | phase (old new : Phase) (pressure : Option Nat) (pmax : Nat)
  | cell (cell : Fin 1024) (old new : Alarm) (cause : CellCause)
  | burst (cause : BurstCause) (tick : Tick) (pressure : Option Nat) (pmax : Nat)
  | frozen (cause : Option BurstCause) (tick : Option Tick) (freed : Nat)
  | capture (kind : AccessKind) (outcome : AccessOutcome) (freed : Nat)
  | dump (sent damaged : Nat) (stopped : Bool)
  deriving DecidableEq, Repr

/-- A notice (R190, R192). -/
structure Notice where
  part : Nat
  tick : Tick
  body : NoticeBody
  deriving DecidableEq, Repr

/-- The tally counts (R190); the lane tallies are kept in the lanes. -/
structure TallyCounts where
  shedHit : Nat
  shedEvent : Nat
  shedTrace : Nat
  shedNotice : Nat
  shedPulse : Nat
  shedTally : Nat
  split : Nat
  fault : Nat
  discardedOrders : Nat
  badOrders : Nat
  badRecords : Nat
  overflow : Nat
  deriving DecidableEq, Repr

/-- A tally record (R190). -/
structure TallyRecord where
  part : Nat
  tick : Tick
  counts : TallyCounts
  lanes : Vector (Nat × Nat) 4
  highWater : Nat
  openGroups : Nat
  freeSegments : Nat
  deriving DecidableEq, Repr

/-- A PULSE-RESULT record (9.6). -/
structure PulseRecord where
  part : Nat
  tag : Nat
  source : Fin 32
  window : Nat
  cause : EndCause
  sendTick : Tick
  fireTick : Option Tick
  entries : List (Fin 32 × TestEntry)
  deriving DecidableEq, Repr

/-- A record of the own record queue (R177). -/
inductive Record where
  | hit (r : HitRecord)
  | event (r : EventRecord)
  | trace (r : TraceRecord)
  | notice (r : Notice)
  | tally (r : TallyRecord)
  | pulse (r : PulseRecord)
  deriving DecidableEq, Repr

/-! ## Record link (chapter 11) -/

/-- Reason of a refusal, in the order of R193. -/
inductive Reason where
  | state | busy | range | inUse | duplicate | conflict | noItem | readonly | time | lane | nosensor | unclaimed
  deriving DecidableEq, Repr

/-- An order as its frame carries it (R191): address, order kind, tag and argument bytes. -/
structure Order where
  address : Byte
  kind : Byte
  tag : BitVec 16
  args : List Byte
  deriving DecidableEq, Repr

/-- An order in the intake (11.1), with the uptime at which its frame's arrival completed (R24). -/
structure IntakeEntry where
  order : Order
  take : Bool
  arrived : Nat
  deriving DecidableEq, Repr

/-- An answer record (R179). `reason` is absent when the outcome is OK. -/
structure Answer where
  part : Nat
  tag : BitVec 16
  kind : Byte
  reason : Option Reason
  item : Byte
  index : Nat
  contents : List Byte
  deriving DecidableEq, Repr

/-- A flow or burst mark (11.6). -/
inductive Mark where
  | pause | resume | burst
  deriving DecidableEq, Repr

/-- An entry of the forward queue: an order, or a BURST mark on its way far-ward (R183). -/
inductive Forward where
  | order (o : Order)
  | burst
  deriving DecidableEq, Repr

/-- State of a record link port (11.1). -/
inductive LinkState where
  | down | up
  deriving DecidableEq, Repr

/-- A record link port (11.1). `signal` is the physical condition signal detect; `txSeq` is the sequence number the
transmitter gives its next frame (R174, R175). -/
structure LinkPort where
  state : LinkState
  alignCount : Nat
  prevSeq : Option Byte
  failures : Nat
  signal : Bool
  txSeq : Byte
  deriving DecidableEq, Repr

/-- Where the frame in transmission on the near port came from (R180). -/
inductive NearSource where
  | idle | answer | pass | own
  deriving DecidableEq, Repr

/-- Where the frame in transmission on the far port came from (R183). -/
inductive FarSource where
  | idle | mark | forward
  deriving DecidableEq, Repr

/-- A frame in transmission: its source, whether the entry it was taken from still stands at the head of its queue
(R174, R176: a queue may be emptied meanwhile), and the bytes on the wire. -/
structure Sending (α : Type) where
  source : α
  queued : Bool
  frame : List Byte
  deriving DecidableEq, Repr

/-- Which source the near-port transmitter serves next (11.1). -/
inductive Turn where
  | pass | own
  deriving DecidableEq, Repr

/-- The record link (11.1). The pass-through buffer holds record bodies as they came. -/
structure Link where
  near : LinkPort
  far : LinkPort
  nearSending : Option (Sending NearSource)
  farSending : Option (Sending FarSource)
  own : List Record
  answers : List Answer
  intake : List IntakeEntry
  pass : List (List Byte)
  forward : List Forward
  marks : List Mark
  nearPause : Bool
  farPause : Bool
  turn : Turn
  counts : TallyCounts
  highWater : Nat
  tallyInterval : Nat
  tallyExpiry : Option Tick
  deriving DecidableEq, Repr

/-! ## The whole part -/

/-- The reset inputs and the settle period (R158). -/
structure Power where
  resetLine : Bool
  supplyGood : Bool
  settling : Bool
  deriving DecidableEq, Repr

/-- The fire mark most recently sent on a lane's return direction (R17): an output of the part, kept so that it can be
seen; nothing in the part reads it. -/
structure FireMark where
  lane : Fin 4
  sent : Tick
  frame : List Byte
  deriving DecidableEq, Repr

/-- The state of the part, and the commands waiting, first in first out. -/
structure State where
  power : Power
  timebase : Timebase
  lanes : Vector Lane 4
  tracker : Tracker
  channels : Vector Channel 32
  phaseMap : Vector (Fin 4) 6
  sensorMap : Vector (Option (Fin 32)) 32
  detectors : Vector Detector 32
  grouping : Grouping
  pairs : Vector (Option PairEntry) 512
  cells : CellUnit
  capture : Capture
  pulse : Pulse
  run : RunControl
  link : Link
  fireMark : Option FireMark
  pending : List Instr
  deriving DecidableEq, Repr

/-- Why the machine stops with a fault: never. The spec names no condition in which the part stops; every command has an
effect in every state, or finds its event not enabled and changes nothing. -/
inductive Fault
  deriving DecidableEq, Repr

/-- Why a command has no meaning. -/
inductive Refusal where
  /-- Raised by an arm of exec whose command is not modelled yet, with the row's mnemonic; no arm of this model raises it. Safe:
  no claim about the command can be proved from it. -/
  | notModelled (mnemonic : String)
  deriving DecidableEq, Repr

/-! ## Values after full reset -/

/-- A lane after full reset (R1). -/
def Lane.reset (role : LaneRole) : Lane :=
  { role := role, state := .down, latency := 0, alignCount := 0, prevSeq := none, expSeq := none, expTick := none,
    failures := 0, checkTally := 0, skipTally := 0, signal := false }

/-- The lanes after full reset: LP0 to LP2 are POD lanes, LP3 is the GAUGE lane (R1). -/
def resetLanes : Vector Lane 4 := #v[Lane.reset .pod, Lane.reset .pod, Lane.reset .pod, Lane.reset .gauge]

/-- The timebase after full reset (R22, R25). -/
def Timebase.reset : Timebase := { counter := 0, set := false, chainLatency := 0, uptime := 0 }

/-- The tracker parameters after full reset (R27). -/
def TrackerParams.reset : TrackerParams :=
  { startLevel := 500, rampThreshold := 5, fallThreshold := 5, holdEntryCount := 20, reloadMargin := 250,
    slopeWindow := 8, dropLimit := 1000, dropWindow := 8, satCount := 6, satWindow := 2500 }

/-- The tracker after full reset and, with the parameters kept, after RESTART (R26). -/
def Tracker.resetWith (p : TrackerParams) : Tracker :=
  { params := p, history := [], pressure := none, pmax := 0, phase := .nogauge, steady := 0, armed := false,
    satList := Vector.replicate 32 none }

/-- A bank record after full reset (R37). -/
def Bank.reset : Bank :=
  { threshold := 32767, riseWindow := 1000, quietSpan := 1000, rearmSpan := 0, durationLimit := 500000 }

/-- A channel record after full reset (R37). -/
def Channel.reset : Channel :=
  { banks := Vector.replicate 4 Bank.reset, active := 0, pending := 0, follow := false, captureOn := false,
    preLines := 0, postLines := 0, homeCell := none }

/-- A detector after full reset and after RESTART (R53, R58). -/
def Detector.reset : Detector := { state := .off, horizon := none, feed := none }

/-- The grouping unit after full reset (R77). -/
def Grouping.reset : Grouping :=
  { groups := [], counter := 0, lastClosed := none, window := 2500, holdLimit := 50000, minMembers := 2 }

/-- A cell record after full reset (R110). -/
def Cell.reset : Cell :=
  { cls := 0, events := 0, energy := 0, holdCount := 0, reloadCount := 0, slots := Vector.replicate 8 0, alarm := .quiet }

/-- A class record after full reset (R110). -/
def ClassRecord.reset : ClassRecord := { watchRate := 0, holdLimit := 0, reloadLimit := 0, energyLimit := 0 }

/-- The cell unit after full reset (R110). -/
def CellUnit.reset : CellUnit :=
  { cells := Vector.replicate 1024 Cell.reset, classes := Vector.replicate 8 ClassRecord.reset,
    slotLength := 5000000, boundary := none }

/-- A ring of `r` lines as full reset, RESTART, START and a CAPTURE-SETUP write leave it (R129). -/
def Ring.reset (r : Nat) : Ring := { writePos := 0, ringTick := none, marks := List.replicate r .void }

/-- The capture unit after full reset (R128, R129, R130, R133, R135, R136). -/
def Capture.reset : Capture :=
  { memoryLines := 65536, ringLines := 256, dumpDepth := 0, rings := Vector.replicate 32 (Ring.reset 256), memory := [],
    queue := [], access := none, port := .ready, failures := 0, segments := Vector.replicate 64 none, dump := none }

/-- The pulse test unit after full reset and RESTART (R147). -/
def Pulse.reset : Pulse := { test := .none, hold := [], results := Vector.replicate 32 none }

/-- Run control after full reset (R159). -/
def RunControl.reset : RunControl :=
  { state := .idle, cause := none, burstTick := none, tailExpiry := none, tailSpan := 2500000, bypass := false,
    address := 0 }

/-- The tally counts at 0 (R174). -/
def TallyCounts.zero : TallyCounts :=
  { shedHit := 0, shedEvent := 0, shedTrace := 0, shedNotice := 0, shedPulse := 0, shedTally := 0, split := 0, fault := 0,
    discardedOrders := 0, badOrders := 0, badRecords := 0, overflow := 0 }

/-- A record link port after full reset (R174). -/
def LinkPort.reset : LinkPort :=
  { state := .down, alignCount := 0, prevSeq := none, failures := 0, signal := false, txSeq := 0 }

/-- The record link after full reset (R174). -/
def Link.reset : Link :=
  { near := LinkPort.reset, far := LinkPort.reset, nearSending := none, farSending := none, own := [], answers := [],
    intake := [], pass := [], forward := [], marks := [], nearPause := false, farPause := false, turn := .pass,
    counts := TallyCounts.zero, highWater := 0, tallyInterval := 25000000, tallyExpiry := none }

/-- The machine right after reset: both reset inputs are high, the settle period begins with the counter at 0, no signal is
present on any port, and every item has its full reset value (R158, R22). -/
def State.reset : State :=
  { power := { resetLine := true, supplyGood := true, settling := true },
    timebase := Timebase.reset,
    lanes := resetLanes,
    tracker := Tracker.resetWith TrackerParams.reset,
    channels := Vector.replicate 32 Channel.reset,
    phaseMap := Vector.replicate 6 0,
    sensorMap := Vector.replicate 32 none,
    detectors := Vector.replicate 32 Detector.reset,
    grouping := Grouping.reset,
    pairs := Vector.replicate 512 none,
    cells := CellUnit.reset,
    capture := Capture.reset,
    pulse := Pulse.reset,
    run := RunControl.reset,
    link := Link.reset,
    fireMark := none,
    pending := [] }

end Sys2Proof.Machine
end

