-- ==== Sys2Proof/Machine/Ops.lean ====
section
/-! DEFINITION. The named operations that every block's work is written with: tick arithmetic, tables, updates of one block
of the state, the capture memory, and the offer of a record to the own record queue. -/

namespace Sys2Proof.Machine

/-! ## Ticks (00_scope section 4) -/

/-- `t` and `n` ticks, modulo 2^48. -/
def tickAdd (t : Tick) (n : Nat) : Tick := t + BitVec.ofNat 48 n

/-- `t` less `n` ticks, modulo 2^48. -/
def tickBack (t : Tick) (n : Nat) : Tick := t - BitVec.ofNat 48 n

/-- The ticks from `b` to `a`, modulo 2^48. -/
def ticksFrom (b a : Tick) : Nat := (a - b).toNat

/-- `a` is `b` or later: the difference is taken modulo 2^48 and is less than 2^47. -/
def atOrAfter (a b : Tick) : Bool := decide ((a - b).toNat < 2 ^ 47)

/-- `a` is earlier than `b`. -/
def earlier (a b : Tick) : Bool := !(atOrAfter a b)

def laterOf (a b : Tick) : Tick := if atOrAfter a b then a else b

def earlierOf (a b : Tick) : Tick := if atOrAfter a b then b else a

/-! ## Counts -/

/-- A count that stays at `limit` when a further addition would carry it beyond (00_scope section 4, "saturates"). -/
def satAdd (limit a b : Nat) : Nat := min limit (a + b)

/-- A tally or tally count, saturating at 65535 (R20, R190). -/
def tallyAdd (a b : Nat) : Nat := satAdd 65535 a b

/-! ## Tables -/

/-- The number `k` as an index below `n`, when it is one. -/
def index? (n k : Nat) : Option (Fin n) := if h : k < n then some ⟨k, h⟩ else none

/-- A table with entry `i` replaced. -/
def put {α : Type} {n : Nat} (v : Vector α n) (i : Fin n) (x : α) : Vector α n := v.set i.val x i.isLt

/-- A table with `f` applied to every entry. -/
def mapTable {α β : Type} {n : Nat} (f : α → β) (v : Vector α n) : Vector β n :=
  ⟨(v.toList.map f).toArray, by simp⟩

/-- The physical channels, ascending. -/
def allChannels : List (Fin 32) := List.finRange 32

/-- The lane of a physical channel: c = lane × 8 + slot (00_scope section 4). -/
def laneOf (c : Fin 32) : Fin 4 := ⟨c.val / 8, by omega⟩

/-- The slot of a physical channel. -/
def slotOf (c : Fin 32) : Fin 8 := ⟨c.val % 8, by omega⟩

/-- The physical channel of a slot of a lane. -/
def channelOf (l : Fin 4) (j : Fin 8) : Fin 32 := ⟨l.val * 8 + j.val, by omega⟩

/-- The eight physical channels of a lane, ascending. -/
def channelsOf (l : Fin 4) : List (Fin 32) := (List.finRange 8).map (channelOf l)

/-- Work done for each of a list of things in turn. -/
def forEach {α : Type} (l : List α) (f : α → State → State) (s : State) : State := l.foldl (fun t a => f a t) s

/-! ## Updates of one block -/

def State.setPower (s : State) (x : Power) : State := { s with power := x }
def State.setTimebase (s : State) (x : Timebase) : State := { s with timebase := x }
def State.setLanes (s : State) (x : Vector Lane 4) : State := { s with lanes := x }
def State.setTracker (s : State) (x : Tracker) : State := { s with tracker := x }
def State.setChannels (s : State) (x : Vector Channel 32) : State := { s with channels := x }
def State.setPhaseMap (s : State) (x : Vector (Fin 4) 6) : State := { s with phaseMap := x }
def State.setSensorMap (s : State) (x : Vector (Option (Fin 32)) 32) : State := { s with sensorMap := x }
def State.setDetectors (s : State) (x : Vector Detector 32) : State := { s with detectors := x }
def State.setGrouping (s : State) (x : Grouping) : State := { s with grouping := x }
def State.setPairs (s : State) (x : Vector (Option PairEntry) 512) : State := { s with pairs := x }
def State.setCells (s : State) (x : CellUnit) : State := { s with cells := x }
def State.setCapture (s : State) (x : Capture) : State := { s with capture := x }
def State.setPulse (s : State) (x : Pulse) : State := { s with pulse := x }
def State.setRun (s : State) (x : RunControl) : State := { s with run := x }
def State.setLink (s : State) (x : Link) : State := { s with link := x }
def State.setFireMark (s : State) (x : Option FireMark) : State := { s with fireMark := x }
def State.setPending (s : State) (x : List Instr) : State := { s with pending := x }

def State.setLane (s : State) (l : Fin 4) (x : Lane) : State := s.setLanes (put s.lanes l x)
def State.setChannel (s : State) (c : Fin 32) (x : Channel) : State := s.setChannels (put s.channels c x)
def State.setDetector (s : State) (c : Fin 32) (x : Detector) : State := s.setDetectors (put s.detectors c x)
def State.setCell (s : State) (n : Fin 1024) (x : Cell) : State :=
  s.setCells { s.cells with cells := put s.cells.cells n x }
def State.setRing (s : State) (c : Fin 32) (x : Ring) : State :=
  s.setCapture { s.capture with rings := put s.capture.rings c x }
def State.setSegment (s : State) (i : Fin 64) (x : Option Segment) : State :=
  s.setCapture { s.capture with segments := put s.capture.segments i x }
def State.setCounts (s : State) (x : TallyCounts) : State := s.setLink { s.link with counts := x }

/-! ## Conditions on the state -/

/-- Full reset is asserted: the reset line or supply-good is low (R158). -/
def State.inReset (s : State) : Bool := !(s.power.resetLine && s.power.supplyGood)

/-- The part runs: neither in reset nor in the settle period (R158). -/
def State.running (s : State) : Bool := !s.inReset && !s.power.settling

/-- A test is in flight while the test state is WAITING or WINDOW (R147). -/
def TestState.inFlight : TestState → Bool
  | .none => false
  | .waiting _ _ => true
  | .window _ _ => true

/-- A test is listening while it is in flight and the run state is IDLE (R147). -/
def State.listening (s : State) : Bool := s.pulse.test.inFlight && s.run.state == .idle

/-- The run state is RUN or TAILING. -/
def State.measuring (s : State) : Bool := s.run.state == .run || s.run.state == .tailing

/-- A POD lane in state UP (R54). -/
def State.podUp (s : State) (l : Fin 4) : Bool := s.lanes[l].role == .pod && s.lanes[l].state == .up

/-- A detector is live when its state is not OFF (4.2). -/
def Detector.live (d : Detector) : Bool := !(d.state == .off)

/-! ## The capture memory (R129) -/

/-- The canonical form: line numbers strictly rising. -/
abbrev Memory.wf (m : Memory) : Prop := (m.map Prod.fst).Pairwise (· < ·)

/-- The contents of a line, when they are known. -/
def Memory.read (m : Memory) (a : Nat) : Option Line := (m.find? (fun p => p.1 == a)).map Prod.snd

/-- The memory with line `a` holding `x`. -/
def Memory.write : Memory → Nat → Line → Memory
  | [], a, x => [(a, x)]
  | (b, y) :: m, a, x =>
    if a < b then (a, x) :: (b, y) :: m
    else if a = b then (a, x) :: m
    else (b, y) :: Memory.write m a x

/-- The memory with the contents of line `a` no longer known. -/
def Memory.forget (m : Memory) (a : Nat) : Memory := m.filter (fun p => !(p.1 == a))

/-- The samples that a completed read of line `a` gives. -/
def Memory.fetch (m : Memory) (a : Nat) : Line := (Memory.read m a).getD (Config.unknownLine a)

/-! ## Offers to the own record queue (R177, R178) -/

/-- Length of a record in queue units (R177). -/
def Record.units : Record → Nat
  | .hit _ => 4
  | .event e => 3 + (e.members.length + 1) / 2
  | .trace _ => 3
  | .notice _ => 2
  | .tally _ => 4
  | .pulse p => 2 + (p.entries.length + 1) / 2

/-- The fill of the own record queue: the sum of the lengths of the records it holds (R177). -/
def Link.fill (k : Link) : Nat := (k.own.map Record.units).sum

/-- The kinds still admitted at F ≥ 3,584 (R177). -/
def Record.vital : Record → Bool
  | .hit _ => false
  | .event _ => true
  | .trace _ => false
  | .notice _ => true
  | .tally _ => true
  | .pulse _ => true

/-- Whether an offered record is admitted at fill `fill`. `located` marks a HIT record that is a member of an event with a
cell (R177). -/
def admitted (fill : Nat) (r : Record) (located : Bool) : Bool :=
  decide (fill + r.units ≤ 4096) &&
    (if fill < 3072 then true
     else if fill < 3584 then !located
     else r.vital)

/-- The tally counts with the shed count of the record's kind raised (R177). -/
def TallyCounts.addShed (c : TallyCounts) : Record → TallyCounts
  | .hit _ => { c with shedHit := tallyAdd c.shedHit 1 }
  | .event _ => { c with shedEvent := tallyAdd c.shedEvent 1 }
  | .trace _ => { c with shedTrace := tallyAdd c.shedTrace 1 }
  | .notice _ => { c with shedNotice := tallyAdd c.shedNotice 1 }
  | .tally _ => { c with shedTally := tallyAdd c.shedTally 1 }
  | .pulse _ => { c with shedPulse := tallyAdd c.shedPulse 1 }

/-- The record link with the record admitted at the tail of the own record queue (R177). -/
def Link.enqueue (k : Link) (r : Record) : Link :=
  { k with own := k.own ++ [r], highWater := max k.highWater (k.fill + r.units) }

/-- The record link with the record shed (R177). -/
def Link.shed (k : Link) (r : Record) : Link := { k with counts := k.counts.addShed r }

/-- The record link after a record is offered outside bypass (R177). -/
def Link.offer (k : Link) (r : Record) (located : Bool) : Link :=
  if admitted k.fill r located then k.enqueue r else k.shed r

/-- A record is offered; a part in bypass offers none (R178). -/
def offer (r : Record) (located : Bool) (s : State) : State :=
  if s.run.bypass then s else s.setLink (s.link.offer r located)

/-- A notice is built and offered (R190). -/
def notify (body : NoticeBody) (s : State) : State :=
  offer (.notice { part := s.run.address, tick := s.timebase.counter, body := body }) false s

end Sys2Proof.Machine
end

