-- ==== Sys2Proof/Machine/Capture.lean ====
section
/-! DEFINITION. The capture unit: the ring writer, the capture memory port, segments, their readout, losses by overwriting, and
the dump (chapter 8). -/

namespace Sys2Proof.Machine

/-- The descriptors, ascending. -/
def allSegments : List (Fin 64) := List.finRange 64

/-! ## Spans and the readout order (8.4, R140) -/

/-- The readout order of a segment: offset 0, then +1 up to lines written − 1, then −pre up to −1 (R140). -/
def Segment.order (g : Segment) : List Int :=
  (List.range g.written).map (fun i => (i : Int)) ++ (List.range g.pre).map (fun i => (i : Int) - (g.pre : Int))

/-- The lines of the order that are neither read nor lost. -/
def Segment.unread (g : Segment) : List Int := (g.order.drop g.nextPos).filter (fun o => !(g.lost.contains o))

/-- The ring index of the line at an offset from the trigger line, modulo R (8.4). -/
def lineIndex (r trigger : Nat) (o : Int) : Nat := (((trigger : Int) + o) % (r : Int)).toNat

/-- The span of the segment holds ring index `k` (R133). -/
def Segment.holds (r : Nat) (g : Segment) (k : Nat) : Bool := g.order.any (fun o => lineIndex r g.trigger o == k)

/-- The unread line of the segment at ring index `k`, when there is one (R142). -/
def Segment.unreadAt (r : Nat) (g : Segment) (k : Nat) : Option Int :=
  g.unread.find? (fun o => lineIndex r g.trigger o == k)

/-- Lost lines not yet announced in a trace record (R141). -/
def Segment.cut (g : Segment) : Nat := g.lost.length - g.lostReported

/-- The last line of the readout order was lost rather than read (R141). -/
def Segment.lastLost (g : Segment) : Bool :=
  match g.order.getLast? with
  | none => false
  | some o => g.lost.contains o

/-- The number of descriptors that are FREE (R136). -/
def Capture.free (u : Capture) : Nat := u.segments.toList.countP (fun x => x.isNone)

/-! ## The end of a segment (R141, R142) -/

/-- The closing trace record of a segment (R141). -/
def closingTrace (part : Nat) (i : Fin 64) (g : Segment) (lost damaged : Bool) : TraceRecord :=
  { part := part, segment := some i, sensor := g.sensor, tick := g.arrival, offset := none, cut := g.cut, samples := none,
    gap := false, damaged := damaged, lost := lost, isEnd := true, dump := false }

/-- The access with a readout read of segment `i` no longer live: its record will not be offered (R142). -/
def Access.dropSegment (i : Fin 64) (a : Access) : Access :=
  match a.op with
  | .readout j o line live => { a with op := .readout j o line (live && !(j == i)) }
  | .write _ => a
  | .dump _ _ => a

/-- A segment ends: its closing record is offered and the descriptor becomes FREE (R141, R142). -/
def endSegment (i : Fin 64) (g : Segment) (lost damaged : Bool) (s : State) : State :=
  let t := (offer (.trace (closingTrace s.run.address i g lost damaged)) false s).setSegment i none
  t.setCapture { t.capture with access := t.capture.access.map (Access.dropSegment i) }

/-- A SEALED or READING segment that has lost lines and has no line both unread and not lost ends with LOST; any other
segment is kept (R142). -/
def keepOrEnd (i : Fin 64) (g : Segment) (s : State) : State :=
  if g.stage ≠ .filling ∧ g.lost ≠ [] ∧ g.unread = [] then endSegment i g true g.damaged s else s.setSegment i (some g)

/-! ## Losing lines (R142) -/

/-- Segment `i` loses its unread line at ring index `k` of channel `c`, if it has one there (R142). -/
def loseLine (c : Fin 32) (k : Nat) (i : Fin 64) (s : State) : State :=
  match s.capture.segments[i] with
  | none => s
  | some g =>
    if g.channel = c then
      match g.unreadAt s.capture.ringLines k with
      | none => s
      | some o => keepOrEnd i { g with lost := g.lost ++ [o] } s
    else s

/-- Ring index `k` of channel `c` is taken by a placement or a voiding (R142). -/
def takeIndex (c : Fin 32) (k : Nat) (s : State) : State := forEach allSegments (loseLine c k) s

/-- A ring write of this index is marked as voided meanwhile (R133). -/
def RingWrite.void (c : Fin 32) (k : Nat) (w : RingWrite) : RingWrite :=
  if w.channel = c ∧ w.index = k then { w with voided := true } else w

/-- The access with its ring write, if any, treated by `f`. -/
def Access.mapWrite (f : RingWrite → RingWrite) (a : Access) : Access :=
  match a.op with
  | .write w => { a with op := .write (f w) }
  | .readout _ _ _ _ => a
  | .dump _ _ => a

/-- A ring line's mark is set. -/
def setMark (c : Fin 32) (k : Nat) (m : LineMark) (s : State) : State :=
  s.setRing c { s.capture.rings[c] with marks := s.capture.rings[c].marks.set k m }

/-- A ring line becomes VOID; a write of it that is still to complete leaves it so (R133). -/
def voidMark (c : Fin 32) (k : Nat) (s : State) : State :=
  let t := setMark c k .void s
  t.setCapture
    { t.capture with
      queue := t.capture.queue.map (RingWrite.void c k)
      access := t.capture.access.map (Access.mapWrite (RingWrite.void c k)) }

/-- A ring line is voided, and taken from any segment that has not read it (R130, R142). -/
def voidIndex (c : Fin 32) (k : Nat) (s : State) : State := takeIndex c k (voidMark c k s)

/-- The `n` ring lines from the write position onward are voided (R130, R131). -/
def voidAhead (c : Fin 32) (n : Nat) (s : State) : State :=
  forEach (List.range n) (fun j t => voidIndex c ((s.capture.rings[c].writePos + j) % s.capture.ringLines) t) s

/-! ## Sealing (R138, R139) -/

/-- Descriptor `i` is a FILLING segment of channel `c`. -/
def isFilling (s : State) (c : Fin 32) (i : Fin 64) : Bool :=
  match s.capture.segments[i] with
  | none => false
  | some g => g.channel == c && g.stage == .filling

/-- The FILLING segment of a channel; there is at most one (R136). -/
def fillingOf (s : State) (c : Fin 32) : Option (Fin 64) := allSegments.find? (isFilling s c)

/-- A channel's FILLING segment, if any, is sealed with the lines it has written (R139). -/
def sealChannel (c : Fin 32) (s : State) : State :=
  match fillingOf s c with
  | none => s
  | some i =>
    match s.capture.segments[i] with
    | none => s
    | some g => keepOrEnd i { g with stage := .sealed } s

/-- A line placed at index `k` extends the channel's FILLING segment when it is its next line, and completes it when it is its
last post line (R138). -/
def extendSegment (c : Fin 32) (k : Nat) (s : State) : State :=
  match fillingOf s c with
  | none => s
  | some i =>
    match s.capture.segments[i] with
    | none => s
    | some g =>
      if k = (g.trigger + g.written) % s.capture.ringLines then
        let g' := { g with written := g.written + 1 }
        if g'.written = g.post + 1 then keepOrEnd i { g' with stage := .sealed } s else s.setSegment i (some g')
      else s

/-! ## The ring writer (R130 to R132) -/

/-- How a line with tick T meets the ring (R130). -/
inductive RingStep where
  | here
  | gap (d : Nat)
  | restart
  deriving DecidableEq, Repr

/-- The placement table of R130. -/
def Ring.step (r : Nat) (g : Ring) (t : Tick) : RingStep :=
  match g.ringTick with
  | none => .here
  | some x =>
    if x = t then .here
    else if ticksFrom x t % 16 = 0 ∧ ticksFrom x t / 16 ≤ r - 1 then .gap (ticksFrom x t / 16)
    else .restart

/-- The ring writer takes lines: RUN or TAILING, and the port READY (R130). -/
def State.ringWriting (s : State) : Bool := s.measuring && s.capture.port == .ready

/-- The port, free and READY, begins the write at the head of the queue (R134); the write then no longer counts among the 128 of
the queue (R130; log entry 43). -/
def beginWrite (s : State) : State :=
  match s.capture.access, s.capture.port, s.capture.queue with
  | none, .ready, w :: rest =>
    s.setCapture { s.capture with access := some { op := .write w, started := s.timebase.uptime }, queue := rest }
  | _, _, _ => s

/-- The write position advances by `n` and the ring tick by 16 × `n` (R130, R131). -/
def advanceRing (c : Fin 32) (n : Nat) (s : State) : State :=
  let g := s.capture.rings[c]
  s.setRing c
    { g with
      writePos := (g.writePos + n) % s.capture.ringLines
      ringTick := g.ringTick.map (fun t => tickAdd t (16 * n)) }

/-- The channel's ring is brought to the line's tick: nothing, a gap advance or a ring restart (R130). -/
def meetLine (c : Fin 32) (t : Tick) (s : State) : State :=
  match s.capture.rings[c].step s.capture.ringLines t with
  | .here => s
  | .gap d => advanceRing c d (voidAhead c d (sealChannel c s))
  | .restart =>
    let u := voidAhead c s.capture.ringLines (sealChannel c s)
    u.setRing c { u.capture.rings[c] with ringTick := some t }

/-- The write of a line joins the ring write queue, or the line is dropped when the queue holds 128 (R130). -/
def queueLine (c : Fin 32) (k : Nat) (data : Line) (s : State) : State :=
  if s.capture.queue.length < 128 then
    beginWrite (s.setCapture
      { s.capture with queue := s.capture.queue ++ [{ channel := c, index := k, data := data, voided := false }] })
  else voidMark c k s

/-- A line is placed at the write position (R130, R138, R142). -/
def placeAtWritePos (c : Fin 32) (t : Tick) (data : Line) (s : State) : State :=
  let k := s.capture.rings[c].writePos
  let u := queueLine c k data (takeIndex c k s)
  let v := u.setRing c
    { u.capture.rings[c] with writePos := (k + 1) % u.capture.ringLines, ringTick := some (tickAdd t 16) }
  extendSegment c k v

/-- The ring writer is handed a line (R130). -/
def ringLine (c : Fin 32) (t : Tick) (data : Line) (s : State) : State :=
  if s.ringWriting then placeAtWritePos c t data (meetLine c t s) else s

/-- The ring writer is told of `n` missing lines (R131). -/
def missingLines (c : Fin 32) (n : Nat) (s : State) : State :=
  if s.ringWriting && (s.capture.rings[c].ringTick).isSome then advanceRing c n (voidAhead c n s) else s

/-- The place of the line of channel `c` with tick T, and whether the line has already been placed (R132). -/
def linePlace (s : State) (c : Fin 32) (t : Tick) : Nat × Bool :=
  let g := s.capture.rings[c]
  let r := s.capture.ringLines
  if g.ringTick = some (tickAdd t 16) then ((g.writePos + r - 1) % r, true)
  else
    match g.step r t with
    | .here => (g.writePos, false)
    | .gap d => ((g.writePos + d) % r, false)
    | .restart => (g.writePos, false)

/-! ## Reservation (R137) -/

/-- The segment reserved for a hit (R137). -/
def newSegment (s : State) (c n : Fin 32) (arrival t : Tick) : Segment :=
  let p := linePlace s c t
  { stage := .filling, channel := c, sensor := n, arrival := arrival, trigger := p.1,
    pre := s.channels[c].preLines, post := s.channels[c].postLines, written := if p.2 then 1 else 0, nextPos := 0,
    lost := [], lostReported := 0, damaged := false }

/-- A segment just reserved is kept, and is complete at once when its trigger line is its only line and is placed (R138). -/
def reserveAt (i : Fin 64) (g : Segment) (s : State) : State :=
  s.setSegment i (some (if g.written = g.post + 1 then { g with stage := .sealed } else g))

/-- The capture unit answers a hit that opens with capture mode ON (R137). `t` is the stamp of the frame that holds the
arrival. -/
def captureAnswer (c n : Fin 32) (arrival t : Tick) (s : State) : State × CaptureAnswer :=
  if s.run.state ≠ .run then (s, .nothing)
  else if s.capture.port ≠ .ready then (s, .nocap)
  else
    match fillingOf s c with
    | some i => (s, .shared i)
    | none =>
      match allSegments.find? (fun i => s.capture.segments[i].isNone) with
      | some i => (reserveAt i (newSegment s c n arrival t) s, .segment i)
      | none => (s, .nocap)

/-! ## Selection (R140) -/

/-- The better of two SEALED segments for the readout: the earlier arrival, then the lower number (R140). -/
def betterSealed (s : State) (best : Option (Fin 64 × Segment)) (i : Fin 64) : Option (Fin 64 × Segment) :=
  match s.capture.segments[i] with
  | none => best
  | some g =>
    if g.stage = .sealed then
      match best with
      | none => some (i, g)
      | some (j, b) => if earlier g.arrival b.arrival then some (i, g) else some (j, b)
    else best

/-- The descriptor that is READING, if any. -/
def readingSegment (s : State) : Option (Fin 64 × Segment) :=
  allSegments.findSome? (fun i => (s.capture.segments[i]).bind (fun g => if g.stage = .reading then some (i, g) else none))

/-- When no segment is READING, the SEALED segment with the earliest hit arrival becomes READING (R140). -/
def selectReadout (s : State) : State :=
  match readingSegment s with
  | some _ => s
  | none =>
    match allSegments.foldl (betterSealed s) none with
    | none => s
    | some (i, g) => s.setSegment i (some { g with stage := .reading })

/-! ## Readout (R140, R141) -/

/-- A trace record for the line at an offset is built and offered; announced losses and DAMAGED are noted (R140, R141). In
bypass no record is made (R178), so none announces a loss. -/
def offerLine (i : Fin 64) (g : Segment) (o : Int) (samples : Option Line) (gap damaged : Bool) (s : State) : State :=
  let t := s.setSegment i (some
    { g with
      lostReported := if s.run.bypass then g.lostReported else g.lost.length
      damaged := g.damaged || damaged })
  offer (.trace
    { part := s.run.address, segment := some i, sensor := g.sensor, tick := g.arrival, offset := some o, cut := g.cut,
      samples := samples, gap := gap, damaged := damaged, lost := false, isEnd := false, dump := false }) false t

/-- A READING segment with no line left that is unread and not lost offers its closing record and becomes FREE (R141). -/
def endIfRead (i : Fin 64) (s : State) : State :=
  match s.capture.segments[i] with
  | none => s
  | some g => if g.stage = .reading ∧ g.unread = [] then endSegment i g g.lastLost g.damaged s else s

/-- A read access begins (R134). -/
def beginRead (op : AccessOp) (s : State) : State :=
  s.setCapture { s.capture with access := some { op := op, started := s.timebase.uptime } }

/-- The mark of a ring line (R129). -/
def markAt (s : State) (c : Fin 32) (k : Nat) : LineMark := s.capture.rings[c].marks.getD k .void

/-- The memory line of ring index `k` of channel `c` (R129). -/
def memoryLine (s : State) (c : Fin 32) (k : Nat) : Nat := c.val * s.capture.ringLines + k

/-- The place in the readout order of the first line from `nextPos` on that is not lost: lost lines are passed over (R140). -/
def Segment.nextUnlost (g : Segment) : Nat :=
  g.nextPos + ((g.order.drop g.nextPos).takeWhile (fun o => g.lost.contains o)).length

/-- The line at an offset is taken by the readout: read when HELD, announced when VOID or BAD (R140). -/
def takeLine (i : Fin 64) (g : Segment) (o : Int) (s : State) : State :=
  let k := lineIndex s.capture.ringLines g.trigger o
  match markAt s g.channel k with
  | .held => beginRead (.readout i o (memoryLine s g.channel k) true) (s.setSegment i (some g))
  | .void => endIfRead i (offerLine i g o none true false s)
  | .bad => endIfRead i (offerLine i g o none false true s)

/-- The readout takes its segment's next line (R140). -/
def readoutTake (i : Fin 64) (g : Segment) (s : State) : State :=
  match g.order[g.nextUnlost]? with
  | none => endIfRead i (s.setSegment i (some { g with nextPos := g.nextUnlost }))
  | some o => takeLine i { g with nextPos := g.nextUnlost + 1 } o s

/-- The port is free and READY and the ring write queue is empty (R134, R140, R145). -/
def State.portIdle (s : State) : Bool :=
  s.capture.access.isNone && s.capture.port == .ready && s.capture.queue.isEmpty

/-- What the readout waits for before it takes a line (R140). -/
def State.readoutReady (s : State) : Bool := decide (s.link.fill < 2048) && !s.run.bypass && s.portIdle

/-! ## The dump (R144, R145) -/

/-- The dump starts at FROZEN entry when D is not 0 and the port is READY (R144). -/
def startDump (s : State) : State :=
  if s.capture.dumpDepth ≠ 0 ∧ s.capture.port = .ready then
    s.setCapture
      { s.capture with
        dump := some
          { channels := allChannels.filter
              (fun c => (s.sensorMap[c]).isSome && (s.capture.rings[c].ringTick).isSome)
            line := 0, sent := 0, damaged := 0 } }
  else s

/-- The dump ends or is stopped, with its DUMP notice (R145). -/
def endDump (stopped : Bool) (s : State) : State :=
  match s.capture.dump with
  | none => s
  | some d => notify (.dump d.sent d.damaged stopped) (s.setCapture { s.capture with dump := none })

/-- The dump after a line of depth `depth` has been offered: next line, or the next channel (R144). -/
def Dump.advance (d : Dump) (depth : Nat) (damaged : Bool) : Dump :=
  let d' := { d with sent := d.sent + 1, damaged := if damaged then d.damaged + 1 else d.damaged }
  if d.line + 1 < depth then { d' with line := d.line + 1 } else { d' with channels := d.channels.tail, line := 0 }

/-- The ring index of line `j` of the dump of channel `c` (R144). -/
def dumpIndex (s : State) (c : Fin 32) (j : Nat) : Nat :=
  (s.capture.rings[c].writePos + s.capture.ringLines - s.capture.dumpDepth + j) % s.capture.ringLines

/-- The tick of line `j` of the dump of channel `c` (R144). -/
def dumpTick (s : State) (c : Fin 32) (j : Nat) : Tick :=
  tickBack (s.capture.rings[c].ringTick.getD 0) (16 * (s.capture.dumpDepth - j))

/-- A dump trace record (R144). -/
def dumpTrace (s : State) (c : Fin 32) (j : Nat) (samples : Option Line) (gap damaged : Bool) : TraceRecord :=
  { part := s.run.address, segment := none, sensor := (s.sensorMap[c]).getD 0, tick := dumpTick s c j, offset := none,
    cut := 0, samples := samples, gap := gap, damaged := damaged, lost := false, isEnd := false, dump := true }

/-- A dump trace record is offered and the dump moves on (R144). -/
def offerDumpLine (d : Dump) (c : Fin 32) (samples : Option Line) (gap damaged : Bool) (s : State) : State :=
  let t := offer (.trace (dumpTrace s c d.line samples gap damaged)) false s
  t.setCapture { t.capture with dump := some (d.advance s.capture.dumpDepth damaged) }

/-- The dump ends when the last line of the last channel has been offered (R145). -/
def endDumpIfDone (s : State) : State :=
  match s.capture.dump with
  | none => s
  | some d => if d.channels = [] then endDump false s else s

/-- The dump takes its next line, or ends when it has none (R144, R145). -/
def dumpTake (d : Dump) (s : State) : State :=
  match d.channels with
  | [] => endDump false s
  | c :: _ =>
    let k := dumpIndex s c d.line
    match markAt s c k with
    | .held => beginRead (.dump (memoryLine s c k) true) s
    | .void => endDumpIfDone (offerDumpLine d c none true false s)
    | .bad => endDumpIfDone (offerDumpLine d c none false true s)

/-- What the dump waits for before it takes a line (R145). -/
def State.dumpReady (s : State) : Bool := decide (s.link.fill < 2048) && s.portIdle

/-! ## The end of an access (R133 to R135) -/

/-- An outcome that gives the line: DONE or SPLIT. -/
def AccessOutcome.good : AccessOutcome → Bool
  | .done => true
  | .split => true
  | .fault => false
  | .timeout => false

/-- The outcome the memory answered. -/
def outcomeOf : Answered → AccessOutcome
  | .done => .done
  | .split => .split
  | .fault => .fault

/-- The port is freed and the outcome counted: consecutive failures, SPLIT and FAULT counts (R133). -/
def countOutcome (o : AccessOutcome) (s : State) : State :=
  let t := s.setCapture
    { s.capture with access := none, failures := if o.good then 0 else s.capture.failures + 1 }
  match o with
  | .done => t
  | .split => t.setCounts { t.link.counts with split := tallyAdd t.link.counts.split 1 }
  | .fault => t.setCounts { t.link.counts with fault := tallyAdd t.link.counts.fault 1 }
  | .timeout => t.setCounts { t.link.counts with fault := tallyAdd t.link.counts.fault 1 }

/-- A segment of the channel whose span holds the index is DAMAGED by a failed write (R133). -/
def damageSegment (c : Fin 32) (k : Nat) (i : Fin 64) (s : State) : State :=
  match s.capture.segments[i] with
  | none => s
  | some g =>
    if g.channel = c ∧ g.holds s.capture.ringLines k = true then s.setSegment i (some { g with damaged := true }) else s

/-- The memory after a write of a line: the line, or contents that are no longer known. -/
def writeMemory (w : RingWrite) (good : Bool) (s : State) : State :=
  let a := memoryLine s w.channel w.index
  s.setCapture
    { s.capture with
      memory := if good then Memory.write s.capture.memory a w.data else Memory.forget s.capture.memory a }

/-- The line's mark after its write: HELD or BAD, with DAMAGED segments; a line voided meanwhile stays VOID (R133). -/
def markWritten (w : RingWrite) (good : Bool) (s : State) : State :=
  if w.voided then s
  else if good then setMark w.channel w.index .held s
  else forEach allSegments (damageSegment w.channel w.index) (setMark w.channel w.index .bad s)

/-- A ring write completes (R133). -/
def finishWrite (w : RingWrite) (o : AccessOutcome) (s : State) : State :=
  markWritten w o.good (writeMemory w o.good (countOutcome o s))

/-- A readout read completes: its trace record is offered, unless its segment has ended meanwhile (R140, R142, R143). -/
def finishReadout (i : Fin 64) (off : Int) (line : Nat) (live : Bool) (o : AccessOutcome) (s : State) : State :=
  let t := countOutcome o s
  if live then
    match t.capture.segments[i] with
    | none => t
    | some g =>
      if o.good then offerLine i g off (some (Memory.fetch t.capture.memory line)) false false t
      else offerLine i g off none false true t
  else t

/-- A dump read completes: its dump trace record is offered, unless RELEASE stopped the dump meanwhile (R144, R145). -/
def finishDump (line : Nat) (live : Bool) (o : AccessOutcome) (s : State) : State :=
  let t := countOutcome o s
  if live then
    match t.capture.dump with
    | none => t
    | some d =>
      match d.channels with
      | [] => t
      | c :: _ =>
        if o.good then offerDumpLine d c (some (Memory.fetch t.capture.memory line)) false false t
        else offerDumpLine d c none false true t
  else t

/-- A segment ended by port failure: closing record flagged DAMAGED (R135, R141). -/
def failSegment (i : Fin 64) (s : State) : State :=
  match s.capture.segments[i] with
  | none => s
  | some g => endSegment i g false true s

/-- The port enters FAILED (R135). -/
def failPort (kind : AccessKind) (o : AccessOutcome) (s : State) : State :=
  let t := s.setCapture { s.capture with port := .failed, queue := [] }
  endDump true (forEach allSegments failSegment (notify (.capture kind o (64 - t.capture.free)) t))

/-- The kind of an access, as a CAPTURE notice names it (R135). -/
def AccessOp.kind : AccessOp → AccessKind
  | .write _ => .ringWrite
  | .readout _ _ _ _ => .readout
  | .dump _ _ => .dump

/-- The work of a completed access on its line. -/
def finishOp (op : AccessOp) (o : AccessOutcome) (s : State) : State :=
  match op with
  | .write w => finishWrite w o s
  | .readout i off line live => finishReadout i off line live o s
  | .dump line live => finishDump line live o s

/-- The ends a completed read may bring when the port has not failed (R141, R145). -/
def endsAfter (op : AccessOp) (s : State) : State :=
  match op with
  | .write _ => s
  | .readout i _ _ live => if live then endIfRead i s else s
  | .dump _ live => if live then endDumpIfDone s else s

/-- An access ends with an outcome: its work is done, the fourth consecutive failure puts the port in FAILED, the next segment
is selected and the next write begins (R133 to R135, R140). -/
def endAccess (o : AccessOutcome) (a : Access) (s : State) : State :=
  let t := finishOp a.op o s
  let u := if t.capture.port = .ready ∧ 4 ≤ t.capture.failures then failPort a.op.kind o t else endsAfter a.op t
  beginWrite (selectReadout u)

/-! ## Run control and the capture unit (R143) -/

/-- A segment left over from the last run has its unread lines voided and ends with LOST (R143). -/
def dropLeftover (i : Fin 64) (s : State) : State :=
  match s.capture.segments[i] with
  | none => s
  | some g => if g.stage = .filling then s else endSegment i { g with lost := g.lost ++ g.unread } true g.damaged s

/-- Every ring as R129 resets it. -/
def resetRings (r : Nat) : Vector Ring 32 := Vector.replicate 32 (Ring.reset r)

/-- START at the capture unit (R143). -/
def startCapture (s : State) : State :=
  forEach allSegments dropLeftover (s.setCapture
    { s.capture with
      queue := []
      access := s.capture.access.map (Access.mapWrite (fun w => { w with voided := true }))
      rings := resetRings s.capture.ringLines })

/-- FROZEN entry: every segment becomes FREE without output; a read in progress will not offer its record (R143). -/
def freeSegments (s : State) : State :=
  s.setCapture
    { s.capture with
      segments := Vector.replicate 64 none
      access := s.capture.access.map (fun a =>
        match a.op with
        | .readout i o line _ => { a with op := .readout i o line false }
        | .write _ => a
        | .dump _ _ => a) }

/-- RELEASE stops the dump: the DUMP notice is offered, and a read in progress will not offer its record (R145). -/
def stopDump (s : State) : State :=
  match s.capture.dump with
  | none => s
  | some _ =>
    endDump true (s.setCapture
      { s.capture with
        access := s.capture.access.map (fun a =>
          match a.op with
          | .dump line _ => { a with op := .dump line false }
          | .write _ => a
          | .readout _ _ _ _ => a) })

/-- The memory when an access in progress is abandoned: the line of an abandoned write is no longer known. -/
def Capture.abandoned (u : Capture) : Memory :=
  match u.access with
  | some { op := .write w, .. } => Memory.forget u.memory (w.channel.val * u.ringLines + w.index)
  | _ => u.memory

/-- The capture unit after RESTART (R143). -/
def Capture.restart (u : Capture) : Capture :=
  { u with
    rings := resetRings u.ringLines
    memory := u.abandoned
    queue := []
    access := none
    port := .ready
    failures := 0
    segments := Vector.replicate 64 none
    dump := none }

end Sys2Proof.Machine
end

