-- ==== Sys2Proof/Machine/Table.lean ====
section
/-! DEFINITION. The channel table and the liveness of detectors: switching banks (R41), pending banks (R43 to R46), and entry
into QUIET (R55). -/

namespace Sys2Proof.Machine

/-- Place of a phase in the phase bank map (3.1). -/
def Phase.index : Phase → Fin 6
  | .below => 0
  | .ramp => 1
  | .hold => 2
  | .fall => 3
  | .reload => 4
  | .nogauge => 5

/-- The detector is QUIET or OFF, the states in which the active bank may change (R41). -/
def DetState.mayswitch : DetState → Bool
  | .off => true
  | .quiet => true
  | .opened _ => false
  | .rearm _ => false

/-- The active bank becomes the pending bank while the detector is QUIET or OFF (R41). -/
def applyPending (c : Fin 32) (s : State) : State :=
  if s.detectors[c].state.mayswitch then s.setChannel c { s.channels[c] with active := s.channels[c].pending } else s

/-- The pending bank is set, and R41 applies. -/
def setPending (c : Fin 32) (b : Fin 4) (s : State) : State :=
  applyPending c (s.setChannel c { s.channels[c] with pending := b })

/-- The phase bank map's entry for the tracker's present phase. -/
def State.phaseBank (s : State) : Fin 4 := s.phaseMap[s.tracker.phase.index]

/-- A channel whose follow flag is set takes the map's entry for the present phase as its pending bank (R45, R46). -/
def followChannel (c : Fin 32) (s : State) : State :=
  if s.channels[c].follow then setPending c s.phaseBank s else s

/-- Every follow channel takes the map's entry for the present phase as its pending bank (R45, R46). -/
def followPhase (s : State) : State := forEach allChannels followChannel s

/-- The bank record a channel's detector measures with. -/
def State.activeBank (s : State) (c : Fin 32) : Bank := s.channels[c].banks[s.channels[c].active]

/-- The three conditions of R54 under which a detector is live. -/
def State.mayLive (s : State) (c : Fin 32) : Bool :=
  (s.measuring || s.listening) && s.podUp (laneOf c) && (s.sensorMap[c]).isSome

/-- A detector in OFF whose conditions hold enters QUIET and applies any pending bank (R55). -/
def makeLive (c : Fin 32) (s : State) : State :=
  if s.mayLive c && !(s.detectors[c].live) then
    applyPending c (s.setDetector c { s.detectors[c] with state := .quiet, feed := none })
  else s

/-- The physical channel mapped to a sensor (R49, R50: no sensor is held by two channels). -/
def State.channelOfSensor (s : State) (n : Fin 32) : Option (Fin 32) :=
  allChannels.find? (fun c => s.sensorMap[c] == some n)

end Sys2Proof.Machine
end

