-- ==== Sys2Proof/Machine/Detector.lean ====
section
/-! DEFINITION. What a channel detector measures: opening a hit, its measures, the close tests and the hit record
(chapter 4). Handing a closed hit on is in Pulse.lean and Burst.lean. -/

namespace Sys2Proof.Machine

/-- The magnitude of a sample: its absolute value, capped at 32767 (00_scope section 4). -/
def magnitude (x : Sample) : Nat := min x.toInt.natAbs 32767

/-- The energy of a sample: its square divided by 256 and rounded down (R61, R63). -/
def sampleEnergy (x : Sample) : Nat := x.toInt.natAbs * x.toInt.natAbs / 256

/-- A sample is saturated when its magnitude is 32767 or its frame carries the mark for its slot (R15, R66). -/
def saturatedSample (x : Sample) (mark : Bool) : Bool := mark || magnitude x == 32767

/-- The measures of a hit at its opening sample, with the arrival context (R61, R62). -/
def openHit (s : State) (c n : Fin 32) (x : FeedSample) (a : CaptureAnswer) : OpenHit :=
  { arrival := x.tick, peak := magnitude x.value, peakTick := x.tick, crossings := 1, energy := sampleEnergy x.value,
    lastAbove := x.tick, prevAbove := true, sat := x.saturated, sensor := n, bank := s.channels[c].active,
    phase := s.tracker.phase, pressure := if s.tracker.phase = .nogauge then none else s.tracker.pressure, capture := a }

/-- The measures after steps 1 to 4 of 4.5 for a processed sample (R63 to R66). -/
def OpenHit.measure (h : OpenHit) (b : Bank) (x : FeedSample) : OpenHit :=
  let m := magnitude x.value
  let above := decide (b.threshold ≤ m)
  let higher := decide (ticksFrom h.arrival x.tick < b.riseWindow) && decide (h.peak < m)
  { h with
    energy := satAdd (2 ^ 32 - 1) h.energy (sampleEnergy x.value)
    crossings := if above && !h.prevAbove then satAdd 65535 h.crossings 1 else h.crossings
    lastAbove := if above then x.tick else h.lastAbove
    prevAbove := above
    peak := if higher then m else h.peak
    peakTick := if higher then x.tick else h.peakTick
    sat := h.sat || x.saturated }

/-- How a processed sample closes the hit, if it does: the QUIET test, then the LIMIT test (R67, R68). -/
def OpenHit.closedBy (h : OpenHit) (b : Bank) (tick : Tick) : Option CloseCause :=
  if b.quietSpan ≤ ticksFrom h.lastAbove tick then some .quiet
  else if b.durationLimit ≤ ticksFrom h.arrival tick + 1 then some .limit
  else none

/-- The duration of a hit by its close cause (4.6). -/
def OpenHit.duration (h : OpenHit) (b : Bank) : CloseCause → Nat
  | .limit => b.durationLimit
  | .quiet => ticksFrom h.arrival h.lastAbove + 1
  | .skip => ticksFrom h.arrival h.lastAbove + 1
  | .lost => ticksFrom h.arrival h.lastAbove + 1
  | .halt => ticksFrom h.arrival h.lastAbove + 1

/-- The segment of a capture answer (R74). -/
def CaptureAnswer.segment? : CaptureAnswer → Option (Fin 64)
  | .nothing => none
  | .segment n => some n
  | .shared n => some n
  | .nocap => none

def CaptureAnswer.isShared : CaptureAnswer → Bool
  | .shared _ => true
  | _ => false

def CaptureAnswer.isNocap : CaptureAnswer → Bool
  | .nocap => true
  | _ => false

/-- The hit record built at the close (R73 to R75). -/
def hitRecord (s : State) (c : Fin 32) (h : OpenHit) (cause : CloseCause) : HitRecord :=
  { part := s.run.address, channel := c, sensor := h.sensor, arrival := h.arrival,
    rise := ticksFrom h.arrival h.peakTick, duration := h.duration s.channels[c].banks[h.bank] cause,
    crossings := h.crossings, peak := h.peak, energy := h.energy, pressure := h.pressure, phase := h.phase,
    bank := h.bank, cause := cause, sat := h.sat, test := false, nocap := h.capture.isNocap,
    shared := h.capture.isShared, segment := h.capture.segment?, group := none }

/-- The detector's state after a QUIET or LIMIT close at a sample (R69). -/
def afterSampleClose (b : Bank) (tick : Tick) : DetState :=
  if b.rearmSpan = 0 then .quiet else .rearm (tickAdd tick b.rearmSpan)

/-- The detector takes a state, and any bank switch that state brings (R41). -/
def enterState (c : Fin 32) (x : DetState) (s : State) : State :=
  applyPending c (s.setDetector c { s.detectors[c] with state := x })

/-- A detector in QUIET tests a sample; at or above the threshold it opens a hit (R61, R62). `t` is the stamp of the sample's
frame. -/
def quietSample (c : Fin 32) (t : Tick) (x : FeedSample) (s : State) : State :=
  match s.sensorMap[c] with
  | none => s
  | some n =>
    if (s.activeBank c).threshold ≤ magnitude x.value then
      let r := if s.channels[c].captureOn then captureAnswer c n x.tick t s else (s, .nothing)
      r.1.setDetector c { r.1.detectors[c] with state := .opened (openHit s c n x r.2) }
    else s

end Sys2Proof.Machine
end

