-- ==== Sys2Proof/Machine/Cells.lean ====
section
/-! DEFINITION. The cell unit: which events a cell accounts, its alarm states, the rate slots and the clearing of cells
(chapter 7). -/

namespace Sys2Proof.Machine

/-- The cells, ascending. -/
def cellNumbers : List (Fin 1024) := List.finRange 1024

/-- The eight-slot sum of a cell (7.1). -/
def Cell.sum (c : Cell) : Nat := c.slots.toList.sum

/-- The cell after an accounted event has updated it (R115). -/
def Cell.accounted (c : Cell) (e : EventRecord) : Cell :=
  { c with
    events := satAdd (2 ^ 32 - 1) c.events 1
    energy := satAdd (2 ^ 48 - 1) c.energy e.energy
    slots := put c.slots 0 (satAdd 65535 c.slots[0] 1)
    holdCount := if e.phase = .hold then satAdd 65535 c.holdCount 1 else c.holdCount
    reloadCount := if e.phase = .reload then satAdd 65535 c.reloadCount 1 else c.reloadCount }

/-- The first condition of R116 that holds for an updated cell and an event of this phase. -/
def Cell.alarmCause (c : Cell) (k : ClassRecord) (p : Phase) : Option AlarmCause :=
  if k.holdLimit ≠ 0 ∧ k.holdLimit ≤ c.holdCount ∧ p = .hold then some .hold
  else if k.reloadLimit ≠ 0 ∧ k.reloadLimit ≤ c.reloadCount then some .reload
  else if k.energyLimit ≠ 0 ∧ k.energyLimit ≤ c.energy then some .energy
  else none

/-- The notice cause that names an alarm cause (R125). -/
def AlarmCause.notice : AlarmCause → CellCause
  | .hold => .hold
  | .reload => .reload
  | .energy => .energy

/-- The alarm state an updated cell takes at its evaluation, with the notice cause when the state changes (R116, R117). -/
def Cell.evaluate (c : Cell) (k : ClassRecord) (p : Phase) : Alarm × Option CellCause :=
  match c.alarm with
  | .alarm a => (.alarm a, none)
  | .watch =>
    match c.alarmCause k p with
    | some a => (.alarm a, some a.notice)
    | none => (.watch, none)
  | .quiet =>
    match c.alarmCause k p with
    | some a => (.alarm a, some a.notice)
    | none => if k.watchRate ≠ 0 ∧ k.watchRate ≤ c.sum then (.watch, some .rate) else (.quiet, none)

/-- A cell takes an alarm state, with one CELL notice when the state changes (R125). -/
def changeAlarm (n : Fin 1024) (c : Cell) (a : Alarm) (cause : Option CellCause) (s : State) : State :=
  let t := s.setCell n { c with alarm := a }
  match cause with
  | some k => notify (.cell n c.alarm a k) t
  | none => t

/-- The event is accounted to its cell when it carries one, the run state is RUN and it is not HALTED (R114). -/
def accountEvent (e : EventRecord) (s : State) : State :=
  match e.cell with
  | none => s
  | some n =>
    if s.run.state = .run ∧ e.halted = false then
      let c := s.cells.cells[n].accounted e
      let r := c.evaluate s.cells.classes[c.cls] e.phase
      changeAlarm n c r.1 r.2 s
    else s

/-- The rate slots shifted one place older (R119). -/
def Cell.shifted (c : Cell) : Cell :=
  { c with slots := #v[0, c.slots[0], c.slots[1], c.slots[2], c.slots[3], c.slots[4], c.slots[5], c.slots[6]] }

/-- A WATCH cell whose sum is below half the watch rate, rounded up, returns to QUIET (R119). -/
def decayCell (n : Fin 1024) (s : State) : State :=
  let c := s.cells.cells[n]
  if c.alarm = .watch ∧ c.sum < (s.cells.classes[c.cls].watchRate + 1) / 2 then
    changeAlarm n c .quiet (some .decay) s
  else s

/-- A slot boundary: every cell's slots shift, then the WATCH cells are examined in ascending number (R119). -/
def shiftSlots (s : State) : State :=
  forEach cellNumbers decayCell (s.setCells { s.cells with cells := mapTable Cell.shifted s.cells.cells })

/-- The hold count of every cell becomes 0 at an entry into HOLD in RUN (R121). -/
def holdEntered (s : State) : State :=
  if s.run.state = .run then
    s.setCells { s.cells with cells := mapTable (fun c => { c with holdCount := 0 }) s.cells.cells }
  else s

/-- CLEAR-CELL on one cell (R123). -/
def clearCell (n : Fin 1024) (s : State) : State :=
  let c := s.cells.cells[n]
  changeAlarm n { c with holdCount := 0, reloadCount := 0 } .quiet (if c.alarm = .quiet then none else some .clear) s

/-- A cell with its counts, slots and energy at 0 (R110, R124). -/
def Cell.zeroed (c : Cell) : Cell :=
  { c with events := 0, energy := 0, holdCount := 0, reloadCount := 0, slots := Vector.replicate 8 0 }

/-- START on one cell (R124). -/
def startCell (n : Fin 1024) (s : State) : State :=
  let c := s.cells.cells[n]
  changeAlarm n c.zeroed .quiet (if c.alarm = .quiet then none else some .start) s

/-- START at the cells (R124); the rate slot timer starts later, at step 6 of R161. -/
def startCells (s : State) : State := forEach cellNumbers startCell s

/-- The cell unit after RESTART (R110). -/
def CellUnit.restart (u : CellUnit) : CellUnit :=
  { u with cells := mapTable (fun c => { c.zeroed with alarm := .quiet }) u.cells, boundary := none }

end Sys2Proof.Machine
end

