-- ==== Sys2Proof/Machine/Location.lean ====
section
/-! DEFINITION. The location unit: pair lookup, zone fallback, third-arrival check and the event record (chapter 6). -/

namespace Sys2Proof.Machine

/-- The entry of the pair table with this key (6.1). -/
def pairEntry (t : Vector (Option PairEntry) 512) (f n : Fin 32) : Option PairEntry :=
  t.toList.findSome? (fun e => e.filter (fun e => e.first == f && e.second == n))

/-- The cell an entry gives for a delay: the bin must be in use and must hold a cell (R102). -/
def PairEntry.cellAt (e : PairEntry) (delay : Nat) : Option (Fin 1024) :=
  if delay / e.binWidth < e.binCount then e.cells.getD (delay / e.binWidth) none else none

/-- The pair lookup for a key and a delay (R102). -/
def pairLookup (t : Vector (Option PairEntry) 512) (f n : Fin 32) (delay : Nat) : Option (Fin 1024) :=
  (pairEntry t f n).bind (fun e => e.cellAt delay)

/-- A location result: method, cell and SPLITVOTE. -/
structure Location where
  method : Method
  cell : Option (Fin 1024)
  splitvote : Bool
  deriving DecidableEq, Repr

/-- The zone fallback on the first member's channel (R103). -/
def zoneOf (s : State) (c : Fin 32) : Location :=
  match s.channels[c].homeCell with
  | some n => { method := .zone, cell := some n, splitvote := false }
  | none => { method := .none, cell := none, splitvote := false }

/-- The third-arrival check: the flag is set when the lookup of the first and third arrivals gives another cell (R105). -/
def splitVote (t : Vector (Option PairEntry) 512) (anchor : Tick) (f : HitRecord) (third : Option HitRecord)
    (cell : Fin 1024) : Bool :=
  match third with
  | none => false
  | some m =>
    match pairLookup t f.sensor m.sensor (ticksFrom anchor m.arrival) with
    | none => false
    | some n => !(n == cell)

/-- The method and the cell of a closed group (R100 to R105). -/
def locate (s : State) (g : Group) : Location :=
  if g.members.length < s.grouping.minMembers then { method := .none, cell := none, splitvote := false }
  else
    match g.members with
    | f :: n :: rest =>
      match pairLookup s.pairs f.sensor n.sensor (ticksFrom g.anchor n.arrival) with
      | some cell => { method := .pair, cell := some cell, splitvote := splitVote s.pairs g.anchor f rest.head? cell }
      | none => zoneOf s f.channel
    | [f] => zoneOf s f.channel
    | [] => { method := .none, cell := none, splitvote := false }

/-- A member entry of the event record (R107). -/
def memberEntry (anchor : Tick) (h : HitRecord) : MemberEntry :=
  { sensor := h.sensor, delay := ticksFrom anchor h.arrival, peak := h.peak, sat := h.sat }

/-- The summed energy, added in member order and saturating at 2^32 − 1 (R107). -/
def summedEnergy (l : List HitRecord) : Nat := l.foldl (fun e h => satAdd (2 ^ 32 - 1) e h.energy) 0

/-- The event record of a group as it closes (R106 to R108). The pressure and phase are those of the first member. -/
def eventRecord (s : State) (g : Group) (how : GroupClose) : EventRecord :=
  let r := locate s g
  { part := s.run.address
    group := g.number
    anchor := g.anchor
    members := g.members.map (memberEntry g.anchor)
    energy := summedEnergy g.members
    method := r.method
    cell := r.cell
    pressure := g.members.head?.bind (fun h => h.pressure)
    phase := (g.members.head?.map (fun h => h.phase)).getD .nogauge
    crowded := how == .crowded
    late := how == .late
    halted := how == .halted
    behind := g.behind
    afterburst := s.run.state == .tailing
    splitvote := r.splitvote }

end Sys2Proof.Machine
end

