-- ==== Sys2Proof/Machine/Grouping.lean ====
section
/-! DEFINITION. The grouping unit: candidates, joining, opening, eviction, the close condition and the output of a closed
group (chapter 5). -/

namespace Sys2Proof.Machine

/-- The span test of R80: the larger of latest and arrival, minus the smaller of anchor and arrival, is less than W. -/
def Group.spans (g : Group) (w : Nat) (arrival : Tick) : Bool :=
  decide (ticksFrom (earlierOf g.anchor arrival) (laterOf g.latest arrival) < w)

/-- The sensor is that of a member of the group. -/
def Group.hasSensor (g : Group) (n : Fin 32) : Bool := g.members.any (fun m => m.sensor == n)

/-- An open group is a candidate for a hit (R80). -/
def Group.candidate (g : Group) (w : Nat) (h : HitRecord) : Bool := !(g.hasSensor h.sensor) && g.spans w h.arrival

/-- Member order: by arrival, equal arrivals by sensor number (R79). -/
def memberBefore (a b : HitRecord) : Bool :=
  if a.arrival = b.arrival then decide (a.sensor < b.sensor) else earlier a.arrival b.arrival

/-- A hit placed in an arrival-ordered list (R79, R81, R147); it goes after those not after it. -/
def insertHit (h : HitRecord) : List HitRecord → List HitRecord
  | [] => [h]
  | m :: ms => if memberBefore h m then h :: m :: ms else m :: insertHit h ms

/-- A group placed in the open group list: by anchor, after any group with the same anchor (5.3). -/
def insertGroup (g : Group) : List Group → List Group
  | [] => [g]
  | x :: xs => if earlier g.anchor x.anchor then g :: x :: xs else x :: insertGroup g xs

/-- The hold deadline of an anchor: anchor + W + H (R79). -/
def Grouping.deadline (u : Grouping) (anchor : Tick) : Tick := tickAdd anchor (u.window + u.holdLimit)

/-- The anchor precedes the last closed anchor, when there is one (R81, R82). -/
def Grouping.precedes (u : Grouping) (anchor : Tick) : Bool :=
  match u.lastClosed with
  | none => false
  | some t => earlier anchor t

/-- The group after the hit has joined it (R81). -/
def Group.join (u : Grouping) (g : Group) (h : HitRecord) : Group :=
  let g' := { g with members := insertHit h g.members, latest := laterOf g.latest h.arrival }
  if earlier h.arrival g.anchor then
    { g' with anchor := h.arrival, deadline := u.deadline h.arrival, behind := g.behind || u.precedes h.arrival }
  else g'

/-- The open group list with `old` replaced by `new`, which takes a new place only when its anchor moved (R81). -/
def replaceGroup (old new : Group) (l : List Group) : List Group :=
  if old.anchor = new.anchor then l.map (fun x => if x.number = old.number then new else x)
  else insertGroup new (l.filter (fun x => !(x.number == old.number)))

/-- A new group with the hit as its one member (R82). -/
def openGroup (h : HitRecord) (s : State) : State :=
  let u := s.grouping
  let g : Group :=
    { number := u.counter, anchor := h.arrival, latest := h.arrival, members := [h], deadline := u.deadline h.arrival,
      behind := u.precedes h.arrival }
  s.setGrouping { u with groups := insertGroup g u.groups, counter := u.counter + 1 }

/-- The records of a closed group, offered as the event record and then each member hit record (R92). -/
def offerGroup (e : EventRecord) (members : List HitRecord) (s : State) : State :=
  forEach members (fun h => offer (.hit { h with group := some e.group }) e.cell.isSome)
    (offer (.event e) false s)

/-- A group closes: it leaves the list, the last closed anchor becomes its anchor, it is located, accounted and its records
are offered (R92, R109). -/
def closeGroup (how : GroupClose) (g : Group) (s : State) : State :=
  let s1 := s.setGrouping
    { s.grouping with
      groups := s.grouping.groups.filter (fun x => !(x.number == g.number))
      lastClosed := some g.anchor }
  let e := eventRecord s1 g how
  offerGroup e g.members (accountEvent e s1)

/-- A live detector that does not hold the group open: it has been heard to the end of the window and has no open hit that
could join (R84). -/
def Group.heardOn (g : Group) (w : Nat) (d : Detector) : Bool :=
  (match d.horizon with
   | none => false
   | some h => atOrAfter h (tickAdd g.anchor (w - 1))) &&
  (match d.state with
   | .opened o => !(g.spans w o.arrival)
   | _ => true)

/-- Channel `c` does not hold the group open: its detector is OFF, its sensor is a member, or it has been heard (R84). -/
def channelClear (s : State) (g : Group) (c : Fin 32) : Bool :=
  let d := s.detectors[c]
  if d.live then
    match s.sensorMap[c] with
    | none => true
    | some n => g.hasSensor n || g.heardOn s.grouping.window d
  else true

/-- The normal close condition of an open group (R84). -/
def closeCondition (s : State) (g : Group) : Bool :=
  allChannels.all (channelClear s g) && s.pulse.hold.all (fun h => !(g.candidate s.grouping.window h))

/-- How an examined group closes, if it does: normally when its condition holds, LATE when the timebase has reached its
deadline (R85, R86). -/
def closeVerdict (s : State) (g : Group) : Option GroupClose :=
  if closeCondition s g then some .normal
  else if atOrAfter s.timebase.counter g.deadline then some .late
  else none

/-- The groups that close at a test, in the order of the open group list (R85). -/
def closing (s : State) : List (Group × GroupClose) :=
  s.grouping.groups.filterMap (fun g => (closeVerdict s g).map (fun v => (g, v)))

/-- The close test: every open group is examined, and those that close do so one after another (R85). -/
def closeTest (s : State) : State := forEach (closing s) (fun p => closeGroup p.2 p.1) s

/-- The first candidate of a hit in the order of the open group list (R80). -/
def firstCandidate (u : Grouping) (h : HitRecord) : Option Group := u.groups.find? (fun g => g.candidate u.window h)

/-- The first group of the list closes with CROWDED when 8 groups are open (R83). -/
def evictFirst (s : State) : State :=
  match s.grouping.groups with
  | g :: _ => if 8 ≤ s.grouping.groups.length then closeGroup .crowded g s else s
  | [] => s

/-- A presented hit joins its first candidate, or opens a group, evicting the first group when 8 are open (R80 to R83). The
close test that follows is made by the caller. -/
def placeHit (h : HitRecord) (s : State) : State :=
  match firstCandidate s.grouping h with
  | some g =>
    s.setGrouping { s.grouping with groups := replaceGroup g (g.join s.grouping h) s.grouping.groups }
  | none => openGroup h (evictFirst s)

/-- Every open group closes with HALTED, in the order of the list (R89). -/
def haltGroups (s : State) : State := forEach s.grouping.groups (closeGroup .halted) s

/-- The grouping unit after RESTART: the list emptied without output (R77, R90). -/
def Grouping.restart (u : Grouping) : Grouping := { u with groups := [], counter := 0, lastClosed := none }

end Sys2Proof.Machine
end

