-- ==== Sys2Proof/Machine/Pulse.lean ====
section
/-! DEFINITION. The pulse test unit, the hand-over of a closed hit, and a detector's entry into OFF (chapter 9, R56, R76).

A hit that goes to the grouping unit may make the tracker declare burst, and a declaration ends a test, which releases
hits in its turn (R35, R36, R165). So the work of this file takes as an argument what presenting a hit means: `pres`.
Burst.lean gives it the two meanings there are. -/

namespace Sys2Proof.Machine

/-- What presenting a hit to the grouping unit does. -/
abbrev Presenter := HitRecord → State → State

/-- Whether the close tests of R85 are made, or withheld as in a departure from RUN or TAILING (R89). -/
inductive Tests where
  | made
  | withheld
  deriving DecidableEq, Repr

/-- The grouping unit's close test, unless withheld. -/
def groupTest (m : Tests) (s : State) : State :=
  match m with
  | .made => closeTest s
  | .withheld => s

/-- The arrival lies in [F, F + window) (9.4). -/
def inWindow (fire : Tick) (window : Nat) (arrival : Tick) : Bool := decide (ticksFrom fire arrival < window)

/-- The result table after a TEST hit: the first TEST hit of a sensor makes its entry (R153). -/
def recordResult (v : Vector (Option TestEntry) 32) (fire : Tick) (h : HitRecord) : Vector (Option TestEntry) 32 :=
  match v[h.sensor] with
  | some _ => v
  | none => put v h.sensor (some { delay := ticksFrom fire h.arrival, peak := h.peak })

/-- A hit is made TEST: flagged, entered in the result table and offered (R153). -/
def makeTest (fire : Tick) (h : HitRecord) (s : State) : State :=
  offer (.hit { h with test := true, group := none }) false
    (s.setPulse { s.pulse with results := recordResult s.pulse.results fire h })

/-- A hit is released: presented in RUN or TAILING, discarded in IDLE and FROZEN (R150, R89). -/
def releaseHit (pres : Presenter) (h : HitRecord) (s : State) : State := if s.measuring then pres h s else s

/-- A hit is placed in the hold list; the earliest is released when that makes 65 (R150). -/
def holdHit (pres : Presenter) (h : HitRecord) (s : State) : State :=
  match insertHit h s.pulse.hold with
  | [] => s
  | x :: xs =>
    if 64 < (x :: xs).length then releaseHit pres x (s.setPulse { s.pulse with hold := xs })
    else s.setPulse { s.pulse with hold := x :: xs }

/-- A closed hit is offered to the pulse test unit; the flag says that it is handed back (R150, R153, R156). -/
def offerToTest (pres : Presenter) (h : HitRecord) (s : State) : State × Bool :=
  match s.pulse.test with
  | .none => (s, true)
  | .waiting i _ => if earlier h.arrival i.sendTick then (s, true) else (holdHit pres h s, false)
  | .window i f => if inWindow f i.window h.arrival then (makeTest f h s, false) else (s, true)

/-- The causes at which the capture unit seals the hit's segment early (R76, R139). -/
def CloseCause.seals : CloseCause → Bool
  | .quiet => false
  | .limit => false
  | .skip => true
  | .lost => true
  | .halt => false

/-- A closed hit is handed on: the capture unit is told, the pulse test unit is offered it, and a hit handed back is
presented, or discarded in IDLE (R76). The detector has taken its next state. -/
def handOff (pres : Presenter) (c : Fin 32) (h : HitRecord) (s : State) : State :=
  let t := if h.cause.seals then sealChannel c s else s
  let r := offerToTest pres h t
  if r.2 then releaseHit pres h r.1 else r.1

/-- A detector switched OFF; the samples of a frame it had still to process are passed over (R54, R58). -/
def Detector.switchedOff (d : Detector) : Detector :=
  { state := .off
    horizon :=
      match d.feed with
      | none => d.horizon
      | some f => some (tickAdd f.stamp 15)
    feed := none }

/-- The detector enters OFF and applies any pending bank (R41, R56). -/
def enterOff (c : Fin 32) (s : State) : State := applyPending c (s.setDetector c s.detectors[c].switchedOff)

/-- A live detector enters OFF; an open hit closes with the cause and is handed on (R56, R72). -/
def detectorOff (pres : Presenter) (cause : CloseCause) (c : Fin 32) (s : State) : State :=
  match s.detectors[c].state with
  | .off => s
  | .quiet => enterOff c s
  | .rearm _ => enterOff c s
  | .opened h => handOff pres c (hitRecord s c h cause) (enterOff c s)

/-- A hit that leaves the hold list: made TEST when the test is in WINDOW and the hit arrived in its window, released otherwise
(R152, R156). -/
def decideHeld (pres : Presenter) (h : HitRecord) (s : State) : State :=
  match s.pulse.test with
  | .none => releaseHit pres h s
  | .waiting _ _ => releaseHit pres h s
  | .window i f => if inWindow f i.window h.arrival then makeTest f h s else releaseHit pres h s

/-- The first `n` hits of the hold list leave it in its order, each followed by the close test (R85, R88, R152, R156). A
declaration by one of them ends the test, which empties the list (log entries 19 and 42). -/
def emptyHold (pres : Presenter) (m : Tests) : Nat → State → State
  | 0, s => s
  | n + 1, s =>
    match s.pulse.hold with
    | [] => s
    | h :: hs => emptyHold pres m n (groupTest m (decideHeld pres h (s.setPulse { s.pulse with hold := hs })))

/-- The present entries of the result table, in ascending sensor number (R157). -/
def resultEntries (v : Vector (Option TestEntry) 32) : List (Fin 32 × TestEntry) :=
  (List.finRange 32).filterMap (fun n => (v[n]).map (fun e => (n, e)))

/-- The PULSE-RESULT record of a test (R157). -/
def pulseRecord (s : State) (i : TestInfo) (fire : Option Tick) (cause : EndCause) : PulseRecord :=
  { part := s.run.address, tag := i.tag, source := i.source, window := i.window, cause := cause, sendTick := i.sendTick,
    fireTick := fire, entries := resultEntries s.pulse.results }

/-- Step 3 of a test's end: NONE, the PULSE-RESULT record, an empty result table (R156). -/
def concludeTest (cause : EndCause) (s : State) : State :=
  match s.pulse.test with
  | .none => s
  | .waiting i _ => offer (.pulse (pulseRecord s i none cause)) false (s.setPulse Pulse.reset)
  | .window i f => offer (.pulse (pulseRecord s i (some f) cause)) false (s.setPulse Pulse.reset)

/-- A test in flight ends (R156): the listening detectors leave the live set, the held hits leave the hold list, the result is
reported. In WINDOW the list is empty, unless a hit released by the classification declared burst: then the classification
is completed first (log entry 42). -/
def endTest (pres : Presenter) (m : Tests) (cause : EndCause) (s : State) : State :=
  if s.pulse.test.inFlight then
    let s1 := if s.listening then forEach allChannels (detectorOff pres .halt) s else s
    concludeTest cause (emptyHold pres m s1.pulse.hold.length s1)
  else s

/-- A detector that does not hold the test open (R154). -/
def Detector.testOver (d : Detector) (fire : Tick) (window : Nat) : Bool :=
  if d.live then
    (match d.horizon with
     | none => false
     | some h => atOrAfter h (tickAdd fire (window - 1))) &&
    (match d.state with
     | .opened o => !(inWindow fire window o.arrival)
     | _ => true)
  else true

/-- The condition of R154. -/
def testDone (s : State) (fire : Tick) (window : Nat) : Bool :=
  allChannels.all (fun c => s.detectors[c].testOver fire window)

end Sys2Proof.Machine
end

