-- ==== Sys2Proof/Machine/Tracker.lean ====
section
/-! DEFINITION. The gauge tracker: the pressure history, the phase decision, phase changes and the saturation list
(chapter 2). The burst declaration itself is in Burst.lean. -/

namespace Sys2Proof.Machine

/-- The slope reference: the sample that lies slope-window samples back, if there is one (R29). -/
def Tracker.slopeReference (t : Tracker) : Option Nat :=
  if t.history.length < t.params.slopeWindow then none
  else t.history[t.history.length - t.params.slopeWindow]?

/-- The drop reference: the largest of the newest drop-window samples, or of all when there are fewer (R29). -/
def Tracker.dropReference (t : Tracker) : Option Nat :=
  (t.history.drop (t.history.length - t.params.dropWindow)).max?

/-- The slope of a sample, in signed p-units; 0 when there is no slope reference (R29). -/
def Tracker.slope (t : Tracker) (p : Nat) : Int :=
  match t.slopeReference with
  | none => 0
  | some r => (p : Int) - (r : Int)

/-- The history with the sample as its newest entry, at most 64 entries (R29). -/
def pushHistory (h : List Nat) (p : Nat) : List Nat := (if 64 ≤ h.length then h.tail else h) ++ [p]

/-- The phase and the steady count after a sample, by the first step of R30 whose condition holds. `t` is the tracker after
R29 has taken the sample, with the phase of before it. -/
def Tracker.choosePhase (t : Tracker) (p : Nat) (slope : Int) : Phase × Nat :=
  if p < t.params.startLevel then (.below, 0)
  else if slope ≤ -(t.params.fallThreshold : Int) then (.fall, 0)
  else if (t.params.rampThreshold : Int) ≤ slope then
    (if p + t.params.reloadMargin < t.pmax then .reload else .ramp, 0)
  else
    let count := satAdd 255 t.steady 1
    if t.params.holdEntryCount ≤ count then (.hold, count)
    else (if t.phase = .nogauge then .ramp else t.phase, count)

/-- The saturation list with every entry absent. -/
def noSaturation : Vector (Option Tick) 32 := Vector.replicate 32 none

/-- The effects of a phase change on the other blocks, in order: the PHASE notice, the follow channels, the entry into HOLD
(R31). The tracker already holds the new phase. -/
def phaseEffects (old new : Phase) (s : State) : State :=
  let s1 := notify (.phase old new (if new = .nogauge then none else s.tracker.pressure) s.tracker.pmax) s
  let s2 := followPhase s1
  if new = .hold then holdEntered s2 else s2

/-- The tracker enters NOGAUGE (R28). -/
def Tracker.nogauge (t : Tracker) : Tracker :=
  { t with history := [], pressure := none, phase := .nogauge, steady := 0, satList := noSaturation }

/-- The tracker enters NOGAUGE, with the effects of a phase change when the phase was another (R28). -/
def gaugeGone (s : State) : State :=
  let t := s.setTracker s.tracker.nogauge
  if s.tracker.phase = .nogauge then t else phaseEffects s.tracker.phase .nogauge t

/-- The tracker after R29 has taken a sample. -/
def Tracker.take (t : Tracker) (p : Nat) (measuring : Bool) : Tracker :=
  { t with
    history := pushHistory t.history p
    pressure := some p
    pmax := if measuring then max t.pmax p else t.pmax }

/-- The tracker after R30 has decided the phase: the steady count is 0 after a change, and the saturation list empties when
NOGAUGE is left (R30, R35). -/
def Tracker.decided (t : Tracker) (r : Phase × Nat) : Tracker :=
  if r.1 = t.phase then { t with steady := r.2 }
  else { t with phase := r.1, steady := 0, satList := if t.phase = .nogauge then noSaturation else t.satList }

/-- A pressure sample is taken and the phase decided, with the effects of a change (R29 to R31). -/
def trackSample (p : Nat) (s : State) : State :=
  let slope := s.tracker.slope p
  let t := s.tracker.take p s.measuring
  let u := t.decided (t.choosePhase p slope)
  let s1 := s.setTracker u
  if u.phase = t.phase then s1 else phaseEffects t.phase u.phase s1

/-- The phases in which a drop declares burst (R34). -/
def Phase.loaded : Phase → Bool
  | .below => false
  | .ramp => true
  | .hold => true
  | .fall => false
  | .reload => true
  | .nogauge => false

/-- The pressure cause of R34 for a sample, judged by the tracker as it stood before the sample. -/
def Tracker.drops (t : Tracker) (p : Nat) : Bool :=
  t.armed && t.phase.loaded &&
    (match t.dropReference with
     | none => false
     | some r => decide (p + t.params.dropLimit ≤ r))

/-- The tracker disarmed and its saturation list empty (R33). -/
def Tracker.disarm (t : Tracker) : Tracker := { t with armed := false, satList := noSaturation }

/-- The tracker at START: armed, Pmax from P, the saturation list empty (R33). -/
def Tracker.start (t : Tracker) : Tracker :=
  { t with armed := true, pmax := t.pressure.getD 0, satList := noSaturation }

/-- Whether a presented hit is reported to the saturation fallback and watched there (R35). -/
def Tracker.watches (t : Tracker) (h : HitRecord) : Bool := h.sat && t.armed && t.phase == .nogauge

/-- The saturation list after a report: the sensor's entry becomes the arrival, unless it holds a later tick (R35). -/
def reportEntry (l : Vector (Option Tick) 32) (h : HitRecord) : Vector (Option Tick) 32 :=
  match l[h.sensor] with
  | none => put l h.sensor (some h.arrival)
  | some t => if earlier h.arrival t then l else put l h.sensor (some h.arrival)

/-- A presented hit is reported to the saturation fallback (R35). -/
def reportSaturation (h : HitRecord) (s : State) : State :=
  if s.tracker.watches h then s.setTracker { s.tracker with satList := reportEntry s.tracker.satList h } else s

/-- The latest tick of a list of ticks. -/
def latestTick : List Tick → Option Tick
  | [] => none
  | t :: ts =>
    match latestTick ts with
    | none => some t
    | some u => some (laterOf t u)

/-- The saturation cause: enough entries lie inside the saturation window of the latest one (R36). -/
def Tracker.saturated (t : Tracker) : Bool :=
  let entries := t.satList.toList.filterMap id
  match latestTick entries with
  | none => false
  | some n => decide (t.params.satCount ≤ entries.countP (fun e => decide (ticksFrom e n < t.params.satWindow)))

end Sys2Proof.Machine
end

