-- ==== Sys2Proof/Machine/Burst.lean ====
section
/-! DEFINITION. Run control's burst declaration and tail end, and with them the whole presentation of a hit, the processing of
one sample, the DONE test of a pulse test and the pressure sample (R34 to R36, R59, R80, R154, R163 to R168). -/

namespace Sys2Proof.Machine

/-- A mark of the part's own is made for the far port, while that port is UP (R182, R183). -/
def makeMark (m : Mark) (s : State) : State :=
  if s.link.far.state = .up then s.setLink { s.link with marks := s.link.marks ++ [m] } else s

/-- A hit is presented without a declaration: it joins or opens a group and is reported to the saturation fallback. This is the
presentation within a departure (R162: each step runs while the run state is still RUN) and within a declaration, where
the tracker is disarmed. -/
def presentQuietly : Presenter := fun h s => reportSaturation h (placeHit h s)

/-- The tail end: the departure from TAILING into FROZEN (R168). -/
def tailEnd (s : State) : State :=
  let s1 := forEach allChannels (detectorOff presentQuietly .halt) s
  let s2 := haltGroups s1
  let s3 := s2.setRun { s2.run with state := .frozen, tailExpiry := none }
  let s4 := freeSegments s3
  let s5 := notify (.frozen s4.run.cause s4.run.burstTick (64 - s3.capture.free)) s4
  startDump s5

/-- Steps 1 to 4 of a declaration: cause and B, the tracker disarmed, TAILING, the rate slot timer stopped, the BURST notice
and the BURST mark (R165). -/
def declareFirst (cause : BurstCause) (s : State) : State :=
  let s1 := s.setRun { s.run with cause := some cause, burstTick := some s.timebase.counter, state := .tailing }
  let s2 := s1.setTracker s1.tracker.disarm
  let s3 := s2.setCells { s2.cells with boundary := none }
  let p := if s.tracker.phase = .nogauge then none else s.tracker.pressure
  makeMark .burst (notify (.burst cause s.timebase.counter p s.tracker.pmax) s3)

/-- The tail timer starts, and the tail end follows at once with a tail span of 0 (R165). -/
def startTail (b : Tick) (s : State) : State :=
  let t := s.setRun { s.run with tailExpiry := some (tickAdd b s.run.tailSpan) }
  if s.run.tailSpan = 0 then tailEnd t else t

/-- The close tests at step 5 of a declaration: made, but withheld with a tail span of 0, where no group closes normally in
TAILING (R85, R165; log entry 41). -/
def tailTests (s : State) : Tests := if s.run.tailSpan = 0 then .withheld else .made

/-- A burst declaration; it is made only while the run state is RUN (R163, R165). `ending` is the cause with which its step 5 ends
a test in flight: ABORTED, or the cause of the end under way when a hit that this end releases declares (R155; log entry 19). -/
def declareBurst (ending : EndCause) (cause : BurstCause) (s : State) : State :=
  if s.run.state = .run then
    startTail s.timebase.counter (endTest presentQuietly (tailTests s) ending (declareFirst cause s))
  else s

/-- A hit is presented: it joins or opens a group, and the report to the saturation fallback may declare burst (R80, R95, R36).
The close test that follows is made by the caller. -/
def presentWith (ending : EndCause) : Presenter := fun h s =>
  let t := presentQuietly h s
  if s.tracker.watches h = true ∧ t.tracker.satList ≠ s.tracker.satList ∧ t.tracker.saturated = true then
    declareBurst ending .saturation t
  else t

/-- The presentation of a hit outside a departure and outside a test's end. -/
def present : Presenter := presentWith .aborted

/-- The DONE test (R154). -/
def doneTest (s : State) : State :=
  match s.pulse.test with
  | .none => s
  | .waiting _ _ => s
  | .window i f => if testDone s f i.window then endTest (presentWith .done) .made .done s else s

/-- The tests that follow a change at a detector: the grouping unit's, then the pulse test unit's (R85, R154). -/
def unitTests (s : State) : State := doneTest (closeTest s)

/-- A sample processed in OPEN (4.5, R67 to R69). -/
def openSample (c : Fin 32) (h : OpenHit) (x : FeedSample) (s : State) : State :=
  let b := s.channels[c].banks[h.bank]
  let m := h.measure b x
  match m.closedBy b x.tick with
  | none => s.setDetector c { s.detectors[c] with state := .opened m }
  | some cause =>
    unitTests (handOff present c (hitRecord s c m cause) (enterState c (afterSampleClose b x.tick) s))

/-- One sample is processed (R59, R61, R63 to R70). -/
def processSample (c : Fin 32) (t : Tick) (x : FeedSample) (s : State) : State :=
  match s.detectors[c].state with
  | .off => s
  | .quiet => quietSample c t x s
  | .opened h => openSample c h x s
  | .rearm e => if atOrAfter x.tick e then quietSample c t x (enterState c .quiet s) else s

/-- The detector has dealt with a frame's samples: its horizon becomes T + 15 and the tests follow (R58, R85, R154). -/
def frameDealt (c : Fin 32) (t : Tick) (s : State) : State :=
  unitTests (s.setDetector c { s.detectors[c] with horizon := some (tickAdd t 15), feed := none })

/-- The detector takes the next sample of its delivered frame (R59). -/
def feedStep (c : Fin 32) (s : State) : State :=
  match s.detectors[c].feed with
  | none => s
  | some f =>
    match f.samples with
    | [] => frameDealt c f.stamp s
    | x :: xs =>
      let rest : Feed := { f with samples := xs }
      let t := processSample c f.stamp x (s.setDetector c { s.detectors[c] with feed := some rest })
      if xs = [] ∧ t.detectors[c].feed = some rest then frameDealt c f.stamp t else t

/-- The detector deals with what is left of its delivered frame. -/
def drainFeed (c : Fin 32) (s : State) : State :=
  match s.detectors[c].feed with
  | none => s
  | some f => Nat.repeat (feedStep c) (f.samples.length + 1) s

/-- The tracker takes a delivered pressure sample: phase, phase change, pressure cause (R29 to R34). -/
def pressureSample (p : Nat) (s : State) : State :=
  let t := trackSample p s
  if s.tracker.drops p then declareBurst .aborted .pressure t else t

/-- The readout selects its segment and the free port begins the next write: what the capture unit does at once whenever it can
(R134, R140). -/
def settleCapture (s : State) : State := beginWrite (selectReadout s)

end Sys2Proof.Machine
end

