-- ==== Sys2Proof/Machine/Flags.lean ====
section
/-! DEFINITION. The codes of named values and the flag bytes of records: a named value is coded by its position in its list of
values, counted from 0 (R192), and a flag byte has one bit per flag (12.2). -/

namespace Sys2Proof.Machine

def LaneRole.code : LaneRole → Nat
  | .pod => 0 | .gauge => 1 | .off => 2

def LaneState.code : LaneState → Nat
  | .off => 0 | .down => 1 | .aligning => 2 | .up => 3

def LaneCause.code : LaneCause → Nat
  | .signal => 0 | .aligned => 1 | .noSignal => 2 | .checks => 3 | .role => 4

def Phase.code : Phase → Nat
  | .below => 0 | .ramp => 1 | .hold => 2 | .fall => 3 | .reload => 4 | .nogauge => 5

def CloseCause.code : CloseCause → Nat
  | .quiet => 0 | .limit => 1 | .skip => 2 | .lost => 3 | .halt => 4

def Method.code : Method → Nat
  | .pair => 0 | .zone => 1 | .none => 2

def Alarm.code : Alarm → Nat
  | .quiet => 0 | .watch => 1 | .alarm _ => 2

def AlarmCause.code : AlarmCause → Nat
  | .hold => 0 | .reload => 1 | .energy => 2

def CellCause.code : CellCause → Nat
  | .hold => 0 | .reload => 1 | .energy => 2 | .rate => 3 | .decay => 4 | .clear => 5 | .start => 6

def EndCause.code : EndCause → Nat
  | .done => 0 | .nofire => 1 | .laneLost => 2 | .aborted => 3

def RunState.code : RunState → Nat
  | .idle => 0 | .run => 1 | .tailing => 2 | .frozen => 3

def BurstCause.code : BurstCause → Nat
  | .pressure => 0 | .saturation => 1 | .manual => 2 | .chained => 3

def AccessKind.code : AccessKind → Nat
  | .ringWrite => 0 | .readout => 1 | .dump => 2

/-- The outcomes of a CAPTURE notice are FAULT 0 and TIMEOUT 1 (12.2); the good outcomes never stand in one. -/
def AccessOutcome.code : AccessOutcome → Nat
  | .done => 0 | .split => 0 | .fault => 0 | .timeout => 1

def MemPort.code : MemPort → Nat
  | .ready => 0 | .failed => 1

def LinkState.code : LinkState → Nat
  | .down => 0 | .up => 1

/-- The reasons are coded 1 to 12 in the order of R193. -/
def Reason.code : Reason → Nat
  | .state => 1 | .busy => 2 | .range => 3 | .inUse => 4 | .duplicate => 5 | .conflict => 6
  | .noItem => 7 | .readonly => 8 | .time => 9 | .lane => 10 | .nosensor => 11 | .unclaimed => 12

/-- A flag as a bit. -/
def bit (b : Bool) : Nat := if b then 1 else 0

/-- A flag byte, its first flag in bit 0. -/
def flagByte : List Bool → Nat
  | [] => 0
  | b :: bs => bit b + 2 * flagByte bs

/-- Flags of a HIT record (12.2). -/
def HitRecord.flags (h : HitRecord) : Nat :=
  flagByte [h.sat, h.test, h.nocap, h.shared, h.pressure.isSome, h.segment.isSome, h.group.isSome]

/-- Flags of an EVENT record (12.2). -/
def EventRecord.flags (e : EventRecord) : Nat :=
  flagByte [e.crowded, e.late, e.halted, e.behind, e.afterburst, e.splitvote, e.cell.isSome, e.pressure.isSome]

/-- Flags of a TRACE record (12.2); CUT is set when the record announces lost lines (R141). -/
def TraceRecord.flags (t : TraceRecord) : Nat :=
  flagByte [t.gap, t.damaged, decide (t.cut ≠ 0), t.lost, t.isEnd, t.dump, t.samples.isSome]

end Sys2Proof.Machine
end

