-- ==== Sys2Proof/WellFormed.lean ====
section
/-! DEFINITION. The well-formed commands. The operands of a command are bounded by their types, but a frame is a string of
bytes and names its own kind in its first byte (R191). A frame command is well formed when its frame is a frame of
the row that carries it: the kind byte is the row's own, or a byte that is no frame kind of that port at all (a frame
whose kind byte was corrupted on the way still arrives, and fails the frame check). -/

namespace Sys2Proof

/-- Kind bytes of R191. -/
def sampleKind : Byte := 0x51#8
def gaugeKind : Byte := 0x52#8
def fireKind : Byte := 0x53#8
def recordKind : Byte := 0x60#8
def idleKind : Byte := 0x61#8
def orderKind : Byte := 0x62#8
def pauseKind : Byte := 0x63#8
def resumeKind : Byte := 0x64#8
def burstKind : Byte := 0x65#8

/-- The frame kinds that have a row of the table on a lane (R10, R191). -/
def laneKinds : List Byte := [sampleKind, gaugeKind]

/-- The frame kinds that belong to a record link port (R175). -/
def portKinds : Port → List Byte
  | .near => [idleKind, orderKind, pauseKind, resumeKind, burstKind]
  | .far => [idleKind, recordKind]

/-- A frame whose kind byte is `own`, or is none of `kinds`. -/
def frameOf (own : Byte) (kinds : List Byte) (frame : List Byte) : Bool :=
  match frame with
  | [] => true
  | k :: _ => k == own || !(kinds.contains k)

/-- A command is well formed when the kind byte of its frame does not name the frame of another row. -/
def Instr.wellFormed : Instr → Bool
  | .sampleFrame _ f => frameOf sampleKind laneKinds f
  | .gaugeFrame _ f => frameOf gaugeKind laneKinds f
  | .idleFrame p f => frameOf idleKind (portKinds p) f
  | .orderFrame f => frameOf orderKind (portKinds .near) f
  | .pauseMark f => frameOf pauseKind (portKinds .near) f
  | .resumeMark f => frameOf resumeKind (portKinds .near) f
  | .burstMark f => frameOf burstKind (portKinds .near) f
  | .recordFrame f => frameOf recordKind (portKinds .far) f
  | .resetAssert _ | .resetRelease | .settleEnd | .signalDetect _ | .lossOfSignal _ | .sampleProcessed _
  | .linkSignalDetect _ | .linkLossOfSignal _ | .nearTransmissionEnd | .farTransmissionEnd
  | .assign | .read | .write | .channelBankWrite | .channelCaptureWrite | .sensorMapWrite | .phaseMapWrite
  | .locationHeaderWrite | .pairWrite | .cellWrite | .classWrite | .rateSlotWrite | .trackerWrite
  | .captureSetupWrite | .laneWrite | .tailSpanWrite | .chainLatencyWrite | .tallyIntervalWrite
  | .selectBank | .selectBankFollow | .setRole | .sync | .start | .stop | .freeze | .release | .restart
  | .clearCell | .pulse | .bypassOn | .bypassOff | .unclaimed | .unknownOrder
  | .holdTimerExpiry _ | .rateSlotBoundary | .tailEnd | .tallyTimerExpiry
  | .ringWriteComplete _ | .readoutReadComplete _ | .dumpReadComplete _ | .timeout
  | .readoutLineStart | .dumpLineStart => true

end Sys2Proof
end

