-- ==== Sys2Proof/Machine/Wire.lean ====
section
/-! DEFINITION. The wire formats of chapter 12: the check code, the frames that arrive, the frames that leave, and the byte
layouts of records. -/

namespace Sys2Proof.Machine

/-! ## Bytes and the check code (R191) -/

/-- The `n` bytes of a number, most significant byte first. -/
def be : Nat → Nat → List Byte
  | 0, _ => []
  | n + 1, v => BitVec.ofNat 8 (v / 256 ^ n) :: be n v

/-- The number that bytes carry, most significant byte first. -/
def number (l : List Byte) : Nat := l.foldl (fun v b => v * 256 + b.toNat) 0

/-- One bit of the check register: polynomial 04C11DB7h, most significant bit first. -/
def crcBit (r : BitVec 32) : BitVec 32 := if r.msb then (r <<< 1) ^^^ 0x04C11DB7#32 else r <<< 1

/-- One byte fed into the check register. -/
def crcByte (r : BitVec 32) (b : Byte) : BitVec 32 := Nat.repeat crcBit 8 (r ^^^ (b.setWidth 32 <<< 24))

/-- The check code of a string of bytes: the register starts at FFFFFFFFh and is complemented at the end. -/
def checkCode (l : List Byte) : List Byte := be 4 (~~~ (l.foldl crcByte 0xFFFFFFFF#32)).toNat

/-- A frame: its bytes followed by their check code. -/
def withCheck (body : List Byte) : List Byte := body ++ checkCode body

/-- The bytes before the check field, when the check code is correct. -/
def checked (frame : List Byte) : Option (List Byte) :=
  if frame.length < 4 then none
  else
    let body := frame.take (frame.length - 4)
    if frame.drop (frame.length - 4) = checkCode body then some body else none

/-- Byte `i` of a string, 0 beyond its end. -/
def byteAt (l : List Byte) (i : Nat) : Byte := l.getD i 0

/-- The number in `n` bytes from byte `i` on. -/
def fieldAt (l : List Byte) (i n : Nat) : Nat := number ((l.drop i).take n)

/-! ## Frames of a lane (R10, R191) -/

/-- What a sample frame carries. `samples` has slot 0's 16 samples first. -/
structure SampleFrame where
  seq : Byte
  marks : Byte
  fire : Byte
  samples : List Sample
  deriving DecidableEq, Repr

/-- What a gauge frame carries. -/
structure GaugeFrame where
  seq : Byte
  pressure : Nat
  deriving DecidableEq, Repr

/-- The samples in a string of bytes, two bytes each. -/
def samplesOf : List Byte → List Sample
  | a :: b :: l => (a ++ b : BitVec 16) :: samplesOf l
  | _ => []

/-- A sample frame that passes the frame check on a POD lane (R10). -/
def readSampleFrame (frame : List Byte) : Option SampleFrame :=
  match checked frame with
  | none => none
  | some l =>
    if byteAt l 0 = sampleKind ∧ frame.length = 264 then
      some { seq := byteAt l 1, marks := byteAt l 2, fire := byteAt l 3, samples := samplesOf (l.drop 4) }
    else none

/-- A gauge frame that passes the frame check on a GAUGE lane (R10). -/
def readGaugeFrame (frame : List Byte) : Option GaugeFrame :=
  match checked frame with
  | none => none
  | some l =>
    if byteAt l 0 = gaugeKind ∧ frame.length = 8 then some { seq := byteAt l 1, pressure := fieldAt l 2 2 } else none

/-- The saturation mark of a slot (R191). -/
def SampleFrame.mark (f : SampleFrame) (j : Fin 8) : Bool := f.marks.getLsbD j.val

/-- The 16 samples of a slot (R191). -/
def SampleFrame.slot (f : SampleFrame) (j : Fin 8) : Line := (f.samples.drop (16 * j.val)).take 16

/-- The confirmation index, when the confirmation flag is set (R18, R191). -/
def SampleFrame.confirmation (f : SampleFrame) : Option Nat :=
  if f.fire.getLsbD 7 then some (f.fire.toNat % 16) else none

/-- The bytes of a sample frame, for a pod that sends one. -/
def SampleFrame.bytes (f : SampleFrame) : List Byte :=
  withCheck ([sampleKind, f.seq, f.marks, f.fire] ++ f.samples.flatMap (fun x => be 2 x.toNat))

/-- The bytes of a gauge frame, for a gauge that sends one. -/
def GaugeFrame.bytes (f : GaugeFrame) : List Byte := withCheck ([gaugeKind, f.seq] ++ be 2 f.pressure)

/-- The bytes of a fire mark (R17, R191). -/
def fireFrame (j : Fin 8) : List Byte := withCheck [fireKind, BitVec.ofNat 8 j.val, 0, 0]

/-! ## Frames of the record link (R175, R191) -/

/-- What a frame that arrives at a record link port carries. -/
inductive LinkFrame where
  | idle
  | order (o : Order)
  | mark (m : Mark)
  | record (body : List Byte)
  deriving DecidableEq, Repr

/-- The sequence byte of a frame. -/
def frameSeq (frame : List Byte) : Byte := byteAt frame 1

/-- The kind byte of a mark (R191). -/
def Mark.kind : Mark → Byte
  | .pause => pauseKind
  | .resume => resumeKind
  | .burst => burstKind

/-- An order frame's contents: its length field must be 0 to 7 units and its length must fit it (R191). -/
def readOrder (frame l : List Byte) : Option LinkFrame :=
  let u := (byteAt l 6).toNat
  if u ≤ 7 ∧ frame.length = 12 + 16 * u then
    some (.order { address := byteAt l 2, kind := byteAt l 3, tag := BitVec.ofNat 16 (fieldAt l 4 2), args := l.drop 8 })
  else none

/-- A record frame's contents: its length field must be 1 to 32 units and its length must fit it (R191). -/
def readRecord (frame l : List Byte) : Option LinkFrame :=
  let u := (byteAt l 2).toNat
  if 1 ≤ u ∧ u ≤ 32 ∧ frame.length = 8 + 16 * u then some (.record (l.drop 4)) else none

/-- A frame that passes the frame check of the near port (R175). -/
def readNearFrame (frame : List Byte) : Option LinkFrame :=
  match checked frame with
  | none => none
  | some l =>
    if byteAt l 0 = orderKind then readOrder frame l
    else if frame.length ≠ 8 then none
    else if byteAt l 0 = idleKind then some .idle
    else if byteAt l 0 = pauseKind then some (.mark .pause)
    else if byteAt l 0 = resumeKind then some (.mark .resume)
    else if byteAt l 0 = burstKind then some (.mark .burst)
    else none

/-- A frame that passes the frame check of the far port (R175). -/
def readFarFrame (frame : List Byte) : Option LinkFrame :=
  match checked frame with
  | none => none
  | some l =>
    if byteAt l 0 = recordKind then readRecord frame l
    else if byteAt l 0 = idleKind ∧ frame.length = 8 then some .idle
    else none

/-- A frame that passes the frame check of a port (R175). -/
def readLinkFrame (p : Port) (frame : List Byte) : Option LinkFrame :=
  match p with
  | .near => readNearFrame frame
  | .far => readFarFrame frame

/-- The bytes of an idle frame. -/
def idleFrame (seq : Byte) : List Byte := withCheck [idleKind, seq, 0, 0]

/-- The bytes of a mark. -/
def markFrame (m : Mark) (seq : Byte) : List Byte := withCheck [m.kind, seq, 0, 0]

/-- The bytes of a record frame around a record body (R191). -/
def recordFrame (body : List Byte) (seq : Byte) : List Byte :=
  withCheck ([recordKind, seq, BitVec.ofNat 8 (body.length / 16), 0] ++ body)

/-- The bytes of an order frame (R191). -/
def orderFrame (o : Order) (seq : Byte) : List Byte :=
  withCheck ([orderKind, seq, o.address, o.kind] ++ be 2 o.tag.toNat ++ [BitVec.ofNat 8 (o.args.length / 16), 0] ++ o.args)

/-! ## Record bodies (R192) -/

/-- A record body padded with zero bytes to its whole number of units. -/
def padTo (units : Nat) (l : List Byte) : List Byte := l ++ List.replicate (16 * units - l.length) 0

/-- A tick's 6 bytes. -/
def tickBytes (t : Tick) : List Byte := be 6 t.toNat

/-- An optional number, sent as zero when absent (R192). -/
def optBytes (n : Nat) (v : Option Nat) : List Byte := be n (v.getD 0)

/-- The HIT record body (R192); byte 31, which the layout does not name, is sent as 0 (log entry 46). -/
def HitRecord.bytes (h : HitRecord) : List Byte :=
  be 1 1 ++ be 1 h.part ++ be 1 4 ++ be 1 h.flags ++ be 1 h.channel ++ be 1 h.sensor ++ tickBytes h.arrival
    ++ be 2 h.rise ++ be 3 h.duration ++ be 1 h.cause.code ++ be 1 h.bank ++ be 1 h.phase.code
    ++ be 2 h.crossings ++ be 2 h.peak ++ be 4 h.energy ++ optBytes 2 h.pressure
    ++ optBytes 1 (h.segment.map Fin.val) ++ be 1 0 ++ optBytes 4 (h.group.map BitVec.toNat)

/-- A member entry of an EVENT record. -/
def MemberEntry.bytes (m : MemberEntry) : List Byte :=
  be 1 m.sensor ++ be 1 (bit m.sat) ++ be 2 m.delay ++ be 2 m.peak ++ be 2 0

/-- The EVENT record body (R192); bytes 21 to 23 and 28 to 47, which the layout does not name, are sent as 0 (log entry 46). -/
def EventRecord.bytes (e : EventRecord) : List Byte :=
  be 1 2 ++ be 1 e.part ++ be 1 (Record.units (.event e)) ++ be 1 e.flags ++ be 4 e.group.toNat ++ tickBytes e.anchor
    ++ be 1 e.members.length ++ be 1 e.method.code ++ optBytes 2 (e.cell.map Fin.val) ++ optBytes 2 e.pressure
    ++ be 1 e.phase.code ++ be 3 0 ++ be 4 e.energy ++ List.replicate 20 0 ++ e.members.flatMap MemberEntry.bytes

/-- A signed offset in two bytes. -/
def offsetBytes (o : Option Int) : List Byte := be 2 (BitVec.ofInt 16 (o.getD 0)).toNat

/-- The TRACE record body. -/
def TraceRecord.bytes (t : TraceRecord) : List Byte :=
  be 1 3 ++ be 1 t.part ++ be 1 3 ++ be 1 t.flags
    ++ be 1 (match t.segment with | some n => n.val | none => 255) ++ be 1 t.sensor ++ tickBytes t.tick
    ++ offsetBytes t.offset ++ be 2 t.cut ++ (t.samples.getD []).flatMap (fun x => be 2 x.toNat)

/-- The kind of a notice (R192). -/
def NoticeBody.code : NoticeBody → Nat
  | .lane _ _ _ _ => 0
  | .phase _ _ _ _ => 1
  | .cell _ _ _ _ => 2
  | .burst _ _ _ _ => 3
  | .frozen _ _ _ => 4
  | .capture _ _ _ => 5
  | .dump _ _ _ => 6

/-- The contents of a notice, from offset 10 on (R192). -/
def NoticeBody.bytes : NoticeBody → List Byte
  | .lane l a b k => be 1 l ++ be 1 a.code ++ be 1 b.code ++ be 1 k.code
  | .phase a b p m => be 1 a.code ++ be 1 b.code ++ be 1 (bit p.isSome) ++ optBytes 2 p ++ be 2 m
  | .cell n a b k => be 2 n ++ be 1 a.code ++ be 1 b.code ++ be 1 k.code
  | .burst c t p m => be 1 c.code ++ tickBytes t ++ be 1 (bit p.isSome) ++ optBytes 2 p ++ be 2 m
  | .frozen c t n => optBytes 1 (c.map BurstCause.code) ++ optBytes 6 (t.map BitVec.toNat) ++ be 1 n
  | .capture k o n => be 1 k.code ++ be 1 o.code ++ be 1 n
  | .dump a b x => be 4 a ++ be 4 b ++ be 1 (bit x)

/-- The NOTICE record body. -/
def Notice.bytes (n : Notice) : List Byte :=
  be 1 4 ++ be 1 n.part ++ be 1 2 ++ be 1 n.body.code ++ tickBytes n.tick ++ n.body.bytes

/-- The TALLY record body (R192); the fourth byte, to which the layout gives no use, is sent as 0 (log entry 46). -/
def TallyRecord.bytes (t : TallyRecord) : List Byte :=
  be 1 5 ++ be 1 t.part ++ be 1 4 ++ be 1 0 ++ tickBytes t.tick
    ++ be 2 t.counts.shedHit ++ be 2 t.counts.shedEvent ++ be 2 t.counts.shedTrace ++ be 2 t.counts.shedNotice
    ++ be 2 t.counts.shedPulse ++ be 2 t.counts.shedTally
    ++ t.lanes.toList.flatMap (fun p => be 2 p.1 ++ be 2 p.2)
    ++ be 2 t.counts.split ++ be 2 t.counts.fault ++ be 2 t.counts.discardedOrders ++ be 2 t.counts.badOrders
    ++ be 2 t.counts.badRecords ++ be 2 t.counts.overflow ++ be 2 t.highWater ++ be 1 t.openGroups
    ++ be 1 t.freeSegments

/-- An entry of a PULSE-RESULT record. -/
def entryBytes (p : Fin 32 × TestEntry) : List Byte :=
  be 1 p.1 ++ be 1 0 ++ be 2 p.2.delay ++ be 2 p.2.peak ++ be 2 0

/-- The PULSE-RESULT record body (R192); bytes 23 to 31, which the layout does not name, are sent as 0 (log entry 46). -/
def PulseRecord.bytes (p : PulseRecord) : List Byte :=
  be 1 7 ++ be 1 p.part ++ be 1 (Record.units (.pulse p)) ++ be 1 p.cause.code ++ be 2 p.tag ++ be 1 p.source
    ++ be 1 p.entries.length ++ be 2 p.window ++ tickBytes p.sendTick ++ optBytes 6 (p.fireTick.map BitVec.toNat)
    ++ be 1 (bit p.fireTick.isSome) ++ List.replicate 9 0 ++ p.entries.flatMap entryBytes

/-- The body of a record of the own record queue, padded to its whole number of units (R192). -/
def Record.body (r : Record) : List Byte :=
  padTo r.units
    (match r with
     | .hit h => h.bytes
     | .event e => e.bytes
     | .trace t => t.bytes
     | .notice n => n.bytes
     | .tally t => t.bytes
     | .pulse p => p.bytes)

/-- Length of an answer in units (R179). -/
def Answer.units (a : Answer) : Nat := 2 + (a.contents.length + 15) / 16

/-- The ANSWER record body (R192); bytes 9 and 12 to 31, which the layout does not name, are sent as 0 (log entry 46). -/
def Answer.body (a : Answer) : List Byte :=
  padTo a.units
    (be 1 6 ++ be 1 a.part ++ be 1 a.units ++ be 1 (bit a.reason.isSome) ++ be 2 a.tag.toNat ++ [a.kind]
      ++ optBytes 1 (a.reason.map Reason.code) ++ [a.item] ++ be 1 0 ++ be 2 a.index ++ List.replicate 20 0
      ++ a.contents)

/-- A record body that is a BURST notice: record kind NOTICE, notice kind BURST (R167, R192). -/
def isBurstNotice (body : List Byte) : Bool := byteAt body 0 == 4 && byteAt body 3 == 3

end Sys2Proof.Machine
end

