-- ==== Sys2Proof/Machine/Lanes.lean ====
section
/-! DEFINITION. The lane ports: lane states, the frame check, missing stretches, stamping and delivery, and the causes a lane
hands to its neighbours (chapter 1, R151). -/

namespace Sys2Proof.Machine

/-- The lanes, ascending. -/
def allLanes : List (Fin 4) := List.finRange 4

/-- A lane with its alignment cleared (R2, R4, R8). -/
def Lane.cleared (l : Lane) : Lane :=
  { l with alignCount := 0, prevSeq := none, expSeq := none, expTick := none, failures := 0 }

/-- A lane in DOWN with signal detect present enters ALIGNING (R6). -/
def tryAlign (l : Fin 4) (s : State) : State :=
  let x := s.lanes[l]
  if x.state = .down ∧ x.signal = true then
    notify (.lane l .down .aligning .signal) (s.setLane l { x with state := .aligning, alignCount := 0, prevSeq := none })
  else s

/-- The lane of the source of the test in flight (9.1). -/
def TestState.sourceLane : TestState → Option (Fin 4)
  | .none => .none
  | .waiting i _ => some (laneOf i.channel)
  | .window i _ => some (laneOf i.channel)

/-- The tests that follow a detector's entry into OFF; on the source lane of a test the test's end is LANELOST's (R9, R85,
R154, R155). -/
def offTests (own : Bool) (s : State) : State := if own then closeTest s else unitTests s

/-- A channel leaves the live set with cause LOST: its detector goes OFF, its horizon is absent, its FILLING segment is sealed
(R5, R9, R58, R139). -/
def channelLost (own : Bool) (c : Fin 32) (s : State) : State :=
  let t := detectorOff present .lost c s
  let u := sealChannel c (t.setDetector c { t.detectors[c] with horizon := none })
  if s.detectors[c].live then offTests own u else u

/-- Every channel of a POD lane leaves the live set, and a test whose source lane it is ends with LANELOST (R5, R9, R155). A hit
closed here may declare burst, and with a tail span of 0 the tail end then closes what is still OPEN on the lane with HALT
(log entry 40). -/
def podLost (l : Fin 4) (s : State) : State :=
  let own := s.pulse.test.sourceLane == some l
  let t := forEach (channelsOf l) (channelLost own) s
  if own then endTest (presentWith .laneLost) .made .laneLost t else t

/-- What a lane of this role hands to its neighbours when it leaves UP (R9). -/
def laneLeft (l : Fin 4) (role : LaneRole) (s : State) : State :=
  match role with
  | .pod => podLost l s
  | .gauge => gaugeGone s
  | .off => s

/-- A lane in ALIGNING or UP goes to DOWN (R8, R11): it clears its alignment, emits its notice, and hands on that it left UP. -/
def laneDown (l : Fin 4) (cause : LaneCause) (s : State) : State :=
  let x := s.lanes[l]
  let t := notify (.lane l x.state .down cause) (s.setLane l { x.cleared with state := .down })
  if x.state = .up then laneLeft l x.role t else t

/-- The local reset of SET-ROLE (R4, R5). -/
def changeRole (l : Fin 4) (role : LaneRole) (s : State) : State :=
  let x := s.lanes[l]
  let state := if role = .off then LaneState.off else LaneState.down
  let t := notify (.lane l x.state state .role)
    (s.setLane l { x.cleared with role := role, state := state, checkTally := 0, skipTally := 0 })
  tryAlign l (laneLeft l x.role t)

/-- The stamp of a frame that arrives now on a lane: the timebase less the lane's latency (R14). -/
def stampNow (s : State) (l : Fin 4) : Tick := tickBack s.timebase.counter s.lanes[l].latency

/-- A mapped channel of a POD lane that enters UP: its horizon is present, and its detector may become live (R55, R58). -/
def channelUp (t : Tick) (c : Fin 32) (s : State) : State :=
  if (s.sensorMap[c]).isSome then
    makeLive c (s.setDetector c { s.detectors[c] with horizon := some (tickAdd t 15) })
  else s

/-- A lane enters UP at its eighth aligned frame (R7, R9). -/
def laneUp (l : Fin 4) (seq : Byte) (s : State) : State :=
  let x := s.lanes[l]
  let t := stampNow s l
  let u := notify (.lane l .aligning .up .aligned)
    (s.setLane l
      { x with
        state := .up, alignCount := 8, prevSeq := some seq, expSeq := some (seq + 1), failures := 0,
        expTick := if x.role = .pod then some (tickAdd t 16) else x.expTick })
  if x.role = .pod then forEach (channelsOf l) (channelUp t) u else u

/-- The alignment count after a frame that passes the frame check (R7). -/
def nextAlign (count : Nat) (prev : Option Byte) (seq : Byte) : Nat :=
  match prev with
  | none => 1
  | some p => if seq = p + 1 then count + 1 else 1

/-- A frame that passes the frame check of a lane (R10). -/
inductive LaneFrame where
  | sample (f : SampleFrame)
  | gauge (f : GaugeFrame)
  deriving DecidableEq, Repr

/-- The frame check of a lane of this role (R10). -/
def readLaneFrame (role : LaneRole) (frame : List Byte) : Option LaneFrame :=
  match role with
  | .pod => (readSampleFrame frame).map .sample
  | .gauge => (readGaugeFrame frame).map .gauge
  | .off => none

def LaneFrame.seq : LaneFrame → Byte
  | .sample f => f.seq
  | .gauge f => f.seq

/-- A frame arrives on a lane in ALIGNING (R7). -/
def alignLane (l : Fin 4) (frame : List Byte) (s : State) : State :=
  let x := s.lanes[l]
  match readLaneFrame x.role frame with
  | none => s.setLane l { x with alignCount := 0, prevSeq := none, checkTally := tallyAdd x.checkTally 1 }
  | some f =>
    let n := nextAlign x.alignCount x.prevSeq f.seq
    if 8 ≤ n then laneUp l f.seq s else s.setLane l { x with alignCount := n, prevSeq := some f.seq }

/-! ## Missing stretches (R13) -/

/-- The break of a missing stretch on a channel: an open hit closes with SKIP and the detector enters QUIET (R71). -/
def breakHit (c : Fin 32) (s : State) : State :=
  match s.detectors[c].state with
  | .opened h => unitTests (handOff present c (hitRecord s c h .skip) (enterState c .quiet s))
  | .off => s
  | .quiet => s
  | .rearm _ => s

/-- A missing stretch of `n` frames on a mapped channel: the break, the horizon, the FILLING segment, the ring writer (R13). `e`
is the lane's new expected tick. -/
def stretchChannel (n : Nat) (e : Tick) (c : Fin 32) (s : State) : State :=
  if (s.sensorMap[c]).isSome then
    let t := breakHit c s
    let u := t.setDetector c { t.detectors[c] with horizon := some (tickBack e 1) }
    missingLines c n (sealChannel c u)
  else s

/-- A missing stretch of `n` frames on an UP POD lane (R13). A hit closed here may declare burst, and with a tail span of 0 the
tail end then closes what is still OPEN on the lane with HALT (R71; log entry 40). -/
def missingStretch (l : Fin 4) (n : Nat) (s : State) : State :=
  let x := s.lanes[l]
  match x.expTick with
  | none => s
  | some t =>
    let e := tickAdd t (16 * n)
    unitTests (forEach (channelsOf l) (stretchChannel n e) (s.setLane l { x with expTick := some e }))

/-! ## Delivery (R14 to R16, R18) -/

/-- The samples of a slot with their ticks T to T + 15 (R14, R15). -/
def slotSamples (t : Tick) (line : Line) (mark : Bool) : List FeedSample :=
  line.zipIdx.map (fun p => { tick := tickAdd t p.2, value := p.1, saturated := saturatedSample p.1 mark })

/-- The sample's tick is later than the horizon (R59). -/
def FeedSample.unheard (horizon : Option Tick) (x : FeedSample) : Bool :=
  match horizon with
  | none => true
  | some h => earlier h x.tick

/-- A detector is handed the 16 samples of its slot: a live one keeps those it has not heard, an OFF one passes them over
(R15, R54, R58, R59). -/
def deliverSamples (c : Fin 32) (t : Tick) (line : Line) (mark : Bool) (s : State) : State :=
  let d := s.detectors[c]
  if d.live then
    let l := (slotSamples t line mark).filter (FeedSample.unheard d.horizon)
    if l = [] then frameDealt c t s else s.setDetector c { d with feed := some { stamp := t, samples := l } }
  else s.setDetector c { d with horizon := some (tickAdd t 15) }

/-- One slot of a stamped sample frame is delivered, when its channel is mapped (R15). -/
def deliverSlot (l : Fin 4) (t : Tick) (f : SampleFrame) (j : Fin 8) (s : State) : State :=
  let c := channelOf l j
  match s.sensorMap[c] with
  | none => s
  | some _ => deliverSamples c t (f.slot j) (f.mark j) (ringLine c t (f.slot j) s)

/-- The test enters WINDOW with fire tick F; the held hits are classified and the DONE test is made (R151, R152, R154).
A released hit that declares burst ends the test when the classification is complete (log entry 42). -/
def enterWindow (i : TestInfo) (fire : Tick) (s : State) : State :=
  let t := s.setPulse { s.pulse with test := .window i fire }
  doneTest (emptyHold present .made t.pulse.hold.length t)

/-- A frame of the source lane without a valid confirmation is counted; the 64th ends the test with NOFIRE (R151, R155). -/
def countFrame (i : TestInfo) (n : Nat) (s : State) : State :=
  let t := s.setPulse { s.pulse with test := .waiting i (n + 1) }
  if 64 ≤ n + 1 then endTest (presentWith .nofire) .made .nofire t else t

/-- The pulse test unit is told of a delivered frame and of its confirmation (R15, R18, R151). -/
def testFrame (l : Fin 4) (t : Tick) (confirmation : Option Nat) (s : State) : State :=
  match s.pulse.test with
  | .none => s
  | .window _ _ => s
  | .waiting i n =>
    if laneOf i.channel = l then
      match confirmation with
      | none => countFrame i n s
      | some k => if atOrAfter (tickAdd t k) i.sendTick then enterWindow i (tickAdd t k) s else countFrame i n s
    else s

/-- A frame is stamped and delivered (R14 to R16). -/
def deliverFrame (l : Fin 4) (f : LaneFrame) (s : State) : State :=
  let x := s.lanes[l]
  let t := stampNow s l
  let y := { x with expSeq := some (f.seq + 1), failures := 0 }
  match f with
  | .sample f =>
    let u := s.setLane l { y with expTick := some (tickAdd t 16) }
    testFrame l t f.confirmation (forEach (List.finRange 8) (deliverSlot l t f) u)
  | .gauge f => pressureSample f.pressure (s.setLane l y)

/-- A missing stretch takes effect on a POD lane only (R11, R12). -/
def podStretch (l : Fin 4) (n : Nat) (s : State) : State :=
  match s.lanes[l].role with
  | .pod => missingStretch l n s
  | .gauge => s
  | .off => s

/-- A frame that fails the frame check or is behind arrives on an UP lane (R11). -/
def failFrame (l : Fin 4) (s : State) : State :=
  let x := s.lanes[l]
  let y := { x with checkTally := tallyAdd x.checkTally 1, failures := x.failures + 1 }
  if 3 ≤ y.failures then tryAlign l (laneDown l .checks (s.setLane l y))
  else podStretch l 1 (s.setLane l { y with expSeq := y.expSeq.map (fun q => q + 1) })

/-- A SKIP of `d` frames, and the delivery of the frame that revealed it (R12). -/
def skipFrame (l : Fin 4) (d : Nat) (f : LaneFrame) (s : State) : State :=
  let x := s.lanes[l]
  let t := podStretch l d (s.setLane l { x with skipTally := tallyAdd x.skipTally d, failures := 0 })
  deliverFrame l f (t.setLane l { t.lanes[l] with expSeq := some f.seq })

/-- A frame that passes the frame check is classified by its sequence (R10). -/
def classifyFrame (l : Fin 4) (f : LaneFrame) (s : State) : State :=
  let d := (f.seq - s.lanes[l].expSeq.getD f.seq).toNat
  if d = 0 then deliverFrame l f s
  else if d ≤ 127 then skipFrame l d f s
  else failFrame l s

/-- The detectors of a POD lane have dealt with the frame before this one (R59: samples are processed in tick order). -/
def drainLane (l : Fin 4) (s : State) : State :=
  match s.lanes[l].role with
  | .pod => forEach (channelsOf l) drainFeed s
  | .gauge => s
  | .off => s

/-- A frame arrives on an UP lane (R10 to R12). -/
def upFrame (l : Fin 4) (frame : List Byte) (s : State) : State :=
  let t := drainLane l s
  match readLaneFrame t.lanes[l].role frame with
  | none => failFrame l t
  | some f => classifyFrame l f t

/-- A frame arrives on a lane (R6, R7, R10). -/
def laneArrival (l : Fin 4) (frame : List Byte) (s : State) : State :=
  match s.lanes[l].state with
  | .off => s
  | .down => s
  | .aligning => alignLane l frame s
  | .up => upFrame l frame s

/-- Signal detect appears on a lane (R6). -/
def laneSignal (l : Fin 4) (s : State) : State := tryAlign l (s.setLane l { s.lanes[l] with signal := true })

/-- A lane loses signal (R8). -/
def laneSignalLost (l : Fin 4) (s : State) : State :=
  let t := s.setLane l { s.lanes[l] with signal := false }
  match s.lanes[l].state with
  | .off => t
  | .down => t
  | .aligning => laneDown l .noSignal t
  | .up => laneDown l .noSignal t

/-- A lane at RESTART (R2). -/
def Lane.restart (l : Lane) : Lane :=
  { l.cleared with state := if l.role = .off then .off else .down, checkTally := 0, skipTally := 0 }

end Sys2Proof.Machine
end

