-- ==== Sys2Proof/Machine/Link.lean ====
section
/-! DEFINITION. The record link: its ports, transmitters, buffers, flow marks and the order intake (chapter 11, R167). -/

namespace Sys2Proof.Machine

/-- A port of the record link. -/
def Link.port (k : Link) : Port → LinkPort
  | .near => k.near
  | .far => k.far

def Link.setPort (k : Link) (p : Port) (x : LinkPort) : Link :=
  match p with
  | .near => { k with near := x }
  | .far => { k with far := x }

def State.setPort (s : State) (p : Port) (x : LinkPort) : State := s.setLink (s.link.setPort p x)

/-- The fill of the pass-through buffer, in units (R181). -/
def Link.passFill (k : Link) : Nat := (k.pass.map (fun b => b.length / 16)).sum

/-! ## Flow marks (R182) -/

/-- A PAUSE mark is made when the pass-through fill is 48 units or more and the far pause is not asserted (R176, R182). -/
def pauseIfFull (s : State) : State :=
  if s.link.far.state = .up ∧ 48 ≤ s.link.passFill ∧ s.link.farPause = false then
    let t := makeMark .pause s
    t.setLink { t.link with farPause := true }
  else s

/-- A RESUME mark is made when the pass-through fill is 16 units or less and the far pause is asserted (R182). -/
def resumeIfDrained (s : State) : State :=
  if s.link.passFill ≤ 16 ∧ s.link.farPause = true then
    let t := makeMark .resume s
    t.setLink { t.link with farPause := false }
  else s

/-! ## Ports (R175, R176) -/

/-- A port enters UP (R175); the far port may then have to pause its partner (R176). -/
def portUp (p : Port) (seq : Byte) (s : State) : State :=
  let t := s.setPort p { s.link.port p with state := .up, alignCount := 8, prevSeq := some seq, failures := 0 }
  match p with
  | .near => t
  | .far => pauseIfFull t

/-- The forward queue entries not yet in transmission. -/
def Link.waitingForward (k : Link) : List Forward :=
  match k.farSending with
  | some x => if x.source = .forward ∧ x.queued = true then k.forward.tail else k.forward
  | none => k.forward

/-- An entry of the forward queue that is an order. -/
def Forward.isOrder : Forward → Bool
  | .order _ => true
  | .burst => false

/-- What a port's departure from UP does to the link (R176). -/
def Link.leftUp (k : Link) : Port → Link
  | .near => { k with nearPause := false }
  | .far =>
    { k with
      farPause := false
      forward := []
      marks := []
      farSending := k.farSending.map (fun x => { x with queued := false })
      counts :=
        { k.counts with discardedOrders := tallyAdd k.counts.discardedOrders (k.waitingForward.countP Forward.isOrder) } }

/-- A port in UP goes to DOWN (R175, R176). -/
def portDown (p : Port) (s : State) : State :=
  let x := s.link.port p
  s.setLink ((s.link.setPort p { x with state := .down, alignCount := 0, prevSeq := none }).leftUp p)

/-- A frame that failed the check is counted: bad-check orders at the near port, bad-check records at the far port (R175). -/
def countBad (p : Port) (s : State) : State :=
  match p with
  | .near => s.setCounts { s.link.counts with badOrders := tallyAdd s.link.counts.badOrders 1 }
  | .far => s.setCounts { s.link.counts with badRecords := tallyAdd s.link.counts.badRecords 1 }

/-- The alignment count of a port after a frame that passes the check, as of a lane in ALIGNING (R7, R175). -/
def portAlign (count : Nat) (prev : Option Byte) (seq : Byte) : Nat :=
  match prev with
  | none => 1
  | some q => if seq = q + 1 then count + 1 else 1

/-- A frame arrives at a port in DOWN: it is checked, counts toward alignment and is discarded (R175). -/
def alignPort (p : Port) (frame : List Byte) (s : State) : State :=
  let x := s.link.port p
  match readLinkFrame p frame with
  | none => countBad p (s.setPort p { x with alignCount := 0, prevSeq := none })
  | some _ =>
    if x.signal then
      let n := portAlign x.alignCount x.prevSeq (frameSeq frame)
      if 8 ≤ n then portUp p (frameSeq frame) s
      else s.setPort p { x with alignCount := n, prevSeq := some (frameSeq frame) }
    else s

/-- A frame fails the check at a port in UP (R175). -/
def failPortFrame (p : Port) (s : State) : State :=
  let x := s.link.port p
  let t := countBad p (s.setPort p { x with failures := x.failures + 1 })
  if 3 ≤ x.failures + 1 then portDown p t else t

/-! ## Orders at the near port (R183 to R185) -/

/-- A discarded order is counted (R184). -/
def discardOrder (s : State) : State :=
  s.setCounts { s.link.counts with discardedOrders := tallyAdd s.link.counts.discardedOrders 1 }

/-- An order is placed in the intake, or discarded when the intake holds 4 (R184). -/
def placeOrder (o : Order) (take : Bool) (s : State) : State :=
  if s.link.intake.length < 4 then
    s.setLink
      { s.link with intake := s.link.intake ++ [{ order := o, take := take, arrived := s.timebase.uptime }] }
  else discardOrder s

/-- An order or BURST mark enters the forward queue; at 8 entries it is lost, and a lost order is counted (R183). -/
def forwardEntry (e : Forward) (s : State) : State :=
  if s.link.forward.length < 8 then s.setLink { s.link with forward := s.link.forward ++ [e] }
  else if e.isOrder then discardOrder s else s

/-- The far port is UP. -/
def State.farUp (s : State) : Bool := s.link.far.state == .up

/-- An order on its way far-ward: forwarded, or UNCLAIMED at the end of the chain (R184, R185). -/
def passOrder (o : Order) (s : State) : State :=
  if s.farUp then forwardEntry (.order o) s else placeOrder o false s

/-- The order kind of ASSIGN (R193). -/
def assignKind : Byte := 1#8

/-- An order frame that passes the check arrives at the near port (R184, R185). -/
def orderArrives (o : Order) (s : State) : State :=
  if o.kind = assignKind then
    if s.run.address = 0 ∧ s.run.bypass = false then placeOrder o true s else passOrder o s
  else if o.address.toNat = s.run.address then placeOrder o true s
  else if o.address = 31#8 then
    let t := placeOrder o true s
    if t.farUp then forwardEntry (.order o) t else t
  else passOrder o s

/-! ## Marks and records (R167, R180, R181) -/

/-- Run control declares CHAINED in RUN when the part is not in bypass (R167). -/
def chained (s : State) : State := if s.run.bypass then s else declareBurst .aborted .chained s

/-- A BURST mark arrives at the near port: forwarded while the far port is UP, and declared (R167, R183). -/
def burstArrives (s : State) : State := chained (if s.farUp then forwardEntry .burst s else s)

/-- A record arrives at the far port: placed when it fits, otherwise counted as overflow; a BURST notice also declares (R167,
R181, R182). The placement and its PAUSE mark come before the declaration and its BURST mark (log entry 44). -/
def recordArrives (body : List Byte) (s : State) : State :=
  let t :=
    if s.link.passFill + body.length / 16 ≤ 64 then pauseIfFull (s.setLink { s.link with pass := s.link.pass ++ [body] })
    else s.setCounts { s.link.counts with overflow := tallyAdd s.link.counts.overflow 1 }
  if isBurstNotice body then chained t else t

/-- The near pause is put in force or taken out of force (R180). -/
def setNearPause (b : Bool) (s : State) : State := s.setLink { s.link with nearPause := b }

/-! ## The near-port transmitter (R180) -/

/-- The frame the near-port transmitter chooses next (R180). -/
def nearChoice (s : State) : NearSource × List Byte :=
  let q := s.link.near.txSeq
  if s.link.near.state = .up ∧ s.link.nearPause = false then
    match s.link.answers, s.link.pass, s.link.own with
    | a :: _, _, _ => (.answer, recordFrame a.body q)
    | [], b :: _, r :: _ =>
      match s.link.turn with
      | .pass => (.pass, recordFrame b q)
      | .own => (.own, recordFrame r.body q)
    | [], b :: _, [] => (.pass, recordFrame b q)
    | [], [], r :: _ => (.own, recordFrame r.body q)
    | [], [], [] => (.idle, idleFrame q)
  else (.idle, idleFrame q)

/-- The near-port transmitter begins a frame when none is in transmission (R175, R180). -/
def beginNear (s : State) : State :=
  match s.link.nearSending with
  | some _ => s
  | none =>
    let x := nearChoice s
    s.setLink
      { s.link with
        nearSending := some { source := x.1, queued := true, frame := x.2 }
        near := { s.link.near with txSeq := s.link.near.txSeq + 1 } }

/-- The link after the frame in transmission on the near port has left: its entry leaves its queue or buffer, unless that was
emptied meanwhile, and the turn is given (R176, R180). -/
def Link.nearSent (k : Link) (x : Sending NearSource) : Link :=
  match x.source with
  | .idle => { k with nearSending := none }
  | .answer => { k with nearSending := none, answers := if x.queued then k.answers.tail else k.answers }
  | .pass => { k with nearSending := none, pass := if x.queued then k.pass.tail else k.pass, turn := .own }
  | .own => { k with nearSending := none, own := if x.queued then k.own.tail else k.own, turn := .pass }

/-- The frame in transmission on the near port completes (R180, R182). -/
def endNear (s : State) : State :=
  match s.link.nearSending with
  | none => s
  | some x =>
    let t := s.setLink (s.link.nearSent x)
    beginNear (if x.source = .pass then resumeIfDrained t else t)

/-! ## The far-port transmitter (R183) -/

/-- The bytes of a forward queue entry on the wire (R183, R191). -/
def forwardFrame (e : Forward) (q : Byte) : List Byte :=
  match e with
  | .order o => orderFrame o q
  | .burst => markFrame .burst q

/-- The frame the far-port transmitter chooses next (R183). -/
def farChoice (s : State) : FarSource × List Byte :=
  let q := s.link.far.txSeq
  if s.link.far.state = .up then
    match s.link.marks, s.link.forward with
    | m :: _, _ => (.mark, markFrame m q)
    | [], e :: _ => (.forward, forwardFrame e q)
    | [], [] => (.idle, idleFrame q)
  else (.idle, idleFrame q)

/-- The far-port transmitter begins a frame when none is in transmission (R175, R183). -/
def beginFar (s : State) : State :=
  match s.link.farSending with
  | some _ => s
  | none =>
    let x := farChoice s
    s.setLink
      { s.link with
        farSending := some { source := x.1, queued := true, frame := x.2 }
        far := { s.link.far with txSeq := s.link.far.txSeq + 1 } }

/-- The link after the frame in transmission on the far port has left (R176, R183). -/
def Link.farSent (k : Link) (x : Sending FarSource) : Link :=
  match x.source with
  | .idle => { k with farSending := none }
  | .mark => { k with farSending := none, marks := if x.queued then k.marks.tail else k.marks }
  | .forward => { k with farSending := none, forward := if x.queued then k.forward.tail else k.forward }

/-- The frame in transmission on the far port completes (R183). -/
def endFar (s : State) : State :=
  match s.link.farSending with
  | none => s
  | some x => beginFar (s.setLink (s.link.farSent x))

/-! ## Arrival at a port (R175) -/

/-- A frame that passes the check is taken by a port in UP. -/
def takeFrame (f : LinkFrame) (s : State) : State :=
  match f with
  | .idle => s
  | .order o => orderArrives o s
  | .mark .pause => setNearPause true s
  | .mark .resume => beginNear (setNearPause false s)
  | .mark .burst => burstArrives s
  | .record body => recordArrives body s

/-- A frame arrives at a port in UP (R175). -/
def upPortFrame (p : Port) (frame : List Byte) (s : State) : State :=
  match readLinkFrame p frame with
  | none => failPortFrame p s
  | some f => takeFrame f (s.setPort p { s.link.port p with failures := 0 })

/-- A frame arrives at a port of the record link (R175). -/
def portArrival (p : Port) (frame : List Byte) (s : State) : State :=
  match (s.link.port p).state with
  | .down => alignPort p frame s
  | .up => upPortFrame p frame s

/-- Signal detect appears on a port (R175). -/
def portSignal (p : Port) (s : State) : State := s.setPort p { s.link.port p with signal := true }

/-- A port loses signal: DOWN from UP, and in DOWN its alignment starts again (R175). -/
def portSignalLost (p : Port) (s : State) : State :=
  let t := s.setPort p { s.link.port p with signal := false }
  match (s.link.port p).state with
  | .up => portDown p t
  | .down => t.setPort p { t.link.port p with alignCount := 0, prevSeq := none }

/-- The record link at RESTART (R171, R174): the own record queue and the answer queue are emptied, the counts restart, the
tally timer stops; a frame in transmission is completed. -/
def Link.restart (k : Link) : Link :=
  { k with
    own := []
    answers := []
    counts := TallyCounts.zero
    highWater := 0
    tallyExpiry := none
    nearSending := k.nearSending.map
      (fun x =>
        match x.source with
        | .own => { x with queued := false }
        | .answer => { x with queued := false }
        | .pass => x
        | .idle => x) }

end Sys2Proof.Machine
end

