-- ==== Sys2Proof/Machine/Operands.lean ====
section
/-! DEFINITION. The operands of orders: the arguments of each order kind, the items READ and WRITE name, and the contents of
every item as bytes, in a READ's answer and in a WRITE (R187, R188, R193, R194). -/

namespace Sys2Proof.Machine

/-! ## Arguments (R193) -/

/-- The item code of a READ or WRITE (R193). -/
def Order.item (o : Order) : Nat := (byteAt o.args 0).toNat

/-- The item index of a READ or WRITE (R193). -/
def Order.index (o : Order) : Nat := fieldAt o.args 2 2

/-- The contents of a WRITE (R193). -/
def Order.contents (o : Order) : List Byte := o.args.drop 4

/-- The order's arguments are shorter than its kind needs (R194). -/
def Order.short (o : Order) (n : Nat) : Bool := decide (o.args.length < n)

/-- The order kinds of R193. -/
def readKind : Byte := 2#8
def writeKind : Byte := 3#8
def selectBankKind : Byte := 4#8
def setRoleKind : Byte := 5#8
def syncKind : Byte := 6#8
def startKind : Byte := 7#8
def stopKind : Byte := 8#8
def freezeKind : Byte := 9#8
def releaseKind : Byte := 10#8
def clearCellKind : Byte := 11#8
def pulseKind : Byte := 12#8
def restartKind : Byte := 13#8
def bypassKind : Byte := 14#8

/-- The item codes of R193, in the order of the item table of 11.8. -/
def bankItem : Nat := 1
def captureItem : Nat := 2
def sensorItem : Nat := 3
def phaseMapItem : Nat := 4
def headerItem : Nat := 5
def pairItem : Nat := 6
def cellItem : Nat := 7
def classItem : Nat := 8
def rateSlotItem : Nat := 9
def trackerItem : Nat := 10
def setupItem : Nat := 11
def laneItem : Nat := 12
def tailSpanItem : Nat := 13
def chainLatencyItem : Nat := 14
def tallyIntervalItem : Nat := 15
def statusItem : Nat := 16

/-- How many indices an item has; 0 for an item the part does not know. An item without an index takes index 0 (R194). -/
def itemSize (code : Nat) : Nat :=
  match code with
  | 1 => 128
  | 2 => 32
  | 3 => 32
  | 4 => 1
  | 5 => 1
  | 6 => 512
  | 7 => 1024
  | 8 => 8
  | 9 => 1
  | 10 => 1
  | 11 => 1
  | 12 => 4
  | 13 => 1
  | 14 => 1
  | 15 => 1
  | 16 => 1
  | _ => 0

/-- The item name is unknown, or its index does not exist (R187). -/
def noItem (code idx : Nat) : Bool := !(decide (idx < itemSize code))

/-! ## Contents read (R194) -/

/-- An optional value, coded as all ones when absent (R194). -/
def onesBytes (n : Nat) (v : Option Nat) : List Byte :=
  match v with
  | none => List.replicate n 0xFF#8
  | some x => be n x

/-- Contents of CHANNEL-BANK(c, b) (R38). -/
def bankContents (x : Channel) (b : Fin 4) : List Byte :=
  let k := x.banks[b]
  be 2 k.threshold ++ be 2 k.riseWindow ++ be 2 k.quietSpan ++ be 2 k.rearmSpan ++ be 3 k.durationLimit
    ++ be 1 x.active ++ be 1 x.pending ++ be 1 (bit x.follow)

/-- Contents of CHANNEL-CAPTURE(c) (R47); the capture mode is coded OFF 0, ON 1 (3.1, R192). -/
def captureContents (x : Channel) : List Byte := be 1 (bit x.captureOn) ++ be 1 x.preLines ++ be 1 x.postLines

/-- Contents of SENSOR-MAP(c) (R50, R194). -/
def sensorContents (n : Option (Fin 32)) (x : Channel) : List Byte :=
  onesBytes 1 (n.map Fin.val) ++ onesBytes 2 (x.homeCell.map Fin.val)

/-- Contents of PHASE-MAP (R46). -/
def phaseMapContents (v : Vector (Fin 4) 6) : List Byte := v.toList.flatMap (fun b => be 1 b)

/-- Contents of LOCATION-HEADER (R78). -/
def headerContents (u : Grouping) : List Byte := be 2 u.window ++ be 3 u.holdLimit ++ be 1 u.minMembers

/-- The 32 cell positions of a PAIR item (R97, R194). -/
def positionBytes (cells : List (Option (Fin 1024))) : List Byte :=
  (List.range 32).flatMap (fun i => onesBytes 2 ((cells.getD i none).map Fin.val))

/-- Contents of PAIR(slot) (R97, R194). -/
def pairContents (e : Option PairEntry) : List Byte :=
  match e with
  | none => [0xFF#8, 0xFF#8] ++ be 2 0 ++ be 1 0 ++ positionBytes []
  | some x => be 1 x.first ++ be 1 x.second ++ be 2 x.binWidth ++ be 1 x.binCount ++ positionBytes x.cells

/-- The alarm cause, absent in QUIET and WATCH (7.1). -/
def Alarm.cause? : Alarm → Option AlarmCause
  | .quiet => none
  | .watch => none
  | .alarm k => some k

/-- Contents of CELL(n) (R111). -/
def cellContents (c : Cell) : List Byte :=
  be 1 c.cls ++ be 4 c.events ++ be 6 c.energy ++ be 2 c.holdCount ++ be 2 c.reloadCount
    ++ c.slots.toList.flatMap (fun n => be 2 n) ++ be 1 c.alarm.code ++ onesBytes 1 (c.alarm.cause?.map AlarmCause.code)

/-- Contents of CLASS(k) (R112). -/
def classContents (k : ClassRecord) : List Byte :=
  be 2 k.watchRate ++ be 2 k.holdLimit ++ be 2 k.reloadLimit ++ be 6 k.energyLimit

/-- Contents of TRACKER (R27). -/
def trackerContents (p : TrackerParams) : List Byte :=
  be 2 p.startLevel ++ be 2 p.rampThreshold ++ be 2 p.fallThreshold ++ be 1 p.holdEntryCount ++ be 2 p.reloadMargin
    ++ be 1 p.slopeWindow ++ be 2 p.dropLimit ++ be 1 p.dropWindow ++ be 1 p.satCount ++ be 2 p.satWindow

/-- Contents of CAPTURE-SETUP (R128). -/
def setupContents (u : Capture) : List Byte := be 4 u.memoryLines ++ be 2 u.ringLines ++ be 2 u.dumpDepth

/-- Contents of LANE(l) (R21). -/
def laneContents (x : Lane) : List Byte :=
  be 1 x.role.code ++ be 1 x.state.code ++ be 2 x.latency ++ be 2 x.checkTally ++ be 2 x.skipTally

/-- Contents of PART-STATUS (R188). The timebase state is coded SET 0, UNSET 1 (2.1, R192). -/
def statusContents (s : State) : List Byte :=
  be 1 s.run.state.code ++ be 1 (bit s.run.bypass) ++ be 1 s.run.address
    ++ be 1 (bit (!s.timebase.set)) ++ tickBytes s.timebase.counter
    ++ be 1 s.tracker.phase.code ++ onesBytes 2 s.tracker.pressure ++ be 2 s.tracker.pmax
    ++ be 1 s.capture.port.code ++ be 1 s.link.near.state.code ++ be 1 s.link.far.state.code
    ++ be 1 s.grouping.groups.length ++ be 1 s.capture.free ++ be 2 s.link.fill ++ be 1 s.link.passFill

/-- The contents of an item as they stand (R187). An item that does not exist has none. -/
def itemContents (s : State) (code idx : Nat) : List Byte :=
  match code with
  | 1 =>
    match index? 32 (idx / 4), index? 4 (idx % 4) with
    | some c, some b => bankContents s.channels[c] b
    | _, _ => []
  | 2 => ((index? 32 idx).map (fun c => captureContents s.channels[c])).getD []
  | 3 => ((index? 32 idx).map (fun c => sensorContents s.sensorMap[c] s.channels[c])).getD []
  | 4 => phaseMapContents s.phaseMap
  | 5 => headerContents s.grouping
  | 6 => ((index? 512 idx).map (fun i => pairContents s.pairs[i])).getD []
  | 7 => ((index? 1024 idx).map (fun n => cellContents s.cells.cells[n])).getD []
  | 8 => ((index? 8 idx).map (fun k => classContents s.cells.classes[k])).getD []
  | 9 => be 4 s.cells.slotLength
  | 10 => trackerContents s.tracker.params
  | 11 => setupContents s.capture
  | 12 => ((index? 4 idx).map (fun l => laneContents s.lanes[l])).getD []
  | 13 => be 3 s.run.tailSpan
  | 14 => be 2 s.timebase.chainLatency
  | 15 => be 4 s.link.tallyInterval
  | 16 => statusContents s
  | _ => []

/-! ## Contents written (R194) -/

/-- Some byte of `n` from byte `i` on is not all ones: the WRITE names a read-only field (R187, R194). -/
def namesReadOnly (l : List Byte) (i n : Nat) : Bool := ((l.drop i).take n).any (fun b => !(b == 0xFF#8))

/-- A number lies in a range. -/
def within (a b v : Nat) : Bool := decide (a ≤ v) && decide (v ≤ b)

/-- The bank record of a CHANNEL-BANK write. -/
def bankOf (l : List Byte) : Bank :=
  { threshold := fieldAt l 0 2, riseWindow := fieldAt l 2 2, quietSpan := fieldAt l 4 2, rearmSpan := fieldAt l 6 2,
    durationLimit := fieldAt l 8 3 }

/-- The ranges of 3.2. -/
def Bank.inRange (b : Bank) : Bool :=
  within 1 32767 b.threshold && within 1 65535 b.riseWindow && within 1 65535 b.quietSpan && within 0 65535 b.rearmSpan
    && within 16 1048575 b.durationLimit

/-- The sensor of a SENSOR-MAP write; the outer absence is a value out of range (R50, R194). -/
def sensorOf (l : List Byte) : Option (Option (Fin 32)) :=
  if fieldAt l 0 1 = 255 then some none else (index? 32 (fieldAt l 0 1)).map some

/-- The home cell of a SENSOR-MAP write; the outer absence is a value out of range (R50, R194). -/
def homeCellOf (l : List Byte) : Option (Option (Fin 1024)) :=
  if fieldAt l 1 2 = 65535 then some none else (index? 1024 (fieldAt l 1 2)).map some

/-- The six entries of a PHASE-MAP write, when each is 0 to 3 (R46). -/
def phaseMapOf (l : List Byte) : Option (Vector (Fin 4) 6) :=
  match index? 4 (fieldAt l 0 1), index? 4 (fieldAt l 1 1), index? 4 (fieldAt l 2 1),
      index? 4 (fieldAt l 3 1), index? 4 (fieldAt l 4 1), index? 4 (fieldAt l 5 1) with
  | some a, some b, some c, some d, some e, some f => some #v[a, b, c, d, e, f]
  | _, _, _, _, _, _ => none

/-- A cell position of a PAIR write; the outer absence is a value that is neither a cell nor NONE (R98, R194). -/
def positionOf (v : Nat) : Option (Option (Fin 1024)) := if v = 65535 then some none else (index? 1024 v).map some

/-- The first `n` cell positions of a PAIR write, when each is a cell or NONE (R98). -/
def positionsOf (l : List Byte) (n : Nat) : Option (List (Option (Fin 1024))) :=
  (List.range n).mapM (fun i => positionOf (fieldAt l (5 + 2 * i) 2))

/-- The key of a PAIR write is FREE (R194). -/
def keyFree (l : List Byte) : Bool := fieldAt l 0 1 == 255 && fieldAt l 1 1 == 255

/-- The entry of a PAIR write, when its fields are in range (R98, R99). -/
def pairOf (l : List Byte) : Option PairEntry :=
  match index? 32 (fieldAt l 0 1), index? 32 (fieldAt l 1 1) with
  | some f, some n =>
    if f ≠ n ∧ within 1 4096 (fieldAt l 2 2) = true ∧ within 1 32 (fieldAt l 4 1) = true then
      (positionsOf l (fieldAt l 4 1)).map
        (fun cells =>
          { first := f, second := n, binWidth := fieldAt l 2 2, binCount := fieldAt l 4 1, cells := cells })
    else none
  | _, _ => none

/-- The class record of a CLASS write; every number its fields can carry is in range (7.1, R112). -/
def classOf (l : List Byte) : ClassRecord :=
  { watchRate := fieldAt l 0 2, holdLimit := fieldAt l 2 2, reloadLimit := fieldAt l 4 2, energyLimit := fieldAt l 6 6 }

/-- The tracker parameters of a TRACKER write (R27). -/
def trackerOf (l : List Byte) : TrackerParams :=
  { startLevel := fieldAt l 0 2, rampThreshold := fieldAt l 2 2, fallThreshold := fieldAt l 4 2,
    holdEntryCount := fieldAt l 6 1, reloadMargin := fieldAt l 7 2, slopeWindow := fieldAt l 9 1,
    dropLimit := fieldAt l 10 2, dropWindow := fieldAt l 12 1, satCount := fieldAt l 13 1, satWindow := fieldAt l 14 2 }

/-- The ranges of R27. -/
def TrackerParams.inRange (p : TrackerParams) : Bool :=
  within 0 65535 p.startLevel && within 1 65535 p.rampThreshold && within 1 65535 p.fallThreshold
    && within 1 255 p.holdEntryCount && within 0 65535 p.reloadMargin && within 2 64 p.slopeWindow
    && within 1 65535 p.dropLimit && within 2 64 p.dropWindow && within 2 32 p.satCount && within 1 65535 p.satWindow

/-- The ring lines R may be: a power of two from 256 to 16,384 (R128). -/
def ringSizes : List Nat := [256, 512, 1024, 2048, 4096, 8192, 16384]

/-- The ranges of CAPTURE-SETUP (R128, order 4). -/
def setupInRange (m r d : Nat) : Bool :=
  within 65536 16777216 m && ringSizes.contains r && decide (32 * r ≤ m) && decide (d ≤ r)

/-- A channel's pre lines, post lines and trigger line fit half a ring (R47, R128). -/
def captureFits (pre post r : Nat) : Bool := decide (pre + post + 1 ≤ r / 2)

/-- A lane role's value (R192). -/
def roleOf (v : Nat) : Option LaneRole :=
  match v with
  | 0 => some .pod
  | 1 => some .gauge
  | 2 => some .off
  | _ => none

/-- The channels named in a SELECT-BANK mask: bit c for channel c (R193). -/
def maskChannels (o : Order) : List (Fin 32) := allChannels.filter (fun c => (fieldAt o.args 0 4).testBit c.val)

/-- The cells named by a CLEAR-CELL target: one cell, or ALL (R122, R193). -/
def targetCells (o : Order) : Option (List (Fin 1024)) :=
  if fieldAt o.args 0 2 = 65535 then some cellNumbers else (index? 1024 (fieldAt o.args 0 2)).map (fun n => [n])

end Sys2Proof.Machine
end

