-- ==== Sys2Proof/Machine/Orders.lean ====
section
/-! DEFINITION. The execution of orders: the order at the head of the intake, the refusal conditions in their order, the effect,
and the answer (R179, R186, R187). -/

namespace Sys2Proof.Machine

/-- The order at the head of the intake, when the answer queue has room for one answer (R186). -/
def executable (s : State) : Option (IntakeEntry × List IntakeEntry) :=
  if s.running && decide (s.link.answers.length < 4) then
    match s.link.intake with
    | [] => none
    | e :: rest => some (e, rest)
  else none

/-- The order is a READ or a WRITE and carries an item code and index (R192); one too short to carry them is answered with item
code 0 and index 0 (log entry 45). -/
def Order.namesItem (o : Order) : Bool := (o.kind == readKind || o.kind == writeKind) && !(o.short 4)

/-- The answer to an order, with the part address as it stands when it is built (R179). A READ or WRITE too short to name its
item carries item code 0 and index 0 (log entry 45). -/
def answerOf (s : State) (o : Order) (reason : Option Reason) (contents : List Byte) : Answer :=
  { part := s.run.address, tag := o.tag, kind := o.kind, reason := reason,
    item := if o.namesItem then byteAt o.args 0 else 0, index := if o.namesItem then o.index else 0,
    contents := contents }

/-- An answer is placed in the answer queue (R179). -/
def placeAnswer (o : Order) (reason : Option Reason) (contents : List Byte) (s : State) : State :=
  s.setLink { s.link with answers := s.link.answers ++ [answerOf s o reason contents] }

/-- The order at the head of the intake is executed, if it is one that `want` takes: refused with the reason `check` gives, or
carried out by `effect` and answered OK with `contents` as they stood at the execution (R179, R186, R187). An execution
that is not enabled changes nothing. -/
def execute (want : IntakeEntry → Bool) (check : IntakeEntry → State → Option Reason)
    (effect : IntakeEntry → State → State) (contents : IntakeEntry → State → List Byte) (s : State) : State :=
  match executable s with
  | none => s
  | some (e, rest) =>
    if want e then
      let t := s.setLink { s.link with intake := rest }
      match check e t with
      | some r => placeAnswer e.order (some r) [] t
      | none => placeAnswer e.order none (contents e t) (effect e t)
    else s

/-- An execution whose answer carries no contents. -/
def executeOrder (want : IntakeEntry → Bool) (check : IntakeEntry → State → Option Reason)
    (effect : IntakeEntry → State → State) (s : State) : State :=
  execute want check effect (fun _ _ => []) s

/-- An order of this kind marked TAKE. -/
def taken (kind : Byte) (e : IntakeEntry) : Bool := e.take && e.order.kind == kind

/-- A WRITE, marked TAKE, that names the item with this code. -/
def writes (code : Nat) (e : IntakeEntry) : Bool :=
  taken writeKind e && !(e.order.short 4) && e.order.item == code

/-- The first condition that holds gives the reason. -/
def firstReason : List (Bool × Reason) → Option Reason
  | [] => none
  | (b, r) :: l => if b then some r else firstReason l

/-- The run state is not IDLE. -/
def State.notIdle (s : State) : Bool := !(s.run.state == .idle)

/-- A pulse test is in flight. -/
def State.testing (s : State) : Bool := s.pulse.test.inFlight

/-! ## Which row executes an order -/

/-- The row of a WRITE that names an item with an index that exists (R187). -/
def writeRow (code : Nat) : Instr :=
  match code with
  | 1 => .channelBankWrite
  | 2 => .channelCaptureWrite
  | 3 => .sensorMapWrite
  | 4 => .phaseMapWrite
  | 5 => .locationHeaderWrite
  | 6 => .pairWrite
  | 7 => .cellWrite
  | 8 => .classWrite
  | 9 => .rateSlotWrite
  | 10 => .trackerWrite
  | 11 => .captureSetupWrite
  | 12 => .laneWrite
  | 13 => .tailSpanWrite
  | 14 => .chainLatencyWrite
  | 15 => .tallyIntervalWrite
  | _ => .write

/-- The row of the table that executes an order of the intake (R186, R193). -/
def rowOf (e : IntakeEntry) : Instr :=
  if e.take then
    match e.order.kind.toNat with
    | 1 => .assign
    | 2 => .read
    | 3 => if e.order.short 4 || noItem e.order.item e.order.index then .write else writeRow e.order.item
    | 4 => if byteAt e.order.args 4 = 0xFF#8 then .selectBankFollow else .selectBank
    | 5 => .setRole
    | 6 => .sync
    | 7 => .start
    | 8 => .stop
    | 9 => .freeze
    | 10 => .release
    | 11 => .clearCell
    | 12 => .pulse
    | 13 => .restart
    | 14 => if e.order.short 1 = false ∧ byteAt e.order.args 0 = 0#8 then .bypassOff else .bypassOn
    | _ => .unknownOrder
  else .unclaimed

/-! ## Effects on tables -/

/-- A WRITE of CHANNEL-BANK that is taken (R39). -/
def writeBank (e : IntakeEntry) (s : State) : State :=
  match index? 32 (e.order.index / 4), index? 4 (e.order.index % 4) with
  | some c, some b =>
    s.setChannel c { s.channels[c] with banks := put s.channels[c].banks b (bankOf e.order.contents) }
  | _, _ => s

/-- The bank of a CHANNEL-BANK write is active and its detector may be measuring with it (R39). -/
def bankInUse (e : IntakeEntry) (s : State) : Bool :=
  match index? 32 (e.order.index / 4), index? 4 (e.order.index % 4) with
  | some c, some b =>
    s.channels[c].active == b && (s.measuring || (s.run.state == .idle && s.testing))
  | _, _ => false

/-- A WRITE of CHANNEL-CAPTURE that is taken (R47). -/
def writeCapture (e : IntakeEntry) (s : State) : State :=
  let l := e.order.contents
  match index? 32 e.order.index with
  | some c =>
    s.setChannel c
      { s.channels[c] with
        captureOn := fieldAt l 0 1 == 1, preLines := fieldAt l 1 1, postLines := fieldAt l 2 1 }
  | none => s

/-- Some field of a CHANNEL-CAPTURE write is out of range, or its lines do not fit (R47). -/
def captureOutOfRange (e : IntakeEntry) (s : State) : Bool :=
  let l := e.order.contents
  e.order.short 7 || !(within 0 1 (fieldAt l 0 1)) || !(within 0 63 (fieldAt l 1 1)) || !(within 0 255 (fieldAt l 2 1))
    || !(captureFits (fieldAt l 1 1) (fieldAt l 2 1) s.capture.ringLines)

/-- The horizon of a channel after a SENSOR-MAP write: present while the channel is mapped and its lane is POD and UP (R58). -/
def mappedHorizon (s : State) (c : Fin 32) (n : Option (Fin 32)) : Option Tick :=
  match n with
  | none => none
  | some _ =>
    if s.podUp (laneOf c) then
      match s.detectors[c].horizon with
      | some h => some h
      | none => (s.lanes[laneOf c].expTick).map (fun t => tickBack t 1)
    else none

/-- The sensor map entry and home cell of a channel are replaced (R50). -/
def mapSensor (c : Fin 32) (n : Option (Fin 32)) (home : Option (Fin 1024)) (s : State) : State :=
  let t := (s.setSensorMap (put s.sensorMap c n)).setChannel c { s.channels[c] with homeCell := home }
  t.setDetector c { t.detectors[c] with horizon := mappedHorizon s c n }

/-- A WRITE of SENSOR-MAP that is taken (R50). -/
def writeSensor (e : IntakeEntry) (s : State) : State :=
  match index? 32 e.order.index, sensorOf e.order.contents, homeCellOf e.order.contents with
  | some c, some n, some home => mapSensor c n home s
  | _, _, _ => s

/-- A field of a SENSOR-MAP write is out of range (R50). -/
def sensorOutOfRange (e : IntakeEntry) : Bool :=
  e.order.short 7 || (sensorOf e.order.contents).isNone || (homeCellOf e.order.contents).isNone

/-- Another channel holds the sensor of a SENSOR-MAP write (R50). -/
def sensorDuplicate (e : IntakeEntry) (s : State) : Bool :=
  match sensorOf e.order.contents with
  | some (some n) => allChannels.any (fun c => !(c.val == e.order.index) && s.sensorMap[c] == some n)
  | _ => false

/-- A WRITE of PHASE-MAP that is taken: follow channels take the new entry for the present phase (R46). -/
def writePhaseMap (e : IntakeEntry) (s : State) : State :=
  match phaseMapOf e.order.contents with
  | some v => followPhase (s.setPhaseMap v)
  | none => s

/-- A WRITE of LOCATION-HEADER that is taken (R78). -/
def writeHeader (e : IntakeEntry) (s : State) : State :=
  let l := e.order.contents
  s.setGrouping { s.grouping with window := fieldAt l 0 2, holdLimit := fieldAt l 2 3, minMembers := fieldAt l 5 1 }

def headerOutOfRange (e : IntakeEntry) : Bool :=
  let l := e.order.contents
  e.order.short 10 || !(within 1 65535 (fieldAt l 0 2)) || !(within 0 1048575 (fieldAt l 2 3))
    || !(within 2 4 (fieldAt l 5 1))

/-- A WRITE of PAIR that is taken (R99). -/
def writePair (e : IntakeEntry) (s : State) : State :=
  match index? 512 e.order.index with
  | some i =>
    if keyFree e.order.contents then s.setPairs (put s.pairs i none)
    else
      match pairOf e.order.contents with
      | some x => s.setPairs (put s.pairs i (some x))
      | none => s
  | none => s

def pairOutOfRange (e : IntakeEntry) : Bool :=
  e.order.short 73 || (!(keyFree e.order.contents) && (pairOf e.order.contents).isNone)

/-- Another slot holds an entry with the key of a PAIR write (R98). -/
def pairDuplicate (e : IntakeEntry) (s : State) : Bool :=
  if keyFree e.order.contents then false
  else
    match pairOf e.order.contents with
    | none => false
    | some x =>
      (List.finRange 512).any (fun i =>
        !(i.val == e.order.index) &&
          (match s.pairs[i] with
           | none => false
           | some y => y.first == x.first && y.second == x.second))

/-- A WRITE of CELL that is taken: the class alone (R111). -/
def writeCell (e : IntakeEntry) (s : State) : State :=
  match index? 1024 e.order.index, index? 8 (fieldAt e.order.contents 0 1) with
  | some n, some k => s.setCell n { s.cells.cells[n] with cls := k }
  | _, _ => s

/-- A WRITE of CLASS that is taken (R112). -/
def writeClass (e : IntakeEntry) (s : State) : State :=
  match index? 8 e.order.index with
  | some k => s.setCells { s.cells with classes := put s.cells.classes k (classOf e.order.contents) }
  | none => s

/-- A WRITE of CAPTURE-SETUP that is taken: the three values, and every ring reset (R128, R129). -/
def writeSetup (e : IntakeEntry) (s : State) : State :=
  let l := e.order.contents
  s.setCapture
    { s.capture with
      memoryLines := fieldAt l 0 4, ringLines := fieldAt l 4 2, dumpDepth := fieldAt l 6 2,
      rings := resetRings (fieldAt l 4 2) }

/-- A ring write is queued or in progress (R128). -/
def Capture.writing (u : Capture) : Bool :=
  !u.queue.isEmpty ||
    (match u.access with
     | some { op := .write _, .. } => true
     | _ => false)

/-- Some segment is not FREE, or a ring write is queued or in progress (R128, order 3). -/
def setupBusy (s : State) : Bool := decide (s.capture.free < 64) || s.capture.writing

def setupOutOfRange (e : IntakeEntry) : Bool :=
  let l := e.order.contents
  e.order.short 12 || !(setupInRange (fieldAt l 0 4) (fieldAt l 4 2) (fieldAt l 6 2))

/-- Some channel's capture fields would not fit the new rings (R128, order 5). -/
def setupMisfit (e : IntakeEntry) (s : State) : Bool :=
  allChannels.any (fun c =>
    !(captureFits s.channels[c].preLines s.channels[c].postLines (fieldAt e.order.contents 4 2)))

/-- A WRITE of LANE that is taken: the latency alone (R21). -/
def writeLane (e : IntakeEntry) (s : State) : State :=
  match index? 4 e.order.index with
  | some l => s.setLane l { s.lanes[l] with latency := fieldAt e.order.contents 2 2 }
  | none => s

/-! ## Effects of the other orders -/

/-- SELECT-BANK with a bank number on one channel (R43). -/
def selectOne (b : Fin 4) (c : Fin 32) (s : State) : State :=
  setPending c b (s.setChannel c { s.channels[c] with follow := false })

/-- SELECT-BANK with FOLLOW on one channel (R44). -/
def followOne (c : Fin 32) (s : State) : State :=
  setPending c s.phaseBank (s.setChannel c { s.channels[c] with follow := true })

/-- SYNC that is taken (R24): the counter as if it had read value + chain latency at the arrival, and the tally timer started
afresh at that tick (R189). -/
def syncNow (e : IntakeEntry) (s : State) : State :=
  let n := BitVec.ofNat 48 (fieldAt e.order.args 0 6 + s.timebase.chainLatency + (s.timebase.uptime - e.arrived))
  let t := s.setTimebase { s.timebase with counter := n, set := true }
  t.setLink { t.link with tallyExpiry := some (tickAdd n t.link.tallyInterval) }

/-- START that is taken, in the order of R161. -/
def startRun (s : State) : State :=
  let s1 := startCells (startCapture s)
  let s2 := s1.setGrouping { s1.grouping with counter := 0, lastClosed := none }
  let s3 := s2.setTracker s2.tracker.start
  let s4 := s3.setRun { s3.run with cause := none, burstTick := none, state := .run }
  let s5 := s4.setCells { s4.cells with boundary := some (tickAdd s4.timebase.counter s4.cells.slotLength) }
  forEach allChannels makeLive s5

/-- STOP that is taken: the departure from RUN, in the order of R162. -/
def stopRun (s : State) : State :=
  let s1 := forEach allChannels sealChannel s
  let s2 := forEach allChannels (detectorOff presentQuietly .halt) s1
  let s3 := endTest presentQuietly .withheld .aborted s2
  let s4 := haltGroups s3
  let s5 := s4.setTracker s4.tracker.disarm
  let s6 := s5.setCells { s5.cells with boundary := none }
  s6.setRun { s6.run with state := .idle }

/-- RELEASE that is taken (R170). -/
def releaseRun (s : State) : State :=
  let t := stopDump s
  t.setRun { t.run with cause := none, burstTick := none, state := .idle }

/-- Run control at RESTART (R159, R171). -/
def RunControl.restart (r : RunControl) : RunControl :=
  { r with state := .idle, cause := none, burstTick := none, tailExpiry := none, bypass := false }

/-- RESTART, block by block (R171). -/
def restartPart (s : State) : State :=
  { s with
    link := s.link.restart
    detectors := Vector.replicate 32 Detector.reset
    pulse := Pulse.reset
    grouping := s.grouping.restart
    capture := s.capture.restart
    cells := s.cells.restart
    tracker := Tracker.resetWith s.tracker.params
    timebase := { s.timebase with set := false }
    channels := mapTable (fun c => { c with pending := c.active }) s.channels
    lanes := mapTable Lane.restart s.lanes
    run := s.run.restart }

/-- The source sensor of a PULSE and its channel, when the sensor is mapped (R148, R149). -/
def pulseSource (e : IntakeEntry) (s : State) : Option (Fin 32 × Fin 32) :=
  (index? 32 (fieldAt e.order.args 0 1)).bind (fun n => (s.channelOfSensor n).map (fun c => (n, c)))

/-- The lane sends the fire mark for the channel's slot, now (R17). -/
def sendFireMark (c : Fin 32) (s : State) : State :=
  s.setFireMark (some { lane := laneOf c, sent := s.timebase.counter, frame := fireFrame (slotOf c) })

/-- PULSE that is taken (R149). -/
def startTest (e : IntakeEntry) (s : State) : State :=
  match pulseSource e s with
  | none => s
  | some (n, c) =>
    let i : TestInfo :=
      { tag := e.order.tag.toNat, source := n, channel := c, window := fieldAt e.order.args 2 2,
        sendTick := s.timebase.counter }
    let t := (sendFireMark c s).setPulse { Pulse.reset with test := .waiting i 0 }
    if t.listening then forEach allChannels makeLive t else t

/-- The source of a PULSE, its window or its mapping is out of range (R148, order 4). -/
def pulseOutOfRange (e : IntakeEntry) (s : State) : Bool :=
  e.order.short 4 || !(within 1 65535 (fieldAt e.order.args 2 2)) || (pulseSource e s).isNone

/-- The lane of the source channel is not POD or not UP (R148, order 5). -/
def pulseLaneDown (e : IntakeEntry) (s : State) : Bool :=
  match pulseSource e s with
  | none => false
  | some (_, c) => !(s.podUp (laneOf c))

end Sys2Proof.Machine
end

