-- ==== Sys2Proof/Machine/ResetEvents.lean ====
section
/-! DEFINITION. Full reset, its release and the end of the settle period (R158): RESET_ASSERT, RESET_RELEASE, SETTLE_END. -/

namespace Sys2Proof.Machine

/-- Work that is done only while the part runs; in reset and in the settle period it changes nothing (R158). -/
def whileRunning (f : State → State) (s : State) : State := if s.running then f s else s

/-- The reset inputs with one of them low; the settle period, if it was under way, is over. -/
def Power.assert (p : Power) : ResetPin → Power
  | .resetLine => { p with resetLine := false, settling := false }
  | .supplyGood => { p with supplyGood := false, settling := false }

/-- A lane at full reset, its signal-detect input as it stands. -/
def Lane.fullReset (x : Lane) (role : LaneRole) : Lane := { Lane.reset role with signal := x.signal }

/-- The lanes at full reset (R1), their inputs as they stand. -/
def fullResetLanes (v : Vector Lane 4) : Vector Lane 4 :=
  #v[v[0].fullReset .pod, v[1].fullReset .pod, v[2].fullReset .pod, v[3].fullReset .gauge]

/-- A record link port at full reset, its signal-detect input as it stands. -/
def LinkPort.fullReset (x : LinkPort) : LinkPort := { LinkPort.reset with signal := x.signal }

/-- The record link at full reset (R174). -/
def Link.fullReset (k : Link) : Link := { Link.reset with near := k.near.fullReset, far := k.far.fullReset }

/-- Every item at the value its chapter gives for full reset. What is no item of the part stays: the reset inputs, the
signal-detect inputs, the commands waiting, and the contents of the attached memory (R129), less the line of a write cut
off by the reset. -/
def fullReset (s : State) : State :=
  { State.reset with
    power := s.power
    lanes := fullResetLanes s.lanes
    capture := { Capture.reset with memory := s.capture.abandoned }
    link := s.link.fullReset
    pending := s.pending }

/-- Reset is released: both inputs are high, and the settle period begins with the counter at 0 (R22, R158). -/
def release (s : State) : State :=
  (s.setPower { resetLine := true, supplyGood := true, settling := true }).setTimebase
    { s.timebase with counter := 0, uptime := 0 }

/-- Length of the settle period in ticks (R158). -/
def settleTicks : Nat := 100000

/-- The settle period is over: it began with the counter at 0 and lasts 100,000 ticks (R158). -/
def State.settleDue (s : State) : Bool :=
  !s.inReset && s.power.settling && decide (settleTicks ≤ s.timebase.counter.toNat)

/-- The part begins to run: lanes with signal detect present enter ALIGNING, in ascending lane number (log entry 48), and both
transmitters send (R1, R158, R175). -/
def beginRunning (s : State) : State :=
  beginFar (beginNear (forEach allLanes tryAlign (s.setPower { s.power with settling := false })))

/-- RESET_ASSERT (R158). -/
def execResetAssert (pin : ResetPin) (s : State) : Host.Outcome State Fault Refusal :=
  .next (fullReset (s.setPower (s.power.assert pin)))

/-- RESET_RELEASE (R158); it has no effect unless reset is asserted. -/
def execResetRelease (s : State) : Host.Outcome State Fault Refusal :=
  .next (if s.inReset then release s else s)

/-- SETTLE_END (R158, R1); it has no effect unless the settle period is over. -/
def execSettleEnd (s : State) : Host.Outcome State Fault Refusal :=
  .next (if s.settleDue then beginRunning s else s)

end Sys2Proof.Machine
end

