-- ==== Sys2Proof/Machine/LaneEvents.lean ====
section
/-! DEFINITION. Events at the lane ports and the detectors: SIGNAL_DETECT, LOSS_OF_SIGNAL, SAMPLE_FRAME, GAUGE_FRAME,
SAMPLE_PROCESSED (chapters 1 and 4). The signal-detect inputs follow their commands at all times; in reset and in the
settle period they are disregarded (R1). -/

namespace Sys2Proof.Machine

/-- The signal-detect input of a lane. -/
def setLaneSignal (l : Fin 4) (b : Bool) (s : State) : State := s.setLane l { s.lanes[l] with signal := b }

/-- SIGNAL_DETECT (R6). -/
def execSignalDetect (l : Fin 4) (s : State) : Host.Outcome State Fault Refusal :=
  .next (if s.running then laneSignal l s else setLaneSignal l true s)

/-- LOSS_OF_SIGNAL (R8). -/
def execLossOfSignal (l : Fin 4) (s : State) : Host.Outcome State Fault Refusal :=
  .next (if s.running then settleCapture (laneSignalLost l s) else setLaneSignal l false s)

/-- A frame that arrives on a lane while the part runs, with the readout and the memory port served after it (R6, R7, R10,
R134, R140). -/
def laneFrame (l : Fin 4) (frame : List Byte) (s : State) : State :=
  whileRunning (fun t => settleCapture (laneArrival l frame t)) s

/-- SAMPLE_FRAME (R7, R10 to R15, R18). The frame is judged by its bytes: a lane of another role fails it. -/
def execSampleFrame (l : Fin 4) (frame : List Byte) (s : State) : Host.Outcome State Fault Refusal :=
  .next (laneFrame l frame s)

/-- GAUGE_FRAME (R7, R10 to R12, R14, R16). -/
def execGaugeFrame (l : Fin 4) (frame : List Byte) (s : State) : Host.Outcome State Fault Refusal :=
  .next (laneFrame l frame s)

/-- The detector has samples of a delivered frame still to deal with. -/
def State.fed (s : State) (c : Fin 32) : Bool := (s.detectors[c].feed).isSome

/-- SAMPLE_PROCESSED (R59); it has no effect when the detector has no sample to take. -/
def execSampleProcessed (c : Fin 32) (s : State) : Host.Outcome State Fault Refusal :=
  .next (whileRunning (fun t => if t.fed c then settleCapture (feedStep c t) else t) s)

end Sys2Proof.Machine
end

