-- ==== Sys2Proof/Machine/LinkEvents.lean ====
section
/-! DEFINITION. Events at the ports of the record link: LINK_SIGNAL_DETECT, LINK_LOSS_OF_SIGNAL, the frames that arrive, and
the ends of transmissions (chapter 11, R167). Each frame is judged by its bytes (R175). -/

namespace Sys2Proof.Machine

/-- The signal-detect input of a record link port. -/
def setPortSignal (p : Port) (b : Bool) (s : State) : State := s.setPort p { s.link.port p with signal := b }

/-- LINK_SIGNAL_DETECT (R175). -/
def execLinkSignalDetect (p : Port) (s : State) : Host.Outcome State Fault Refusal :=
  .next (if s.running then portSignal p s else setPortSignal p true s)

/-- LINK_LOSS_OF_SIGNAL (R175, R176). -/
def execLinkLossOfSignal (p : Port) (s : State) : Host.Outcome State Fault Refusal :=
  .next (if s.running then portSignalLost p s else setPortSignal p false s)

/-- IDLE_FRAME (R175). -/
def execIdleFrame (p : Port) (frame : List Byte) (s : State) : Host.Outcome State Fault Refusal :=
  .next (whileRunning (portArrival p frame) s)

/-- ORDER_FRAME (R184, R185). -/
def execOrderFrame (frame : List Byte) (s : State) : Host.Outcome State Fault Refusal :=
  .next (whileRunning (portArrival .near frame) s)

/-- PAUSE_MARK (R180). -/
def execPauseMark (frame : List Byte) (s : State) : Host.Outcome State Fault Refusal :=
  .next (whileRunning (portArrival .near frame) s)

/-- RESUME_MARK (R180). -/
def execResumeMark (frame : List Byte) (s : State) : Host.Outcome State Fault Refusal :=
  .next (whileRunning (portArrival .near frame) s)

/-- BURST_MARK (R167, R183). -/
def execBurstMark (frame : List Byte) (s : State) : Host.Outcome State Fault Refusal :=
  .next (whileRunning (fun t => settleCapture (portArrival .near frame t)) s)

/-- RECORD_FRAME (R167, R181, R182). -/
def execRecordFrame (frame : List Byte) (s : State) : Host.Outcome State Fault Refusal :=
  .next (whileRunning (fun t => settleCapture (portArrival .far frame t)) s)

/-- NEAR_TRANSMISSION_END (R180, R182); it has no effect when no frame is in transmission. -/
def execNearTransmissionEnd (s : State) : Host.Outcome State Fault Refusal := .next (whileRunning endNear s)

/-- FAR_TRANSMISSION_END (R183); it has no effect when no frame is in transmission. -/
def execFarTransmissionEnd (s : State) : Host.Outcome State Fault Refusal := .next (whileRunning endFar s)

end Sys2Proof.Machine
end

