-- ==== Sys2Proof/Machine/MemoryEvents.lean ====
section
/-! DEFINITION. Events at the capture memory port and of the readout and the dump: RING_WRITE_COMPLETE, READOUT_READ_COMPLETE,
DUMP_READ_COMPLETE, TIMEOUT, READOUT_LINE_START, DUMP_LINE_START (R133 to R135, R140, R144, R145). -/

namespace Sys2Proof.Machine

/-- The access in progress ends with an outcome, when it is of the kind the event names (R133). -/
def accessEnds (kind : AccessKind) (o : AccessOutcome) (s : State) : State :=
  match s.capture.access with
  | none => s
  | some a => if a.op.kind = kind then endAccess o a s else s

/-- RING_WRITE_COMPLETE (R133); it has no effect when no ring write is in progress. -/
def execRingWriteComplete (a : Answered) (s : State) : Host.Outcome State Fault Refusal :=
  .next (whileRunning (accessEnds .ringWrite (outcomeOf a)) s)

/-- READOUT_READ_COMPLETE (R140); it has no effect when no readout read is in progress. -/
def execReadoutReadComplete (a : Answered) (s : State) : Host.Outcome State Fault Refusal :=
  .next (whileRunning (accessEnds .readout (outcomeOf a)) s)

/-- DUMP_READ_COMPLETE (R144); it has no effect when no dump read is in progress. -/
def execDumpReadComplete (a : Answered) (s : State) : Host.Outcome State Fault Refusal :=
  .next (whileRunning (accessEnds .dump (outcomeOf a)) s)

/-- Ticks without an answer after which an access ends (R133). -/
def timeoutTicks : Nat := 16

/-- The access in progress ends with TIMEOUT once 16 ticks have passed on it (R133). -/
def accessTimesOut (s : State) : State :=
  match s.capture.access with
  | none => s
  | some a => if a.started + timeoutTicks ≤ s.timebase.uptime then endAccess .timeout a s else s

/-- TIMEOUT (R133); it has no effect when no access is in progress or fewer than 16 ticks have passed on it. -/
def execTimeout (s : State) : Host.Outcome State Fault Refusal := .next (whileRunning accessTimesOut s)

/-- The readout takes its segment's next line, when nothing holds it back (R140). -/
def readoutLine (s : State) : State :=
  if s.readoutReady then
    match readingSegment s with
    | none => s
    | some (i, g) => settleCapture (readoutTake i g s)
  else s

/-- READOUT_LINE_START (R140). -/
def execReadoutLineStart (s : State) : Host.Outcome State Fault Refusal := .next (whileRunning readoutLine s)

/-- The dump takes its next line, when nothing holds it back (R145). -/
def dumpLine (s : State) : State :=
  if s.dumpReady then
    match s.capture.dump with
    | none => s
    | some d => dumpTake d s
  else s

/-- DUMP_LINE_START (R144, R145). -/
def execDumpLineStart (s : State) : Host.Outcome State Fault Refusal := .next (whileRunning dumpLine s)

end Sys2Proof.Machine
end

