-- ==== Sys2Proof/Machine/RunOrders.lean ====
section
/-! DEFINITION. The execution of SYNC, the run orders, CLEAR-CELL, PULSE, BYPASS, and of orders that are UNCLAIMED or of an
unknown kind (chapters 2, 7, 9, 10 and R186). -/

namespace Sys2Proof.Machine

/-- SYNC (R23, R24). -/
def execSync (s : State) : Host.Outcome State Fault Refusal :=
  .next (executeOrder (taken syncKind)
    (fun e t => firstReason
      [(t.run.bypass, .state), (t.notIdle, .state), (t.testing, .busy), (e.order.short 6, .range)])
    syncNow s)

/-- No physical channel is mapped to a sensor (R160). -/
def State.unmapped (s : State) : Bool := allChannels.all (fun c => (s.sensorMap[c]).isNone)

/-- A pulse test is WAITING (R160). -/
def TestState.isWaiting : TestState → Bool
  | .none => false
  | .waiting _ _ => true
  | .window _ _ => false

/-- START (R160, R161). -/
def execStart (s : State) : Host.Outcome State Fault Refusal :=
  .next (executeOrder (taken startKind)
    (fun _ t => firstReason
      [(t.run.bypass, .state), (t.notIdle, .state), (!t.timebase.set, .time), (t.unmapped, .nosensor),
       (t.pulse.test.isWaiting, .busy)])
    (fun _ t => startRun t) s)

/-- STOP (R162). -/
def execStop (s : State) : Host.Outcome State Fault Refusal :=
  .next (executeOrder (taken stopKind)
    (fun _ t => firstReason [(t.run.bypass, .state), (!(t.run.state == .run), .state)])
    (fun _ t => settleCapture (stopRun t)) s)

/-- FREEZE (R166). -/
def execFreeze (s : State) : Host.Outcome State Fault Refusal :=
  .next (executeOrder (taken freezeKind)
    (fun _ t => firstReason [(t.run.bypass, .state), (!(t.run.state == .run), .state)])
    (fun _ t => settleCapture (declareBurst .aborted .manual t)) s)

/-- RELEASE (R170). -/
def execRelease (s : State) : Host.Outcome State Fault Refusal :=
  .next (executeOrder (taken releaseKind)
    (fun _ t => firstReason [(t.run.bypass, .state), (!(t.run.state == .frozen), .state)])
    (fun _ t => releaseRun t) s)

/-- RESTART (R171): never refused; lanes whose signal detect is present then enter ALIGNING (R2, R6), in ascending lane number
(log entry 48). -/
def execRestart (s : State) : Host.Outcome State Fault Refusal :=
  .next (executeOrder (taken restartKind) (fun _ _ => none)
    (fun _ t => forEach allLanes tryAlign (restartPart t)) s)

/-- CLEAR_CELL (R122, R123). -/
def execClearCell (s : State) : Host.Outcome State Fault Refusal :=
  .next (executeOrder (taken clearCellKind)
    (fun e t => firstReason
      [(t.run.bypass, .state), (e.order.short 2 || (targetCells e.order).isNone, .range)])
    (fun e t => forEach ((targetCells e.order).getD []) Machine.clearCell t) s)

/-- PULSE (R148, R149). -/
def execPulse (s : State) : Host.Outcome State Fault Refusal :=
  .next (executeOrder (taken pulseKind)
    (fun e t => firstReason
      [(t.run.bypass, .state), (t.run.state == .tailing || t.run.state == .frozen, .state), (t.testing, .busy),
       (pulseOutOfRange e t, .range), (pulseLaneDown e t, .lane), (!t.timebase.set, .time)])
    startTest s)

/-- The value of a BYPASS is off (R193). -/
def asksOff (e : IntakeEntry) : Bool := !(e.order.short 1) && byteAt e.order.args 0 == 0#8

/-- The value of a BYPASS is on (R193). -/
def asksOn (e : IntakeEntry) : Bool := !(e.order.short 1) && byteAt e.order.args 0 == 1#8

/-- BYPASS_ON: BYPASS(on), or a BYPASS whose value is neither on nor off (R172, R186). -/
def execBypassOn (s : State) : Host.Outcome State Fault Refusal :=
  .next (executeOrder (fun e => taken bypassKind e && !(asksOff e))
    (fun e t => firstReason
      [(t.run.bypass, .state), (!(asksOn e), .range), (t.notIdle, .state), (t.testing, .busy)])
    (fun _ t => t.setRun { t.run with bypass := true }) s)

/-- BYPASS_OFF (R172): taken in every state. -/
def execBypassOff (s : State) : Host.Outcome State Fault Refusal :=
  .next (executeOrder (fun e => taken bypassKind e && asksOff e) (fun _ _ => none)
    (fun _ t => t.setRun { t.run with bypass := false }) s)

/-- UNCLAIMED (R186): the order does nothing. -/
def execUnclaimed (s : State) : Host.Outcome State Fault Refusal :=
  .next (executeOrder (fun e => !e.take) (fun _ _ => some .unclaimed) (fun _ t => t) s)

/-- The order's kind is not one of R193. -/
def unknownKind (e : IntakeEntry) : Bool := e.take && !(within 1 14 e.order.kind.toNat)

/-- UNKNOWN_ORDER (R186). -/
def execUnknownOrder (s : State) : Host.Outcome State Fault Refusal :=
  .next (executeOrder unknownKind
    (fun _ t => firstReason [(t.run.bypass, .state), (true, .range)]) (fun _ t => t) s)

end Sys2Proof.Machine
end

