-- ==== Sys2Proof/Machine/TableOrders.lean ====
section
/-! DEFINITION. The execution of ASSIGN, READ, WRITE, the item writes, SELECT-BANK and SET-ROLE (R185, R187, and the rules of
the items). Each refusal list stands in the order its rule gives; an order whose arguments are too short for its kind is
refused with RANGE where its rule tests the range (R194). -/

namespace Sys2Proof.Machine

/-- The execution of a WRITE of one item: NO-ITEM first, then STATE in bypass, then the item's own conditions (R186, R187). -/
def writeItem (code : Nat) (conditions : IntakeEntry → State → List (Bool × Reason))
    (effect : IntakeEntry → State → State) (s : State) : Host.Outcome State Fault Refusal :=
  .next (executeOrder (writes code)
    (fun e t => firstReason
      ((noItem e.order.item e.order.index, .noItem) :: (t.run.bypass, .state) :: conditions e t)) effect s)

/-- The chain address of an ASSIGN. -/
def assigned (e : IntakeEntry) : Nat := fieldAt e.order.args 0 1

/-- ASSIGN (R185). RANGE is tested before the address that is no longer 0, for which the rule gives no order (log entry 47). -/
def execAssign (s : State) : Host.Outcome State Fault Refusal :=
  .next (executeOrder (taken assignKind)
    (fun e t => firstReason
      [(t.run.bypass, .state), (e.order.short 1 || !(within 1 15 (assigned e)), .range),
       (!(t.run.address == 0), .state)])
    (fun e t => t.setRun { t.run with address := assigned e }) s)

/-- READ (R187): the item's contents as they stand. -/
def execRead (s : State) : Host.Outcome State Fault Refusal :=
  .next (execute (taken readKind)
    (fun e _ => firstReason [(e.order.short 4, .range), (noItem e.order.item e.order.index, .noItem)])
    (fun _ t => t) (fun e t => itemContents t e.order.item e.order.index) s)

/-- The WRITE orders that no item row executes: arguments too short to name an item, an unknown item or index, PART-STATUS. -/
def strayWrite (e : IntakeEntry) : Bool := taken writeKind e && rowOf e == .write

/-- WRITE of an unknown item, a nonexistent index or PART-STATUS (R187). It is always refused. -/
def execWrite (s : State) : Host.Outcome State Fault Refusal :=
  .next (executeOrder strayWrite
    (fun e t => firstReason
      [(e.order.short 4 && t.run.bypass, .state), (e.order.short 4, .range),
       (noItem e.order.item e.order.index, .noItem), (t.run.bypass, .state), (true, .readonly)])
    (fun _ t => t) s)

/-- CHANNEL_BANK_WRITE (R38 to R40, R52). -/
def execChannelBankWrite (s : State) : Host.Outcome State Fault Refusal :=
  writeItem bankItem
    (fun e t =>
      [(namesReadOnly e.order.contents 11 3, .readonly), (bankInUse e t, .inUse),
       (e.order.short 18 || !((bankOf e.order.contents).inRange), .range)])
    writeBank s

/-- CHANNEL_CAPTURE_WRITE (R47, R52). -/
def execChannelCaptureWrite (s : State) : Host.Outcome State Fault Refusal :=
  writeItem captureItem (fun e t => [(t.notIdle, .state), (captureOutOfRange e t, .range)]) writeCapture s

/-- SENSOR_MAP_WRITE (R50, R52). -/
def execSensorMapWrite (s : State) : Host.Outcome State Fault Refusal :=
  writeItem sensorItem
    (fun e t =>
      [(t.notIdle, .state), (t.testing, .busy), (sensorOutOfRange e, .range), (sensorDuplicate e t, .duplicate)])
    writeSensor s

/-- PHASE_MAP_WRITE (R46, R52). -/
def execPhaseMapWrite (s : State) : Host.Outcome State Fault Refusal :=
  writeItem phaseMapItem
    (fun e _ => [(e.order.short 10 || (phaseMapOf e.order.contents).isNone, .range)]) writePhaseMap s

/-- LOCATION_HEADER_WRITE (R78). -/
def execLocationHeaderWrite (s : State) : Host.Outcome State Fault Refusal :=
  writeItem headerItem (fun e t => [(t.notIdle, .state), (headerOutOfRange e, .range)]) writeHeader s

/-- PAIR_WRITE (R98, R99). -/
def execPairWrite (s : State) : Host.Outcome State Fault Refusal :=
  writeItem pairItem
    (fun e t => [(t.notIdle, .state), (pairOutOfRange e, .range), (pairDuplicate e t, .duplicate)]) writePair s

/-- CELL_WRITE (R111). -/
def execCellWrite (s : State) : Host.Outcome State Fault Refusal :=
  writeItem cellItem
    (fun e t =>
      [(namesReadOnly e.order.contents 1 32, .readonly), (t.notIdle, .state),
       (e.order.short 37 || !(within 0 7 (fieldAt e.order.contents 0 1)), .range)])
    writeCell s

/-- CLASS_WRITE (R112). -/
def execClassWrite (s : State) : Host.Outcome State Fault Refusal :=
  writeItem classItem (fun e t => [(t.notIdle, .state), (e.order.short 16, .range)]) writeClass s

/-- RATE_SLOT_WRITE (R113). -/
def execRateSlotWrite (s : State) : Host.Outcome State Fault Refusal :=
  writeItem rateSlotItem
    (fun e t =>
      [(t.notIdle, .state), (e.order.short 8 || !(within 500000 50000000 (fieldAt e.order.contents 0 4)), .range)])
    (fun e t => t.setCells { t.cells with slotLength := fieldAt e.order.contents 0 4 }) s

/-- TRACKER_WRITE (R27). -/
def execTrackerWrite (s : State) : Host.Outcome State Fault Refusal :=
  writeItem trackerItem
    (fun e t => [(t.notIdle, .state), (e.order.short 20 || !((trackerOf e.order.contents).inRange), .range)])
    (fun e t => t.setTracker { t.tracker with params := trackerOf e.order.contents }) s

/-- CAPTURE_SETUP_WRITE (R128, R129). -/
def execCaptureSetupWrite (s : State) : Host.Outcome State Fault Refusal :=
  writeItem setupItem
    (fun e t => [(t.notIdle, .state), (setupBusy t, .busy), (setupOutOfRange e, .range), (setupMisfit e t, .range)])
    writeSetup s

/-- LANE_WRITE (R21). -/
def execLaneWrite (s : State) : Host.Outcome State Fault Refusal :=
  writeItem laneItem
    (fun e t =>
      [(namesReadOnly e.order.contents 0 2 || namesReadOnly e.order.contents 4 4, .readonly), (t.notIdle, .state),
       (t.testing, .busy), (e.order.short 12 || !(within 0 4095 (fieldAt e.order.contents 2 2)), .range)])
    writeLane s

/-- TAIL_SPAN_WRITE (R159). -/
def execTailSpanWrite (s : State) : Host.Outcome State Fault Refusal :=
  writeItem tailSpanItem
    (fun e t => [(t.notIdle, .state), (e.order.short 7 || !(within 0 5000000 (fieldAt e.order.contents 0 3)), .range)])
    (fun e t => t.setRun { t.run with tailSpan := fieldAt e.order.contents 0 3 }) s

/-- CHAIN_LATENCY_WRITE (R25); every value its field can carry is in range. -/
def execChainLatencyWrite (s : State) : Host.Outcome State Fault Refusal :=
  writeItem chainLatencyItem
    (fun e t => [(t.notIdle, .state), (e.order.short 6, .range)])
    (fun e t => t.setTimebase { t.timebase with chainLatency := fieldAt e.order.contents 0 2 }) s

/-- TALLY_INTERVAL_WRITE (R189). -/
def execTallyIntervalWrite (s : State) : Host.Outcome State Fault Refusal :=
  writeItem tallyIntervalItem
    (fun e _ => [(e.order.short 8 || !(within 5000000 250000000 (fieldAt e.order.contents 0 4)), .range)])
    (fun e t => t.setLink { t.link with tallyInterval := fieldAt e.order.contents 0 4 }) s

/-- The bank value of a SELECT-BANK is FOLLOW (R193). -/
def asksFollow (e : IntakeEntry) : Bool := byteAt e.order.args 4 == 0xFF#8

/-- SELECT_BANK: SELECT-BANK with a bank number, or with a value that is none (R43, R52). -/
def execSelectBank (s : State) : Host.Outcome State Fault Refusal :=
  .next (executeOrder (fun e => taken selectBankKind e && !(asksFollow e))
    (fun e t => firstReason
      [(t.run.bypass, .state), (e.order.short 5 || !(within 0 3 (fieldAt e.order.args 4 1)), .range)])
    (fun e t =>
      match index? 4 (fieldAt e.order.args 4 1) with
      | some b => forEach (maskChannels e.order) (selectOne b) t
      | none => t) s)

/-- SELECT_BANK_FOLLOW: SELECT-BANK with FOLLOW (R44, R52). -/
def execSelectBankFollow (s : State) : Host.Outcome State Fault Refusal :=
  .next (executeOrder (fun e => taken selectBankKind e && asksFollow e)
    (fun _ t => firstReason [(t.run.bypass, .state)])
    (fun e t => forEach (maskChannels e.order) followOne t) s)

/-- The lane and role of a SET-ROLE, when both exist (R3). -/
def roleChange (e : IntakeEntry) : Option (Fin 4 × LaneRole) :=
  if e.order.short 2 then none
  else (index? 4 (fieldAt e.order.args 0 1)).bind (fun l => (roleOf (fieldAt e.order.args 1 1)).map (fun r => (l, r)))

/-- The role is GAUGE and some other lane has the role GAUGE (R3). -/
def roleConflict (e : IntakeEntry) (s : State) : Bool :=
  match roleChange e with
  | none => false
  | some (l, r) => r == .gauge && allLanes.any (fun k => !(k == l) && s.lanes[k].role == .gauge)

/-- SET_ROLE (R3 to R5). -/
def execSetRole (s : State) : Host.Outcome State Fault Refusal :=
  .next (executeOrder (taken setRoleKind)
    (fun e t => firstReason
      [(t.run.bypass, .state), ((roleChange e).isNone, .range), (roleConflict e t, .conflict)])
    (fun e t =>
      match roleChange e with
      | none => t
      | some (l, r) => settleCapture (changeRole l r t)) s)

end Sys2Proof.Machine
end

