-- ==== Sys2Proof/Machine/Timers.lean ====
section
/-! DEFINITION. The timers and the passing of time: HOLD_TIMER_EXPIRY, RATE_SLOT_BOUNDARY, TAIL_END, TALLY_TIMER_EXPIRY, and the
tick, which is what a step does when no command waits (R22, R86, R118, R119, R168, R189). -/

namespace Sys2Proof.Machine

/-- The timebase has reached a tick. -/
def State.reached (s : State) (t : Tick) : Bool := atOrAfter s.timebase.counter t

/-- The timebase has reached the tick of a running timer. -/
def State.expired (s : State) (timer : Option Tick) : Bool :=
  match timer with
  | none => false
  | some t => s.reached t

/-- An open group with this number has reached its hold deadline (R86). -/
def holdDue (s : State) (n : BitVec 32) : Bool :=
  s.grouping.groups.any (fun g => g.number == n && s.reached g.deadline)

/-- HOLD_TIMER_EXPIRY (R86): the close test of R85. It has no effect when no open group of this number has reached its
deadline. -/
def execHoldTimerExpiry (n : BitVec 32) (s : State) : Host.Outcome State Fault Refusal :=
  .next (whileRunning (fun t => if holdDue t n then closeTest t else t) s)

/-- A slot boundary, and the next one a rate slot length later (R118, R119). -/
def slotBoundary (s : State) : State :=
  let t := shiftSlots s
  t.setCells { t.cells with boundary := t.cells.boundary.map (fun b => tickAdd b t.cells.slotLength) }

/-- RATE_SLOT_BOUNDARY (R118, R119); it has no effect before the boundary. -/
def execRateSlotBoundary (s : State) : Host.Outcome State Fault Refusal :=
  .next (whileRunning (fun t => if t.expired t.cells.boundary then slotBoundary t else t) s)

/-- The tail timer has expired in TAILING (R168). -/
def State.tailDue (s : State) : Bool := s.run.state == .tailing && s.expired s.run.tailExpiry

/-- TAIL_END (R168); it has no effect before the expiry. -/
def execTailEnd (s : State) : Host.Outcome State Fault Refusal :=
  .next (whileRunning (fun t => if t.tailDue then settleCapture (Machine.tailEnd t) else t) s)

/-- The tally record as it is built (R190). -/
def tallyRecord (s : State) : TallyRecord :=
  { part := s.run.address, tick := s.timebase.counter, counts := s.link.counts,
    lanes := mapTable (fun x => (x.checkTally, x.skipTally)) s.lanes, highWater := s.link.highWater,
    openGroups := s.grouping.groups.length, freeSegments := s.capture.free }

/-- A lane with its tallies restarted from 0 (R190). -/
def Lane.tallied (x : Lane) : Lane := { x with checkTally := 0, skipTally := 0 }

/-- The tally record is offered; when it is admitted every count and lane tally restarts from 0 and the high-water at the fill
after the admission (R190). -/
def offerTally (s : State) : State :=
  let r := Record.tally (tallyRecord s)
  let k := s.link.offer r false
  if admitted s.link.fill r false then
    (s.setLink { k with counts := TallyCounts.zero, highWater := k.fill }).setLanes (mapTable Lane.tallied s.lanes)
  else s.setLink k

/-- An expiry of the tally timer: the next expiry is set one interval later, and outside bypass a record is built (R189). -/
def tallyExpires (s : State) : State :=
  let t := s.setLink
    { s.link with tallyExpiry := s.link.tallyExpiry.map (fun x => tickAdd x s.link.tallyInterval) }
  if s.run.bypass then t else offerTally t

/-- TALLY_TIMER_EXPIRY (R189, R190); it has no effect before the expiry. -/
def execTallyTimerExpiry (s : State) : Host.Outcome State Fault Refusal :=
  .next (whileRunning (fun t => if t.expired t.link.tallyExpiry then tallyExpires t else t) s)

/-! ## The passing of time -/

/-- The command, when it is due. -/
def dueIf (b : Bool) (c : Instr) : List Instr := if b then [c] else []

/-- The order at the head of the intake can be executed: its row. -/
def dueOrder (s : State) : List Instr :=
  match executable s with
  | none => []
  | some (e, _) => [rowOf e]

/-- The commands that have fallen due inside the part. -/
def dueEvents (s : State) : List Instr :=
  if s.running then
    (allChannels.filter s.fed).map .sampleProcessed
      ++ (s.grouping.groups.filter (fun g => s.reached g.deadline)).map (fun g => .holdTimerExpiry g.number)
      ++ dueIf (s.expired s.cells.boundary) .rateSlotBoundary
      ++ dueIf s.tailDue .tailEnd
      ++ dueIf (s.expired s.link.tallyExpiry) .tallyTimerExpiry
      ++ dueOrder s
      ++ dueIf (s.readoutReady && (readingSegment s).isSome) .readoutLineStart
      ++ dueIf (s.dumpReady && s.capture.dump.isSome) .dumpLineStart
  else dueIf s.settleDue .settleEnd

/-- The counter adds 1, and the uptime with it; in reset both are held (R22, R158). -/
def countTick (s : State) : State :=
  if s.inReset then s
  else s.setTimebase { s.timebase with counter := s.timebase.counter + 1, uptime := s.timebase.uptime + 1 }

/-- One tick: the counter adds 1, and the commands that have fallen due join the queue. -/
def tick (s : State) : State :=
  let t := countTick s
  t.setPending (t.pending ++ dueEvents t)

end Sys2Proof.Machine
end

