-- ==== Sys2Proof/Machine/Dispatch.lean ====
section
/-! DEFINITION. One arm per command: each a direct call of its meaning. -/

namespace Sys2Proof.Machine

def exec (i : Instr) (s : State) : Host.Outcome State Fault Refusal :=
  match i with
  | .resetAssert pin => Sys2Proof.Machine.execResetAssert pin s
  | .resetRelease => Sys2Proof.Machine.execResetRelease s
  | .settleEnd => Sys2Proof.Machine.execSettleEnd s
  | .signalDetect lane => Sys2Proof.Machine.execSignalDetect lane s
  | .lossOfSignal lane => Sys2Proof.Machine.execLossOfSignal lane s
  | .sampleFrame lane frame => Sys2Proof.Machine.execSampleFrame lane frame s
  | .gaugeFrame lane frame => Sys2Proof.Machine.execGaugeFrame lane frame s
  | .sampleProcessed channel => Sys2Proof.Machine.execSampleProcessed channel s
  | .linkSignalDetect port => Sys2Proof.Machine.execLinkSignalDetect port s
  | .linkLossOfSignal port => Sys2Proof.Machine.execLinkLossOfSignal port s
  | .idleFrame port frame => Sys2Proof.Machine.execIdleFrame port frame s
  | .orderFrame frame => Sys2Proof.Machine.execOrderFrame frame s
  | .pauseMark frame => Sys2Proof.Machine.execPauseMark frame s
  | .resumeMark frame => Sys2Proof.Machine.execResumeMark frame s
  | .burstMark frame => Sys2Proof.Machine.execBurstMark frame s
  | .recordFrame frame => Sys2Proof.Machine.execRecordFrame frame s
  | .nearTransmissionEnd => Sys2Proof.Machine.execNearTransmissionEnd s
  | .farTransmissionEnd => Sys2Proof.Machine.execFarTransmissionEnd s
  | .assign => Sys2Proof.Machine.execAssign s
  | .read => Sys2Proof.Machine.execRead s
  | .write => Sys2Proof.Machine.execWrite s
  | .channelBankWrite => Sys2Proof.Machine.execChannelBankWrite s
  | .channelCaptureWrite => Sys2Proof.Machine.execChannelCaptureWrite s
  | .sensorMapWrite => Sys2Proof.Machine.execSensorMapWrite s
  | .phaseMapWrite => Sys2Proof.Machine.execPhaseMapWrite s
  | .locationHeaderWrite => Sys2Proof.Machine.execLocationHeaderWrite s
  | .pairWrite => Sys2Proof.Machine.execPairWrite s
  | .cellWrite => Sys2Proof.Machine.execCellWrite s
  | .classWrite => Sys2Proof.Machine.execClassWrite s
  | .rateSlotWrite => Sys2Proof.Machine.execRateSlotWrite s
  | .trackerWrite => Sys2Proof.Machine.execTrackerWrite s
  | .captureSetupWrite => Sys2Proof.Machine.execCaptureSetupWrite s
  | .laneWrite => Sys2Proof.Machine.execLaneWrite s
  | .tailSpanWrite => Sys2Proof.Machine.execTailSpanWrite s
  | .chainLatencyWrite => Sys2Proof.Machine.execChainLatencyWrite s
  | .tallyIntervalWrite => Sys2Proof.Machine.execTallyIntervalWrite s
  | .selectBank => Sys2Proof.Machine.execSelectBank s
  | .selectBankFollow => Sys2Proof.Machine.execSelectBankFollow s
  | .setRole => Sys2Proof.Machine.execSetRole s
  | .sync => Sys2Proof.Machine.execSync s
  | .start => Sys2Proof.Machine.execStart s
  | .stop => Sys2Proof.Machine.execStop s
  | .freeze => Sys2Proof.Machine.execFreeze s
  | .release => Sys2Proof.Machine.execRelease s
  | .restart => Sys2Proof.Machine.execRestart s
  | .clearCell => Sys2Proof.Machine.execClearCell s
  | .pulse => Sys2Proof.Machine.execPulse s
  | .bypassOn => Sys2Proof.Machine.execBypassOn s
  | .bypassOff => Sys2Proof.Machine.execBypassOff s
  | .unclaimed => Sys2Proof.Machine.execUnclaimed s
  | .unknownOrder => Sys2Proof.Machine.execUnknownOrder s
  | .holdTimerExpiry group => Sys2Proof.Machine.execHoldTimerExpiry group s
  | .rateSlotBoundary => Sys2Proof.Machine.execRateSlotBoundary s
  | .tailEnd => Sys2Proof.Machine.execTailEnd s
  | .tallyTimerExpiry => Sys2Proof.Machine.execTallyTimerExpiry s
  | .ringWriteComplete outcome => Sys2Proof.Machine.execRingWriteComplete outcome s
  | .readoutReadComplete outcome => Sys2Proof.Machine.execReadoutReadComplete outcome s
  | .dumpReadComplete outcome => Sys2Proof.Machine.execDumpReadComplete outcome s
  | .timeout => Sys2Proof.Machine.execTimeout s
  | .readoutLineStart => Sys2Proof.Machine.execReadoutLineStart s
  | .dumpLineStart => Sys2Proof.Machine.execDumpLineStart s

end Sys2Proof.Machine
end

