-- ==== Sys2Proof/Safety.lean ====
section
/-! DEFINITION. What the statements about the machine are written with: an order at the head of the intake and its two ends, and
the invariants that every step is to keep. -/

namespace Sys2Proof.Machine

/-! ## Orders -/

/-- The order `e` is at the head of the intake of a running part, and the answer queue has room for one answer (R186). -/
abbrev Serves (s : State) (e : IntakeEntry) (rest : List IntakeEntry) : Prop :=
  s.running = true ∧ s.link.answers.length < 4 ∧ s.link.intake = e :: rest

/-- The order is marked TAKE and has this kind (R193). -/
abbrev TakenAs (kind : Byte) (e : IntakeEntry) : Prop := e.take = true ∧ e.order.kind = kind

/-- The order is a WRITE, marked TAKE, long enough to name an item, and names the item with this code (R193). -/
abbrev WritesItem (code : Nat) (e : IntakeEntry) : Prop :=
  TakenAs writeKind e ∧ 4 ≤ e.order.args.length ∧ e.order.item = code

/-- The state once the order has left the intake. -/
def State.headTaken (s : State) (rest : List IntakeEntry) : State := s.setLink { s.link with intake := rest }

/-- The order is refused: it leaves the intake and is answered REFUSED with the reason, and nothing else changes. -/
def refusedState (s : State) (e : IntakeEntry) (rest : List IntakeEntry) (r : Reason) : State :=
  placeAnswer e.order (some r) [] (s.headTaken rest)

/-- The order was taken and left the part as `t`: it is answered OK, with no contents. -/
def doneState (e : IntakeEntry) (t : State) : State := placeAnswer e.order none [] t

/-- The rows that execute an order. -/
def executionRows : List Instr :=
  [.assign, .read, .write, .channelBankWrite, .channelCaptureWrite, .sensorMapWrite, .phaseMapWrite,
   .locationHeaderWrite, .pairWrite, .cellWrite, .classWrite, .rateSlotWrite, .trackerWrite, .captureSetupWrite,
   .laneWrite, .tailSpanWrite, .chainLatencyWrite, .tallyIntervalWrite, .selectBank, .selectBankFollow, .setRole,
   .sync, .start, .stop, .freeze, .release, .restart, .clearCell, .pulse, .bypassOn, .bypassOff, .unclaimed,
   .unknownOrder]

/-- The commands that have no effect outside the running part: all but the changes of the input pins and the events of the reset
itself (R158). -/
def needsRunning : Instr → Bool
  | .resetAssert _ => false
  | .resetRelease => false
  | .settleEnd => false
  | .signalDetect _ => false
  | .lossOfSignal _ => false
  | .linkSignalDetect _ => false
  | .linkLossOfSignal _ => false
  | _ => true

/-- The alignment count after a frame that passes the frame check in ALIGNING (R7). -/
def countAfter (x : Lane) (q : Byte) : Nat :=
  match x.prevSeq with
  | none => 1
  | some p => if q = p + 1 then x.alignCount + 1 else 1

/-! ## Lists and ring writes -/

/-- `l'` is `l` with `x` put in front of the first entry that `x` goes before. -/
def Inserted {α : Type} (before : α → α → Prop) (x : α) (l l' : List α) : Prop :=
  ∃ a b, l = a ++ b ∧ l' = a ++ x :: b ∧ (∀ y ∈ a, ¬ before x y) ∧ ∀ y, b.head? = some y → before x y

/-- The order of a member list and of the test hold list: by arrival, equal arrivals by sensor number (R79, R147). -/
def hitBefore (a b : HitRecord) : Prop :=
  (a.arrival = b.arrival ∧ a.sensor < b.sensor) ∨ (a.arrival ≠ b.arrival ∧ earlier a.arrival b.arrival = true)

/-- The order of the open group list: by anchor (5.3). -/
def groupBefore (a b : Group) : Prop := earlier a.anchor b.anchor = true

/-- The ring writes that are still to complete: the one in progress, then those waiting, oldest first. -/
def State.ringWrites (s : State) : List RingWrite :=
  (match s.capture.access with
   | some { op := .write w, .. } => [w]
   | _ => []) ++ s.capture.queue

/-- The orders in the forward queue that wait for the far port: all but the one in transmission (R176; log entry 33). -/
def Link.ordersWaiting (k : Link) : Nat :=
  (match k.farSending with
   | some { source := .forward, queued := true, .. } => k.forward.tail
   | _ => k.forward).countP (fun e => decide (e ≠ Forward.burst))

/-- The test in flight is this one, and it has this fire tick, or none while it waits for it. -/
def InFlight (s : State) (i : TestInfo) (fire : Option Tick) : Prop :=
  (∃ f, s.pulse.test = .window i f ∧ fire = some f) ∨ (∃ n, s.pulse.test = .waiting i n ∧ fire = none)

/-- Burst was declared in RUN with this cause, at the present tick, and the test and the rate slot timer have ended (R165). -/
structure Declared (s t : State) (cause : BurstCause) : Prop where
  cause : t.run.cause = some cause
  tick : t.run.burstTick = some s.timebase.counter
  state : t.run.state = if s.run.tailSpan = 0 then .frozen else .tailing
  timer : t.run.tailExpiry = if s.run.tailSpan = 0 then none else
    some (s.timebase.counter + BitVec.ofNat 48 s.run.tailSpan)
  disarmed : t.tracker.armed = false
  boundary : t.cells.boundary = none
  test : t.pulse.test = .none
  marks : t.link.marks = s.link.marks ++ if s.link.far.state = .up then [.burst] else []

/-- The BURST notice of a declaration made now: its cause, B, and the P and Pmax that the declaring source gives (R164, R165). -/
def burstNotice (s : State) (cause : BurstCause) (p : Option Nat) (pmax : Nat) : Record :=
  .notice
    { part := s.run.address, tick := s.timebase.counter, body := .burst cause s.timebase.counter p pmax }

/-! ## Frames -/

/-- The blocks that hold what the recorder has configured, and the counter, are the same. -/
structure SameSettings (s t : State) : Prop where
  power : t.power = s.power
  timebase : t.timebase = s.timebase
  phaseMap : t.phaseMap = s.phaseMap
  sensorMap : t.sensorMap = s.sensorMap
  pairs : t.pairs = s.pairs
  pending : t.pending = s.pending

/-- The blocks that measure, group and account are the same. -/
structure SameMeasuring (s t : State) : Prop where
  tracker : t.tracker = s.tracker
  channels : t.channels = s.channels
  detectors : t.detectors = s.detectors
  grouping : t.grouping = s.grouping
  cells : t.cells = s.cells
  pulse : t.pulse = s.pulse
  run : t.run = s.run

/-! ## Invariants -/

/-- The contents of the capture memory stand in their canonical form. -/
def MemoryCanonical (s : State) : Prop := Memory.wf s.capture.memory

/-- No queue, buffer or list exceeds the capacity the manual gives it: those whose length can vary, each with its rule. -/
structure WithinCapacity (s : State) : Prop where
  /-- The own record queue (R177). -/
  own : s.link.fill ≤ 4096
  /-- The answer queue (R179). -/
  answers : s.link.answers.length ≤ 4
  /-- The order intake (R184). -/
  intake : s.link.intake.length ≤ 4
  /-- The pass-through buffer (R181). -/
  pass : s.link.passFill ≤ 64
  /-- The forward queue (R183). -/
  forward : s.link.forward.length ≤ 8
  /-- The open group list (R83). -/
  groups : s.grouping.groups.length ≤ 8
  /-- The test hold list (R150). -/
  hold : s.pulse.hold.length ≤ 64
  /-- The ring write queue (R130; the write in progress does not count, log entry 43). -/
  writes : s.capture.queue.length ≤ 128
  /-- The gauge history (2.3, R29). -/
  history : s.tracker.history.length ≤ 64
  /-- The member list of an open group (R79). -/
  members : ∀ g ∈ s.grouping.groups, g.members.length ≤ 32
  /-- No open group holds two hits of the same sensor (R81), which is why a member list stays within 32. -/
  memberSensors : ∀ g ∈ s.grouping.groups, (g.members.map (fun h => h.sensor)).Nodup

/-- The laws that the tables keep among their entries. -/
structure TablesLawful (s : State) : Prop where
  /-- At most one lane has the role GAUGE (R3). -/
  oneGauge : ∀ k l : Fin 4, s.lanes[k].role = .gauge → s.lanes[l].role = .gauge → k = l
  /-- No sensor number is held by two physical channels (R50). -/
  sensors : ∀ c d : Fin 32, ∀ n, s.sensorMap[c] = some n → s.sensorMap[d] = some n → c = d
  /-- No two slots of the pair table hold the same key (R99). -/
  keys : ∀ i j : Fin 512, ∀ x y, s.pairs[i] = some x → s.pairs[j] = some y →
    x.first = y.first → x.second = y.second → i = j

/-- What the run state keeps. -/
structure RunLawful (s : State) : Prop where
  /-- A part in bypass is IDLE with no pulse test in flight (R173). -/
  aside : s.run.bypass = true → s.run.state = .idle ∧ s.pulse.test = .none
  /-- A test cannot be in flight in TAILING or FROZEN (R155). -/
  tests : s.pulse.test ≠ .none → s.run.state = .idle ∨ s.run.state = .run

end Sys2Proof.Machine
end

