-- ==== Sys2Proof/Certificates/Slice0/Obligations.lean ====
section
/-! DEFINITION. The statements for the provers. Each is about the commands and the rules its docstring names; those that rest on
a choice of the model name the log entry under notes/assumptions. -/

open Sys2Proof Sys2Proof.Machine

/-! ## The queue and the passing of time -/

/-- A step takes the command at the front of the queue and is its execution on the state with the queue's rest. -/
def Obligations.StepTakesFront : Prop :=
  ∀ (c : Instr) (rest : List Instr) (s : State), step (s.setPending (c :: rest)) = exec c (s.setPending rest)

/-- With no command waiting a step is one tick: outside reset the counter adds 1 modulo 2^48, and the uptime 1 with it; the
commands that have fallen due join the queue; nothing else changes, and in reset nothing at all (R22, R158). In the settle
period SETTLE_END falls due at 100,000 ticks (R158). While the part runs these fall due, in this order: SAMPLE_PROCESSED of
every channel with samples to process (R59), HOLD_TIMER_EXPIRY of every open group at its deadline (R86), RATE_SLOT_BOUNDARY
(R118), TAIL_END (R168), TALLY_TIMER_EXPIRY (R189), the row of the order at the head of the intake when the answer queue has
room (R186), READOUT_LINE_START (R140) and DUMP_LINE_START (R145).
That a step on an empty queue is a tick (log entry 1), the order in which the due commands join (log entry 2), and the
uptime, a field that only the model has (log entry 5), are the model's choice. -/
def Obligations.EmptyQueueTicks : Prop :=
  ∀ s : State, s.pending = [] → ∃ t, step s = .next t ∧ (s.inReset = true → t = s) ∧
    (s.inReset = false → t.setPending [] =
      s.setTimebase { s.timebase with counter := s.timebase.counter + 1, uptime := s.timebase.uptime + 1 }) ∧
    (s.inReset = false → s.power.settling = true →
      t.pending = if 100000 ≤ (s.timebase.counter + 1).toNat then [.settleEnd] else []) ∧
    (s.inReset = false → s.power.settling = false →
      let now := s.timebase.counter + 1
      let due := fun (timer : Option Tick) => timer.any (fun x => atOrAfter now x)
      let free := s.link.fill < 2048 ∧ s.capture.access = none ∧ s.capture.port = .ready ∧ s.capture.queue = []
      t.pending =
        ((List.finRange 32).filter (fun c : Fin 32 => (s.detectors[c].feed).isSome)).map .sampleProcessed ++
        (s.grouping.groups.filter (fun g => atOrAfter now g.deadline)).map (fun g => .holdTimerExpiry g.number) ++
        (if due s.cells.boundary then [.rateSlotBoundary] else []) ++
        (if s.run.state = .tailing ∧ due s.run.tailExpiry then [.tailEnd] else []) ++
        (if due s.link.tallyExpiry then [.tallyTimerExpiry] else []) ++
        (match s.link.intake with
         | e :: _ => if s.link.answers.length < 4 then [rowOf e] else []
         | [] => []) ++
        (if free ∧ s.run.bypass = false ∧
            ∃ i : Fin 64, (s.capture.segments[i]).any (fun g => decide (g.stage = .reading)) = true then
          [.readoutLineStart] else []) ++
        (if free ∧ s.capture.dump ≠ none then [.dumpLineStart] else []))

/-- Every command ends in a next state, and none touches the queue; in reset and in the settle period frames, samples, orders,
timers and memory answers change nothing (R1, R158).
That every command answers next, one whose event is not enabled included, and that such a command changes nothing, are the
model's deduction and choice (log entries 8 and 3). -/
def Obligations.CommandsComplete : Prop :=
  (∀ (c : Instr) (s : State), ∃ t, exec c s = .next t ∧ t.pending = s.pending) ∧
  (∀ (c : Instr) (s : State), s.running = false → needsRunning c = true → exec c s = .next s)

/-! ## Reset -/

/-- The values after full reset (R1, R22, R25 to R27, R37, R53, R77, R96, R110, R128 to R130, R133, R136, R147, R159, R174). -/
def Obligations.ResetValues : Prop :=
  let s := State.reset
  (s.timebase.counter = 0 ∧ s.timebase.set = false ∧ s.timebase.chainLatency = 0) ∧
  (∀ l : Fin 4, s.lanes[l].role = (if l = 3 then .gauge else .pod) ∧ s.lanes[l].state = .down ∧ s.lanes[l].latency = 0 ∧
    s.lanes[l].alignCount = 0 ∧ s.lanes[l].prevSeq = none ∧ s.lanes[l].expSeq = none ∧ s.lanes[l].expTick = none ∧
    s.lanes[l].failures = 0 ∧ s.lanes[l].checkTally = 0 ∧ s.lanes[l].skipTally = 0) ∧
  (s.tracker.pressure = none ∧ s.tracker.pmax = 0 ∧ s.tracker.history = [] ∧ s.tracker.phase = .nogauge ∧
    s.tracker.steady = 0 ∧ s.tracker.armed = false ∧ ∀ n : Fin 32, s.tracker.satList[n] = none) ∧
  s.tracker.params =
    { startLevel := 500, rampThreshold := 5, fallThreshold := 5, holdEntryCount := 20, reloadMargin := 250,
      slopeWindow := 8, dropLimit := 1000, dropWindow := 8, satCount := 6, satWindow := 2500 } ∧
  (∀ c : Fin 32, s.channels[c].active = 0 ∧ s.channels[c].pending = 0 ∧ s.channels[c].follow = false ∧
    s.channels[c].captureOn = false ∧ s.channels[c].preLines = 0 ∧ s.channels[c].postLines = 0 ∧
    s.channels[c].homeCell = none ∧ s.sensorMap[c] = none ∧
    (∀ b : Fin 4, s.channels[c].banks[b] =
      { threshold := 32767, riseWindow := 1000, quietSpan := 1000, rearmSpan := 0, durationLimit := 500000 }) ∧
    s.detectors[c].state = .off ∧ s.detectors[c].horizon = none ∧
    s.capture.rings[c].writePos = 0 ∧ s.capture.rings[c].ringTick = none ∧
    s.capture.rings[c].marks = List.replicate 256 .void) ∧
  (∀ p : Fin 6, s.phaseMap[p] = 0) ∧
  (s.grouping.groups = [] ∧ s.grouping.counter = 0 ∧ s.grouping.lastClosed = none ∧ s.grouping.window = 2500 ∧
    s.grouping.holdLimit = 50000 ∧ s.grouping.minMembers = 2) ∧
  (∀ i : Fin 512, s.pairs[i] = none) ∧
  (∀ n : Fin 1024, s.cells.cells[n].cls = 0 ∧ s.cells.cells[n].events = 0 ∧ s.cells.cells[n].energy = 0 ∧
    s.cells.cells[n].holdCount = 0 ∧ s.cells.cells[n].reloadCount = 0 ∧ s.cells.cells[n].alarm = .quiet ∧
    ∀ k : Fin 8, s.cells.cells[n].slots[k] = 0) ∧
  (∀ k : Fin 8, s.cells.classes[k] = { watchRate := 0, holdLimit := 0, reloadLimit := 0, energyLimit := 0 }) ∧
  (s.cells.slotLength = 5000000 ∧ s.cells.boundary = none) ∧
  (s.capture.memoryLines = 65536 ∧ s.capture.ringLines = 256 ∧ s.capture.dumpDepth = 0 ∧ s.capture.queue = [] ∧
    s.capture.access = none ∧ s.capture.port = .ready ∧ s.capture.failures = 0 ∧ s.capture.dump = none ∧
    ∀ i : Fin 64, s.capture.segments[i] = none) ∧
  (s.pulse.test = .none ∧ s.pulse.hold = [] ∧ ∀ n : Fin 32, s.pulse.results[n] = none) ∧
  (s.run.state = .idle ∧ s.run.cause = none ∧ s.run.burstTick = none ∧ s.run.tailExpiry = none ∧
    s.run.tailSpan = 2500000 ∧ s.run.bypass = false ∧ s.run.address = 0) ∧
  (∀ p : Port, (s.link.port p).state = .down ∧ (s.link.port p).alignCount = 0 ∧ (s.link.port p).failures = 0 ∧
    (s.link.port p).prevSeq = none ∧ (s.link.port p).txSeq = 0) ∧
  (s.link.own = [] ∧ s.link.answers = [] ∧ s.link.intake = [] ∧ s.link.pass = [] ∧ s.link.forward = [] ∧
    s.link.marks = [] ∧ s.link.nearPause = false ∧ s.link.farPause = false ∧ s.link.turn = .pass ∧
    s.link.counts = TallyCounts.zero ∧ s.link.highWater = 0 ∧ s.link.tallyInterval = 25000000 ∧
    s.link.tallyExpiry = none)

/-- RESET_ASSERT: the named input is low, the settle period is over, every item has its full reset value, and what is no item of
the part (the other inputs, the commands waiting) stays (R158, R1, R174). RESET_RELEASE while reset is asserted: both inputs are
high and the settle period begins with the counter at 0; nothing else changes. SETTLE_END after 100,000 ticks: the part runs,
lanes in DOWN with signal detect present enter ALIGNING, every other lane stays, both transmitters send, and the inner blocks are
as they were (R1, R6, R22, R158, R175).
The input pins as state and the uptime (log entries 4 and 5), and the fire mark latch (log entry 38), are the model's choice. -/
def Obligations.ResetAssertedThenReleased : Prop :=
  (∀ (p : ResetPin) (s : State), ∃ t, exec (.resetAssert p) s = .next t ∧
     t.inReset = true ∧ t.power.settling = false ∧
     (p = .resetLine → t.power.resetLine = false ∧ t.power.supplyGood = s.power.supplyGood) ∧
     (p = .supplyGood → t.power.supplyGood = false ∧ t.power.resetLine = s.power.resetLine) ∧
     t.timebase = State.reset.timebase ∧ t.tracker = State.reset.tracker ∧ t.channels = State.reset.channels ∧
     t.phaseMap = State.reset.phaseMap ∧ t.sensorMap = State.reset.sensorMap ∧ t.detectors = State.reset.detectors ∧
     t.grouping = State.reset.grouping ∧ t.pairs = State.reset.pairs ∧ t.cells = State.reset.cells ∧
     t.pulse = State.reset.pulse ∧ t.run = State.reset.run ∧ t.fireMark = none ∧
     { t.capture with memory := [] } = State.reset.capture ∧
     (∀ l : Fin 4, { t.lanes[l] with signal := false } = State.reset.lanes[l] ∧
       t.lanes[l].signal = s.lanes[l].signal) ∧
     { t.link with near := { t.link.near with signal := false }, far := { t.link.far with signal := false } } =
       State.reset.link ∧
     t.link.near.signal = s.link.near.signal ∧ t.link.far.signal = s.link.far.signal ∧ t.pending = s.pending) ∧
  (∀ s : State, s.inReset = true →
     exec .resetRelease s = .next
       ((s.setPower { resetLine := true, supplyGood := true, settling := true }).setTimebase
         { s.timebase with counter := 0, uptime := 0 })) ∧
  (∀ s : State, s.inReset = false → s.power.settling = true → 100000 ≤ s.timebase.counter.toNat →
     ∃ t, exec .settleEnd s = .next t ∧ t.running = true ∧
       (∀ l : Fin 4, t.lanes[l] =
         if s.lanes[l].state = .down ∧ s.lanes[l].signal = true then
           { s.lanes[l] with state := .aligning, alignCount := 0, prevSeq := none }
         else s.lanes[l]) ∧
       t.link.nearSending.isSome = true ∧ t.link.farSending.isSome = true ∧
       t.timebase = s.timebase ∧ t.capture = s.capture ∧ SameMeasuring s t)

/-! ## Lanes, timebase and tracker -/

/-- SIGNAL_DETECT: a lane in DOWN enters ALIGNING with a SIGNAL notice; in any other state only the input changes (R6, R19).
LOSS_OF_SIGNAL: the lane goes to DOWN with its alignment cleared and its tallies kept; a lane that was UP takes its channels out
of the live set, or puts the tracker in NOGAUGE; a lane in OFF or DOWN keeps its state (R8, R9, R28, R58). Its LANE notice comes
first, and then the departure of its channels (DeparturesCloseHits) or the entry into NOGAUGE (GaugeFrameDelivered).
That the notice precedes these effects is the model's deduction (log entry 27), and that the readout and the next write are served
at the end of the command is another (log entry 21). -/
def Obligations.LaneSignalChanges : Prop :=
  (∀ (l : Fin 4) (s : State), s.running = true →
     (s.lanes[l].state = .down → exec (.signalDetect l) s = .next
       (notify (.lane l .down .aligning .signal)
         (s.setLane l
           { s.lanes[l] with signal := true, state := .aligning, alignCount := 0, prevSeq := none }))) ∧
     (s.lanes[l].state ≠ .down →
       exec (.signalDetect l) s = .next (s.setLane l { s.lanes[l] with signal := true }))) ∧
  (∀ (l : Fin 4) (s : State), s.running = true → ∃ t, exec (.lossOfSignal l) s = .next t ∧
     (∀ k : Fin 4, k ≠ l → t.lanes[k] = s.lanes[k]) ∧
     (s.lanes[l].state = .aligning ∨ s.lanes[l].state = .up →
       t.lanes[l] =
         { s.lanes[l] with
           signal := false, state := .down, alignCount := 0, prevSeq := none, expSeq := none, expTick := none,
           failures := 0 }) ∧
     (s.lanes[l].state = .off ∨ s.lanes[l].state = .down → t.lanes[l] = { s.lanes[l] with signal := false }) ∧
     (s.lanes[l].state = .up → s.lanes[l].role = .gauge →
       t.tracker.phase = .nogauge ∧ t.tracker.pressure = none ∧ t.tracker.history = [] ∧ t.tracker.steady = 0 ∧
         t.tracker.pmax = s.tracker.pmax ∧ t.tracker.armed = s.tracker.armed) ∧
     (s.lanes[l].state = .up → s.lanes[l].role = .pod →
       ∀ j : Fin 8, t.detectors[channelOf l j].state = .off ∧ t.detectors[channelOf l j].horizon = none) ∧
     (s.lanes[l].state = .up →
       let u := notify (.lane l .up .down .noSignal) (s.setLane l
         { s.lanes[l] with
           signal := false, state := .down, alignCount := 0, prevSeq := none, expSeq := none, expTick := none,
           failures := 0 })
       (s.lanes[l].role = .pod → t = settleCapture (podLost l u)) ∧
       (s.lanes[l].role = .gauge → t = settleCapture (gaugeGone u))) ∧
     SameSettings s t)

/-- SAMPLE_FRAME and GAUGE_FRAME on a lane in ALIGNING: the alignment count as R7 gives it, UP at a count of 8 with the expected
sequence and, on a POD lane, the expected tick set, with an ALIGNED notice; a frame that fails the check raises the CHECK tally.
Nothing is delivered: tracker, test, groups and run state are as they were (R7, R10). When a POD lane enters UP, every mapped
channel of it has its horizon at the new expected tick less 1, and its detector, when it was OFF, becomes live in RUN, in TAILING
and while a test is listening: QUIET, with the pending bank applied; no other channel is touched (R9, R55, R58). -/
def Obligations.AligningLaneCounts : Prop :=
  ∀ (l : Fin 4) (frame : List Byte) (s : State), s.running = true → s.lanes[l].state = .aligning →
    ∃ t, exec (.sampleFrame l frame) s = .next t ∧ exec (.gaugeFrame l frame) s = .next t ∧
      (∀ k : Fin 4, k ≠ l → t.lanes[k] = s.lanes[k]) ∧
      (readLaneFrame s.lanes[l].role frame = none →
        t.lanes[l] =
          { s.lanes[l] with
            alignCount := 0, prevSeq := none, checkTally := min 65535 (s.lanes[l].checkTally + 1) }) ∧
      (∀ f, readLaneFrame s.lanes[l].role frame = some f →
        t.lanes[l] =
          if 8 ≤ countAfter s.lanes[l] f.seq then
            { s.lanes[l] with
              state := .up, alignCount := 8, prevSeq := some f.seq, expSeq := some (f.seq + 1), failures := 0,
              expTick :=
                if s.lanes[l].role = .pod then
                  some (s.timebase.counter - BitVec.ofNat 48 s.lanes[l].latency + 16)
                else s.lanes[l].expTick }
          else { s.lanes[l] with alignCount := countAfter s.lanes[l] f.seq, prevSeq := some f.seq }) ∧
      (let enters := ∃ f, readLaneFrame s.lanes[l].role frame = some f ∧ 8 ≤ countAfter s.lanes[l] f.seq
       let watched := s.run.state = .run ∨ s.run.state = .tailing ∨ (s.run.state = .idle ∧ s.pulse.test ≠ .none)
       (enters → t.link = (notify (.lane l .aligning .up .aligned) s).link) ∧ (¬ enters → t.link = s.link) ∧
       ∀ c : Fin 32,
         let reached := enters ∧ s.lanes[l].role = .pod ∧ laneOf c = l ∧ s.sensorMap[c] ≠ none
         let wakes := s.detectors[c].state = .off ∧ watched
         (reached → t.detectors[c].horizon =
             some (s.timebase.counter - BitVec.ofNat 48 s.lanes[l].latency + 15) ∧
           (wakes → t.detectors[c].state = .quiet ∧
             t.channels[c] = { s.channels[c] with active := s.channels[c].pending }) ∧
           (¬ wakes → t.detectors[c].state = s.detectors[c].state ∧ t.channels[c] = s.channels[c])) ∧
         (¬ reached → t.detectors[c] = s.detectors[c] ∧ t.channels[c] = s.channels[c])) ∧
      t.tracker = s.tracker ∧ t.pulse = s.pulse ∧ t.grouping = s.grouping ∧ t.cells = s.cells ∧ t.run = s.run ∧
      SameSettings s t

/-- SAMPLE_FRAME in order on an UP POD lane: it is stamped T = counter − latency, the lane expects the next sequence at T + 16,
and its failures are 0. With no test in flight and no older samples left, a mapped channel's detector that is OFF passes the
samples over (horizon T + 15), and a live one is handed those it has not heard; the ring writer, when it takes lines, has
placed a line of every mapped channel, whose ring tick is then T + 16 (R14, R15, R58, R59, R130).
The feed of samples still to be processed is the model's form of R59 (log entry 12). -/
def Obligations.SampleFrameDelivered : Prop :=
  ∀ (l : Fin 4) (frame : List Byte) (f : SampleFrame) (s : State), s.running = true → s.lanes[l].state = .up →
    s.lanes[l].role = .pod → readSampleFrame frame = some f → s.lanes[l].expSeq = some f.seq →
    ∃ t, exec (.sampleFrame l frame) s = .next t ∧
      (∀ k : Fin 4, k ≠ l → t.lanes[k] = s.lanes[k]) ∧
      t.lanes[l] =
        { s.lanes[l] with
          expSeq := some (f.seq + 1), failures := 0,
          expTick := some (s.timebase.counter - BitVec.ofNat 48 s.lanes[l].latency + 16) } ∧
      (s.pulse.test = .none → (∀ j : Fin 8, s.detectors[channelOf l j].feed = none) →
        ∀ j : Fin 8, (s.sensorMap[channelOf l j]).isSome = true →
          let d := s.detectors[channelOf l j]
          let stamp := s.timebase.counter - BitVec.ofNat 48 s.lanes[l].latency
          let fresh := (slotSamples stamp (f.slot j) (f.mark j)).filter (FeedSample.unheard d.horizon)
          (d.state = .off → t.detectors[channelOf l j] = { d with horizon := some (stamp + 15) }) ∧
          (d.state ≠ .off → fresh ≠ [] →
            t.detectors[channelOf l j] = { d with feed := some { stamp := stamp, samples := fresh } })) ∧
      (s.pulse.test = .none → (∀ j : Fin 8, s.detectors[channelOf l j].feed = none) →
        (s.run.state = .run ∨ s.run.state = .tailing) → s.capture.port = .ready →
        ∀ j : Fin 8, t.capture.rings[channelOf l j].ringTick =
          if (s.sensorMap[channelOf l j]).isSome = true then
            some (s.timebase.counter - BitVec.ofNat 48 s.lanes[l].latency + 16)
          else s.capture.rings[channelOf l j].ringTick) ∧
      SameSettings s t

/-- GAUGE_FRAME in order on an UP GAUGE lane: the lane expects the next sequence; P is the sample, the newest of at most 64 in
the history; Pmax follows in RUN and TAILING; the slope is taken to the sample that lies the slope window back; the phase and the
steady count are decided by the first step of R30 that holds (R14, R16, R29, R30). A phase change, by a sample or by the entry
into NOGAUGE, offers a PHASE notice, gives every follow channel the map's entry for the new phase as its pending bank, and as its
active bank while its detector is QUIET or OFF, and at an entry into HOLD in RUN zeroes every hold count; a sample that leaves the
phase has none of these effects (R28, R31, R45, R121). A declaration, if the sample makes one, comes after them (R34).
That the readout and the next write are served at the end of the command is the model's deduction (log entry 21). -/
def Obligations.GaugeFrameDelivered : Prop :=
  (∀ (l : Fin 4) (frame : List Byte) (f : GaugeFrame) (s : State), s.running = true → s.lanes[l].state = .up →
     s.lanes[l].role = .gauge → readGaugeFrame frame = some f → s.lanes[l].expSeq = some f.seq →
     let p := s.tracker.params
     let old := s.tracker.phase
     let slope : Int :=
       if s.tracker.history.length < p.slopeWindow then 0
       else match s.tracker.history[s.tracker.history.length - p.slopeWindow]? with
         | some r => (f.pressure : Int) - (r : Int)
         | none => 0
     let pmax := if s.run.state = .run ∨ s.run.state = .tailing then max s.tracker.pmax f.pressure else s.tracker.pmax
     let count := min 255 (s.tracker.steady + 1)
     let phase :=
       if f.pressure < p.startLevel then .below
       else if slope ≤ -(p.fallThreshold : Int) then .fall
       else if (p.rampThreshold : Int) ≤ slope then if f.pressure + p.reloadMargin < pmax then .reload else .ramp
       else if p.holdEntryCount ≤ count then .hold
       else if old = .nogauge then .ramp
       else old
     let steady :=
       if phase ≠ old ∨ f.pressure < p.startLevel ∨ slope ≤ -(p.fallThreshold : Int) ∨ (p.rampThreshold : Int) ≤ slope
       then 0 else count
     ∃ (t u : State) (k : Tracker), exec (.gaugeFrame l frame) s = .next t ∧
       (∀ m : Fin 4, m ≠ l → t.lanes[m] = s.lanes[m]) ∧
       t.lanes[l] = { s.lanes[l] with expSeq := some (f.seq + 1), failures := 0 } ∧
       t.tracker.pressure = some f.pressure ∧ t.tracker.history = k.history ∧ t.tracker.pmax = pmax ∧
       t.tracker.phase = phase ∧ t.tracker.steady = steady ∧
       k = { s.tracker with
             pressure := some f.pressure, pmax := pmax, phase := phase, steady := steady
             history :=
               (if 64 ≤ s.tracker.history.length then s.tracker.history.tail else s.tracker.history) ++ [f.pressure]
             satList := if old = .nogauge then Vector.replicate 32 none else s.tracker.satList } ∧
       u = (s.setLane l { s.lanes[l] with expSeq := some (f.seq + 1), failures := 0 }).setTracker k ∧
       (let v := if phase = old then u else phaseEffects old phase u
        let drops := s.tracker.armed = true ∧ (old = .ramp ∨ old = .hold ∨ old = .reload) ∧
          ∃ r ∈ s.tracker.history.drop (s.tracker.history.length - p.dropWindow), f.pressure + p.dropLimit ≤ r
        t = settleCapture (if drops then declareBurst .aborted .pressure v else v)) ∧
       SameSettings s t) ∧
  (∀ (old new : Phase) (s : State),
     let t := phaseEffects old new s
     t.link = (notify (.phase old new (if new = .nogauge then none else s.tracker.pressure) s.tracker.pmax) s).link ∧
     (∀ c : Fin 32, t.channels[c] =
       let b := s.phaseMap[s.tracker.phase.index]
       if s.channels[c].follow then
         { s.channels[c] with
           pending := b, active := if s.detectors[c].state.mayswitch then b else s.channels[c].active }
       else s.channels[c]) ∧
     (∀ n : Fin 1024, t.cells.cells[n] =
       if new = .hold ∧ s.run.state = .run then { s.cells.cells[n] with holdCount := 0 } else s.cells.cells[n]) ∧
     t = ((s.setLink t.link).setChannels t.channels).setCells { s.cells with cells := t.cells.cells }) ∧
  (∀ s : State,
     let u := s.setTracker
       { s.tracker with
         history := [], pressure := none, phase := .nogauge, steady := 0, satList := Vector.replicate 32 none }
     gaugeGone s = if s.tracker.phase = .nogauge then u else phaseEffects s.tracker.phase .nogauge u)

/-- A frame that fails the frame check, or is behind, on an UP lane: CHECK tally and failures rise; the first and second move
the expected sequence on by 1 and, on a POD lane, the expected tick by 16; the third puts the lane in DOWN, or in ALIGNING when
signal detect is present (R6, R10, R11, R13). A frame ahead by d from 1 to 127 raises the SKIP tally by d, sets the failures to
0, and is then delivered as in order (R12, R14). On a POD lane the first and second failure are a missing stretch of 1 frame and a
SKIP one of d frames, which goes through the lane's channels in turn and is followed by the close and the DONE test; the third
failure lets the lane's channels leave the live set, or puts the tracker in NOGAUGE. A missing stretch on a mapped channel closes
an open hit with SKIP, the detector QUIET and the pending bank applied; the horizon is the lane's new expected tick less 1, the
FILLING segment is sealed, and the ring writer is told of the missing lines; an unmapped channel receives nothing (R13, R71, R76,
R131, R139). The delivery of the SKIP frame is that of a frame in order, whose samples or pressure reach their receivers.
Stated for a lane whose detectors have dealt with the frame before; how older samples are dealt with is the model's choice (log
entry 12). That the channels are taken in ascending number (log entry 27), that what a declaration with tail span 0 does within
a stretch is as it is (log entry 40), and that the capture unit is served at the end of the command (log entry 21), are the
model's choice and deduction. -/
def Obligations.BrokenStretchCounted : Prop :=
  (∀ (l : Fin 4) (frame : List Byte) (s : State), s.running = true → s.lanes[l].state = .up →
     (∀ f, readLaneFrame s.lanes[l].role frame = some f → 128 ≤ (f.seq - s.lanes[l].expSeq.getD f.seq).toNat) →
     ∃ t, exec (.sampleFrame l frame) s = .next t ∧ exec (.gaugeFrame l frame) s = .next t ∧
       (∀ k : Fin 4, k ≠ l → t.lanes[k] = s.lanes[k]) ∧
       (let x := s.lanes[l]
        t.lanes[l] =
         if 3 ≤ x.failures + 1 then
           { x with
             checkTally := min 65535 (x.checkTally + 1), failures := 0, alignCount := 0, prevSeq := none,
             expSeq := none, expTick := none, state := if x.signal then .aligning else .down }
         else
           { x with
             checkTally := min 65535 (x.checkTally + 1), failures := x.failures + 1,
             expSeq := x.expSeq.map (fun q => q + 1),
             expTick := if x.role = .pod then x.expTick.map (fun e => e + 16) else x.expTick }) ∧
       (let x := s.lanes[l]
        let y := { x with checkTally := min 65535 (x.checkTally + 1), failures := x.failures + 1 }
        let u := notify (.lane l .up .down .checks) (s.setLane l
          { y with state := .down, failures := 0, alignCount := 0, prevSeq := none, expSeq := none, expTick := none })
        (2 ≤ x.failures → x.role = .gauge → t = settleCapture (tryAlign l (gaugeGone u))) ∧
        (x.failures < 2 → x.role = .gauge → t = settleCapture (s.setLane l
          { y with expSeq := x.expSeq.map (fun q => q + 1) })) ∧
        (x.role = .pod → (∀ j : Fin 8, s.detectors[channelOf l j].feed = none) →
          (2 ≤ x.failures → t = settleCapture (tryAlign l (podLost l u))) ∧
          (x.failures < 2 → ∀ e, x.expTick = some e → t = settleCapture (unitTests
            ((List.finRange 8).foldl (fun v j => stretchChannel 1 (e + 16) (channelOf l j) v) (s.setLane l
              { y with expSeq := x.expSeq.map (fun q => q + 1), expTick := some (e + 16) })))))) ∧
       SameSettings s t) ∧
  (∀ (l : Fin 4) (frame : List Byte) (f : LaneFrame) (q : Byte) (s : State), s.running = true →
     s.lanes[l].state = .up → readLaneFrame s.lanes[l].role frame = some f → s.lanes[l].expSeq = some q →
     1 ≤ (f.seq - q).toNat → (f.seq - q).toNat ≤ 127 →
     ∃ t, exec (.sampleFrame l frame) s = .next t ∧ exec (.gaugeFrame l frame) s = .next t ∧
       (∀ k : Fin 4, k ≠ l → t.lanes[k] = s.lanes[k]) ∧
       t.lanes[l] =
         { s.lanes[l] with
           skipTally := min 65535 (s.lanes[l].skipTally + (f.seq - q).toNat), failures := 0,
           expSeq := some (f.seq + 1),
           expTick :=
             if s.lanes[l].role = .pod then some (s.timebase.counter - BitVec.ofNat 48 s.lanes[l].latency + 16)
             else s.lanes[l].expTick } ∧
       (let d := (f.seq - q).toNat
        let x := { s.lanes[l] with skipTally := min 65535 (s.lanes[l].skipTally + d), failures := 0 }
        (x.role = .gauge →
          t = settleCapture (deliverFrame l f (s.setLane l { x with expSeq := some f.seq }))) ∧
        (x.role = .pod → (∀ j : Fin 8, s.detectors[channelOf l j].feed = none) → ∀ e, x.expTick = some e →
          let v := unitTests ((List.finRange 8).foldl
            (fun v j => stretchChannel d (e + BitVec.ofNat 48 (16 * d)) (channelOf l j) v)
            (s.setLane l { x with expTick := some (e + BitVec.ofNat 48 (16 * d)) }))
          t = settleCapture (deliverFrame l f (v.setLane l { v.lanes[l] with expSeq := some f.seq })))) ∧
       SameSettings s t) ∧
  (∀ (l : Fin 4) (frame : List Byte) (f : LaneFrame) (s : State), s.running = true → s.lanes[l].state = .up →
     readLaneFrame s.lanes[l].role frame = some f → s.lanes[l].expSeq = some f.seq →
     (s.lanes[l].role = .pod → ∀ j : Fin 8, s.detectors[channelOf l j].feed = none) →
     exec (.sampleFrame l frame) s = .next (settleCapture (deliverFrame l f s)) ∧
     exec (.gaugeFrame l frame) s = .next (settleCapture (deliverFrame l f s))) ∧
  (∀ (n : Nat) (e : Tick) (c : Fin 32) (s : State),
     (s.sensorMap[c] = none → stretchChannel n e c s = s) ∧
     (s.sensorMap[c] ≠ none →
       let broken := match s.detectors[c].state with
         | .opened h => unitTests (handOff present c (hitRecord s c h .skip)
             ((s.setDetector c { s.detectors[c] with state := .quiet }).setChannel c
               { s.channels[c] with active := s.channels[c].pending }))
         | _ => s
       stretchChannel n e c s = missingLines c n (sealChannel c
         (broken.setDetector c { broken.detectors[c] with horizon := some (e - 1) })) ∧
       (stretchChannel n e c s).detectors[c].horizon = some (e - 1) ∧
       ((∀ h, s.detectors[c].state ≠ .opened h) →
         (stretchChannel n e c s).detectors[c].state = s.detectors[c].state)))

/-- What a detector's departure from the live set does. QUIET and REARM enter OFF with no record, with the pending bank
applied; an OPEN hit is closed with the given cause, its duration last-above − arrival + 1, and handed on by a detector that
is OFF already (R56, R57, R72 to R74). A hand-off seals the channel's FILLING segment early for SKIP and LOST, offers the hit
to the test in flight, and presents a hit that is handed back in RUN and TAILING, and discards it otherwise (R76, R139,
R150). An early seal makes the FILLING segment SEALED with the lines it has, and ends one that has lost lines and has none
left to read (R139, R142). A channel that leaves the live set with its lane has its horizon absent and its FILLING segment
sealed, and a live one is followed by the close and the DONE test; the channels of the lane leave one after another, and a
test whose source lane it is ends with LANELOST (R5, R9, R55, R58, R85, R154, R155).
That a frame's samples not yet processed are passed over (log entries 13 and 14), that the DONE test is withheld on the
source lane (log entry 18), that the channels leave in ascending number (log entry 27), and that a presentation within a
departure declares nothing (log entry 17), are the model's choice and deduction. -/
def Obligations.DeparturesCloseHits : Prop :=
  (∀ (c : Fin 32) (h : OpenHit) (cause : CloseCause) (s : State), cause = .skip ∨ cause = .lost ∨ cause = .halt →
     hitRecord s c h cause =
       { part := s.run.address, channel := c, sensor := h.sensor, arrival := h.arrival,
         rise := (h.peakTick - h.arrival).toNat, duration := (h.lastAbove - h.arrival).toNat + 1,
         crossings := h.crossings, peak := h.peak, energy := h.energy, pressure := h.pressure, phase := h.phase,
         bank := h.bank, cause := cause, sat := h.sat, test := false, nocap := decide (h.capture = .nocap),
         shared := decide (∃ i, h.capture = .shared i),
         segment := match h.capture with
           | .segment i => some i
           | .shared i => some i
           | .nothing => none
           | .nocap => none
         group := none }) ∧
  (∀ (pres : Presenter) (cause : CloseCause) (c : Fin 32) (s : State),
     let d := s.detectors[c]
     let u := (s.setDetector c
       { state := .off, feed := none
         horizon := match d.feed with
           | some f => some (f.stamp + 15)
           | none => d.horizon }).setChannel c { s.channels[c] with active := s.channels[c].pending }
     (d.state = .off → detectorOff pres cause c s = s) ∧
     (d.state = .quiet ∨ (∃ e, d.state = .rearm e) → detectorOff pres cause c s = u) ∧
     (∀ h, d.state = .opened h → detectorOff pres cause c s = handOff pres c (hitRecord s c h cause) u)) ∧
  (∀ (pres : Presenter) (c : Fin 32) (r : HitRecord) (s : State),
     let u := if r.cause = .skip ∨ r.cause = .lost then sealChannel c s else s
     let presented := if u.run.state = .run ∨ u.run.state = .tailing then pres r u else u
     (s.pulse.test = .none → handOff pres c r s = presented) ∧
     (s.pulse.test ≠ .none → handOff pres c r s =
       if (offerToTest pres r u).2 then presented else (offerToTest pres r u).1)) ∧
  (∀ (h : HitRecord) (s : State),
     let watched := h.sat = true ∧ s.tracker.armed = true ∧ s.tracker.phase = .nogauge
     let old := s.tracker.satList
     presentQuietly h s =
       if watched then (placeHit h s).setTracker
         { s.tracker with
           satList := if (old[h.sensor]).any (fun e => earlier h.arrival e) then old
             else put old h.sensor (some h.arrival) }
       else placeHit h s) ∧
  (∀ (c : Fin 32) (s : State),
     let mine := fun (i : Fin 64) => ∃ g, s.capture.segments[i] = some g ∧ g.channel = c ∧ g.stage = .filling
     ((∀ i, ¬ mine i) → sealChannel c s = s) ∧
     (∀ (i : Fin 64) (g : Segment), s.capture.segments[i] = some g → mine i → (∀ j, mine j → j = i) →
       (g.lost = [] ∨ g.unread ≠ [] → sealChannel c s = s.setSegment i (some { g with stage := .sealed })) ∧
       (g.lost ≠ [] → g.unread = [] →
         (sealChannel c s).capture.segments = put s.capture.segments i none ∧
         (sealChannel c s).link = (offer (.trace
           { part := s.run.address, segment := some i, sensor := g.sensor, tick := g.arrival, offset := none,
             cut := g.lost.length - g.lostReported, samples := none, gap := false, damaged := g.damaged, lost := true,
             isEnd := true, dump := false }) false s).link))) ∧
  (∀ (own : Bool) (c : Fin 32) (s : State),
     let a := detectorOff present .lost c s
     let b := sealChannel c (a.setDetector c { a.detectors[c] with horizon := none })
     channelLost own c s =
       if s.detectors[c].state = .off then b else if own then closeTest b else doneTest (closeTest b)) ∧
  (∀ (l : Fin 4) (s : State),
     let gone := fun (own : Bool) => (List.finRange 8).foldl (fun u j => channelLost own (channelOf l j) u) s
     ((∀ i fire, InFlight s i fire → laneOf i.channel ≠ l) → podLost l s = gone false) ∧
     (∀ i fire, InFlight s i fire → laneOf i.channel = l →
       podLost l s = endTest (presentWith .laneLost) .made .laneLost (gone true)))

/-! ## Detectors, groups and cells -/

/-- SAMPLE_PROCESSED in QUIET: a sample at or above the active bank's threshold opens a hit with the measures of R61 and the
context of R62; one below it leaves the detector in QUIET. With capture mode ON in RUN and the port READY the hit shares the
channel's FILLING segment, or reserves the lowest FREE descriptor, its trigger line at the place of the arrival's line, or has
NOCAP (R137, R132).
That a segment whose one line is placed already at its reservation is SEALED then is the model's deduction (log entry 22). -/
def Obligations.SampleOpensHit : Prop :=
  ∀ (c n : Fin 32) (stamp : Tick) (x : FeedSample) (xs : List FeedSample) (s : State), s.running = true →
    s.detectors[c].state = .quiet → s.detectors[c].feed = some { stamp := stamp, samples := x :: xs } →
    s.sensorMap[c] = some n → (xs ≠ [] ∨ s.pulse.test = .none) →
    ∃ t, exec (.sampleProcessed c) s = .next t ∧
      (magnitude x.value < (s.activeBank c).threshold → t.detectors[c].state = .quiet) ∧
      ((s.activeBank c).threshold ≤ magnitude x.value → ∃ a : CaptureAnswer,
        t.detectors[c].state = .opened
          { arrival := x.tick, peak := magnitude x.value, peakTick := x.tick, crossings := 1,
            energy := x.value.toInt.natAbs * x.value.toInt.natAbs / 256, lastAbove := x.tick, prevAbove := true,
            sat := x.saturated, sensor := n, bank := s.channels[c].active, phase := s.tracker.phase,
            pressure := if s.tracker.phase = .nogauge then none else s.tracker.pressure, capture := a } ∧
        (s.channels[c].captureOn = false ∨ s.run.state ≠ .run → a = .nothing) ∧
        (s.channels[c].captureOn = true → s.run.state = .run → s.capture.port = .failed → a = .nocap) ∧
        (s.channels[c].captureOn = true → s.run.state = .run → s.capture.port = .ready →
          let mine := fun (i : Fin 64) =>
            ∃ g, s.capture.segments[i] = some g ∧ g.channel = c ∧ g.stage = .filling
          let q := s.capture.rings[c]
          let r := s.capture.ringLines
          let placed := q.ringTick = some (stamp + 16)
          let place :=
            if placed then (q.writePos + r - 1) % r
            else match q.ringTick with
              | none => q.writePos
              | some k =>
                if k ≠ stamp ∧ (stamp - k).toNat % 16 = 0 ∧ (stamp - k).toNat / 16 ≤ r - 1 then
                  (q.writePos + (stamp - k).toNat / 16) % r
                else q.writePos
          (∀ i, mine i → (∀ j, mine j → j = i) → a = .shared i ∧ t.capture.segments[i] = s.capture.segments[i]) ∧
          ((∀ i, ¬ mine i) → (∀ i : Fin 64, s.capture.segments[i] ≠ none) → a = .nocap) ∧
          ((∀ i, ¬ mine i) → ∀ i : Fin 64, s.capture.segments[i] = none →
            (∀ j : Fin 64, j < i → s.capture.segments[j] ≠ none) →
            a = .segment i ∧ ∃ stage, (placed ∧ s.channels[c].postLines = 0 ∨ stage = .filling) ∧
              t.capture.segments[i] = some
                { stage := stage, channel := c, sensor := n, arrival := x.tick, trigger := place,
                  pre := s.channels[c].preLines, post := s.channels[c].postLines,
                  written := if placed then 1 else 0, nextPos := 0, lost := [], lostReported := 0,
                  damaged := false }))) ∧
      t.lanes = s.lanes ∧ SameSettings s t

/-- SAMPLE_PROCESSED in OPEN, when neither the QUIET nor the LIMIT test holds: the hit's measures after steps 1 to 4 (R63 to
R68). -/
def Obligations.SampleMeasured : Prop :=
  ∀ (c : Fin 32) (h : OpenHit) (stamp : Tick) (x : FeedSample) (xs : List FeedSample) (s : State), s.running = true →
    s.detectors[c].state = .opened h → s.detectors[c].feed = some { stamp := stamp, samples := x :: xs } →
    (xs ≠ [] ∨ s.pulse.test = .none) →
    (let b := s.channels[c].banks[h.bank]
     let above := b.threshold ≤ magnitude x.value
     ¬ above → ticksFrom h.lastAbove x.tick < b.quietSpan) →
    (1 ≤ (s.channels[c].banks[h.bank]).quietSpan) →
    ticksFrom h.arrival x.tick + 1 < (s.channels[c].banks[h.bank]).durationLimit →
    ∃ t, exec (.sampleProcessed c) s = .next t ∧
      (let b := s.channels[c].banks[h.bank]
       let m := magnitude x.value
       t.detectors[c].state = .opened
        { h with
          energy := min (2 ^ 32 - 1) (h.energy + x.value.toInt.natAbs * x.value.toInt.natAbs / 256)
          crossings := if b.threshold ≤ m ∧ h.prevAbove = false then min 65535 (h.crossings + 1) else h.crossings
          lastAbove := if b.threshold ≤ m then x.tick else h.lastAbove
          prevAbove := decide (b.threshold ≤ m)
          peak := if ticksFrom h.arrival x.tick < b.riseWindow ∧ h.peak < m then m else h.peak
          peakTick := if ticksFrom h.arrival x.tick < b.riseWindow ∧ h.peak < m then x.tick else h.peakTick
          sat := h.sat || x.saturated }) ∧
      t.lanes = s.lanes ∧ SameSettings s t

/-- SAMPLE_PROCESSED in OPEN, when the QUIET or the LIMIT test holds: the detector takes its next state, REARM until the close
tick plus the rearm span, or QUIET with the pending bank applied; the hit record is built and handed on, and the tests of the
grouping and the pulse test unit follow (R67 to R69, R73, R74, R76). With no test in flight the hit is presented in RUN and
TAILING and discarded otherwise. SAMPLE_PROCESSED in REARM: a sample before the rearm end is passed; one at or after it returns
the detector to QUIET, with the pending bank applied, and is tested under that bank (R70).
That the tests follow in this order, and that the readout and the next write are served at the end of the command, are the
model's choice and deduction (log entries 16 and 21). -/
def Obligations.SampleClosesHit : Prop :=
  (∀ (c : Fin 32) (h : OpenHit) (stamp : Tick) (x : FeedSample) (xs : List FeedSample) (s : State), s.running = true →
     s.detectors[c].state = .opened h → s.detectors[c].feed = some { stamp := stamp, samples := x :: xs } →
     let b := s.channels[c].banks[h.bank]
     let m := h.measure b x
     let byQuiet := b.quietSpan ≤ ticksFrom m.lastAbove x.tick
     byQuiet ∨ b.durationLimit ≤ ticksFrom h.arrival x.tick + 1 →
     let left : Feed := { stamp := stamp, samples := xs }
     let r : HitRecord :=
       { part := s.run.address, channel := c, sensor := h.sensor, arrival := h.arrival,
         rise := ticksFrom h.arrival m.peakTick,
         duration := if byQuiet then ticksFrom h.arrival m.lastAbove + 1 else b.durationLimit,
         crossings := m.crossings, peak := m.peak, energy := m.energy, pressure := h.pressure, phase := h.phase,
         bank := h.bank, cause := if byQuiet then .quiet else .limit, sat := m.sat, test := false,
         nocap := decide (h.capture = .nocap), shared := decide (∃ i, h.capture = .shared i),
         segment := match h.capture with
           | .segment i => some i
           | .shared i => some i
           | .nothing => none
           | .nocap => none
         group := none }
     let next : DetState := if b.rearmSpan = 0 then .quiet else .rearm (x.tick + BitVec.ofNat 48 b.rearmSpan)
     let u := (s.setDetector c { s.detectors[c] with state := next, feed := some left }).setChannel c
       { s.channels[c] with
         active := if b.rearmSpan = 0 then s.channels[c].pending else s.channels[c].active }
     let v := unitTests (handOff present c r u)
     ∃ t, exec (.sampleProcessed c) s = .next t ∧
       t = settleCapture (if xs = [] ∧ v.detectors[c].feed = some left then frameDealt c stamp v else v) ∧
       (s.pulse.test = .none →
         handOff present c r u = (if s.run.state = .run ∨ s.run.state = .tailing then present r u else u) ∧
         (m.sat = false ∨ s.tracker.armed = false ∨ s.run.tailSpan ≠ 0 → t.detectors[c].state = next))) ∧
  (∀ (c n : Fin 32) (e stamp : Tick) (x : FeedSample) (xs : List FeedSample) (s : State), s.running = true →
     s.detectors[c].state = .rearm e → s.detectors[c].feed = some { stamp := stamp, samples := x :: xs } →
     s.sensorMap[c] = some n → (xs ≠ [] ∨ s.pulse.test = .none) →
     (atOrAfter x.tick e = false →
       ∃ t, exec (.sampleProcessed c) s = .next t ∧ t.detectors[c].state = .rearm e ∧ t.channels = s.channels) ∧
     (atOrAfter x.tick e = true →
       let b := s.channels[c].banks[s.channels[c].pending]
       ∃ t, exec (.sampleProcessed c) s = .next t ∧
         t.channels[c] = { s.channels[c] with active := s.channels[c].pending } ∧
         (magnitude x.value < b.threshold → t.detectors[c].state = .quiet) ∧
         (b.threshold ≤ magnitude x.value → ∃ o, t.detectors[c].state = .opened o ∧ o.arrival = x.tick ∧
           o.peak = magnitude x.value ∧ o.bank = s.channels[c].pending ∧ o.sensor = n)))

/-- A presented hit (R80): it joins the first candidate in the order of the open group list, with the anchor, the latest, the
hold deadline, BEHIND and the group's place as R81 states; with no candidate it opens a group, numbered by the counter (R82),
and when 8 groups are open the first of the list closes with CROWDED before that (R83). A hit without SAT has no other effect
before the close test that its caller makes.
Nothing is said of a list in which two groups have one number, which takes 2^32 openings in a run. -/
def Obligations.HitsGrouped : Prop :=
  ∀ (h : HitRecord) (s : State), (s.grouping.groups.map (fun g => g.number)).Nodup →
    let u := s.grouping
    let can := fun (g : Group) => (∀ m ∈ g.members, m.sensor ≠ h.sensor) ∧
      (laterOf g.latest h.arrival - earlierOf g.anchor h.arrival).toNat < u.window
    let deadline := h.arrival + BitVec.ofNat 48 (u.window + u.holdLimit)
    let late := fun (last : Option Tick) => last.any (fun y => earlier h.arrival y)
    let fresh := fun (last : Option Tick) =>
      ({ number := u.counter, anchor := h.arrival, latest := h.arrival, members := [h], deadline := deadline,
         behind := late last } : Group)
    (h.sat = false → present h s = placeHit h s) ∧
    (∀ before g after, u.groups = before ++ g :: after → (∀ y ∈ before, ¬ can y) → can g →
      let moved := earlier h.arrival g.anchor
      ∃ members groups,
        let g' : Group :=
          { number := g.number, anchor := if moved then h.arrival else g.anchor,
            latest := laterOf g.latest h.arrival, members := members,
            deadline := if moved then deadline else g.deadline,
            behind := g.behind || (moved && late u.lastClosed) }
        Inserted hitBefore h g.members members ∧ (moved = false → groups = before ++ g' :: after) ∧
        (moved = true → Inserted groupBefore g' (before ++ after) groups) ∧
        placeHit h s = s.setGrouping { u with groups := groups }) ∧
    ((∀ g ∈ u.groups, ¬ can g) → u.groups.length < 8 →
      ∃ groups, Inserted groupBefore (fresh u.lastClosed) u.groups groups ∧
        placeHit h s = s.setGrouping { u with groups := groups, counter := u.counter + 1 }) ∧
    ((∀ g ∈ u.groups, ¬ can g) → 8 ≤ u.groups.length → ∀ g rest, u.groups = g :: rest →
      ∃ groups e, Inserted groupBefore (fresh (some g.anchor)) rest groups ∧ e.group = g.number ∧
        e.anchor = g.anchor ∧ e.crowded = true ∧ e.late = false ∧ e.halted = false ∧ e.behind = g.behind ∧
        (e.afterburst = true ↔ s.run.state = .tailing) ∧
        placeHit h s = (offerGroup e g.members (accountEvent e s)).setGrouping
          { u with groups := groups, counter := u.counter + 1, lastClosed := some g.anchor })

/-- The tracker's own declarations. PRESSURE: a delivered gauge sample in RUN declares exactly when burst is armed, the phase
before it was RAMP, HOLD or RELOAD, and some sample among the newest of the drop window lies at least the drop limit above it
(R34). SATURATION: a presented hit with SAT is reported while burst is armed and the phase is NOGAUGE; its sensor's entry
becomes its arrival unless it holds a later one; a report that changes the list declares exactly when enough entries lie within
the saturation window of the latest (R35, R36, R95). A declaration has the effects of R165; its BURST notice, with cause, B, P and
Pmax, follows the PHASE notice of the sample, or the records of a group that the hit evicted (R34, R164).
That the report is made after the hit has joined or opened its group is the model's deduction (log entry 15). -/
def Obligations.TrackerDeclares : Prop :=
  (∀ (l : Fin 4) (frame : List Byte) (f : GaugeFrame) (s : State), s.running = true → s.lanes[l].state = .up →
     s.lanes[l].role = .gauge → readGaugeFrame frame = some f → s.lanes[l].expSeq = some f.seq →
     s.run.state = .run →
     let newest := s.tracker.history.drop (s.tracker.history.length - s.tracker.params.dropWindow)
     let declares := s.tracker.armed = true ∧
       (s.tracker.phase = .ramp ∨ s.tracker.phase = .hold ∨ s.tracker.phase = .reload) ∧
       ∃ r ∈ newest, f.pressure + s.tracker.params.dropLimit ≤ r
     ∃ t, exec (.gaugeFrame l frame) s = .next t ∧
       (declares → Declared s t .pressure ∧
         (s.run.bypass = false → s.link.fill + 4 ≤ 4096 →
           let pmax := max s.tracker.pmax f.pressure
           ∃ more, t.link.own = s.link.own ++
             (if t.tracker.phase = s.tracker.phase then [] else [.notice
               { part := s.run.address, tick := s.timebase.counter,
                 body := .phase s.tracker.phase t.tracker.phase (some f.pressure) pmax }]) ++
             burstNotice s .pressure (some f.pressure) pmax :: more)) ∧
       (¬ declares → t.run = s.run ∧ t.tracker.armed = s.tracker.armed ∧ t.cells.boundary = s.cells.boundary ∧
         t.pulse = s.pulse ∧ t.link.marks = s.link.marks)) ∧
  (∀ (h : HitRecord) (s : State), s.run.state = .run →
     let watched := h.sat = true ∧ s.tracker.armed = true ∧ s.tracker.phase = .nogauge
     let old := s.tracker.satList
     let list := if (old[h.sensor]).any (fun e => earlier h.arrival e) then old else put old h.sensor (some h.arrival)
     (¬ watched → present h s = placeHit h s) ∧
     (watched → list = old → present h s = placeHit h s) ∧
     (watched → list ≠ old → ∀ latest : Tick, (∃ n : Fin 32, list[n] = some latest) →
       (∀ (n : Fin 32) (e : Tick), list[n] = some e → atOrAfter latest e = true) →
       let near := (List.finRange 32).countP
         (fun n => (list[n]).any (fun e => decide ((latest - e).toNat < s.tracker.params.satWindow)))
       (near < s.tracker.params.satCount →
         present h s = (placeHit h s).setTracker { s.tracker with satList := list }) ∧
       (s.tracker.params.satCount ≤ near → Declared s (present h s) .saturation ∧
         (∀ n : Fin 32, (present h s).tracker.satList[n] = none) ∧
         (s.run.bypass = false → (placeHit h s).link.fill + 2 ≤ 4096 → ∃ more, (present h s).link.own =
           (placeHit h s).link.own ++ burstNotice s .saturation none s.tracker.pmax :: more))))

/-- The closing of groups. The close condition of a group holds exactly when every live detector whose sensor is no member's
has been heard to the end of the window and has no open hit that would join, and no held hit would (R84). A close test
closes, in the order of the list, every group whose condition holds, normally, and every other whose deadline is reached,
with LATE; the others stay (R85, R86). A group that closes leaves the list, its event is accounted, and its event record,
with the summed energy of the members (R107), is offered and then its member hits in their order, each with the group's
number (R92). HOLD_TIMER_EXPIRY for an open group whose deadline is reached is a close test: the group is closed, and lanes,
detectors, tracker, capture unit, test and run control are as they were (R86).
Nothing is said of the list left where two groups have one number, which takes 2^32 openings in a run. -/
def Obligations.HoldTimerClosesGroup : Prop :=
  (∀ (g : Group) (s : State),
     let joins := fun (n : Fin 32) (a : Tick) => (∀ m ∈ g.members, m.sensor ≠ n) ∧
       (laterOf g.latest a - earlierOf g.anchor a).toNat < s.grouping.window
     closeCondition s g = true ↔
       (∀ c n : Fin 32, s.detectors[c].state ≠ .off → s.sensorMap[c] = some n → (∀ m ∈ g.members, m.sensor ≠ n) →
         (∃ x, s.detectors[c].horizon = some x ∧
           atOrAfter x (g.anchor + BitVec.ofNat 48 (s.grouping.window - 1)) = true) ∧
         ∀ o, s.detectors[c].state = .opened o → ¬ joins n o.arrival) ∧
       ∀ h ∈ s.pulse.hold, ¬ joins h.sensor h.arrival) ∧
  (∀ s : State,
     let closes := fun (g : Group) => closeCondition s g || atOrAfter s.timebase.counter g.deadline
     let closing := s.grouping.groups.filter closes
     closeTest s = closing.foldl (fun t g => closeGroup (if closeCondition s g then .normal else .late) g t) s ∧
     ((s.grouping.groups.map (fun g => g.number)).Nodup → (closeTest s).grouping =
       { s.grouping with
         groups := s.grouping.groups.filter (fun g => !(closes g))
         lastClosed := match closing.getLast? with
           | some g => some g.anchor
           | none => s.grouping.lastClosed })) ∧
  (∀ (how : GroupClose) (g : Group) (s : State), ∃ e : EventRecord,
     e.part = s.run.address ∧ e.group = g.number ∧ e.anchor = g.anchor ∧ e.method = (locate s g).method ∧
     e.cell = (locate s g).cell ∧ e.crowded = decide (how = .crowded) ∧ e.late = decide (how = .late) ∧
     e.halted = decide (how = .halted) ∧ e.behind = g.behind ∧ e.afterburst = decide (s.run.state = .tailing) ∧
     e.members = g.members.map (fun h =>
       { sensor := h.sensor, delay := (h.arrival - g.anchor).toNat, peak := h.peak, sat := h.sat }) ∧
     (∀ f rest, g.members = f :: rest → e.pressure = f.pressure ∧ e.phase = f.phase) ∧
     e.energy = min (2 ^ 32 - 1) (g.members.map (fun h => h.energy)).sum ∧ e.splitvote = (locate s g).splitvote ∧
     closeGroup how g s =
       (g.members.foldl (fun t h => offer (.hit { h with group := some g.number }) e.cell.isSome t)
         (offer (.event e) false (accountEvent e s))).setGrouping
           { s.grouping with
             groups := s.grouping.groups.filter (fun y => decide (y.number ≠ g.number)), lastClosed := some g.anchor }) ∧
  (∀ (n : BitVec 32) (g : Group) (s : State), s.running = true → g ∈ s.grouping.groups → g.number = n →
     atOrAfter s.timebase.counter g.deadline = true →
     ∃ t, exec (.holdTimerExpiry n) s = .next t ∧ t = closeTest s ∧ (∀ x ∈ t.grouping.groups, x.number ≠ n) ∧
       t.grouping.lastClosed.isSome = true ∧ t.lanes = s.lanes ∧ t.detectors = s.detectors ∧
       t.channels = s.channels ∧ t.tracker = s.tracker ∧ t.capture = s.capture ∧ t.pulse = s.pulse ∧ t.run = s.run ∧
       SameSettings s t)

/-- An accounted event updates its cell's totals, newest slot and hold or reload count, and then the cell's alarm state is
evaluated: a cell in ALARM keeps it, a cell in QUIET or WATCH enters ALARM by the first condition of R116 that holds, a cell in
QUIET otherwise enters WATCH at the watch rate; a change, and nothing else, offers one CELL notice. An event with no cell,
closed outside RUN or HALTED changes no cell (R114 to R117, R125). -/
def Obligations.EventAccounted : Prop :=
  ∀ (e : EventRecord) (s : State),
    ((e.cell = none ∨ s.run.state ≠ .run ∨ e.halted = true) → accountEvent e s = s) ∧
    (∀ n : Fin 1024, e.cell = some n → s.run.state = .run → e.halted = false →
      let c := s.cells.cells[n]
      let d := (accountEvent e s).cells.cells[n]
      d.events = min 4294967295 (c.events + 1) ∧ d.energy = min (2 ^ 48 - 1) (c.energy + e.energy) ∧
      d.slots[0] = min 65535 (c.slots[0] + 1) ∧ (∀ k : Fin 8, k ≠ 0 → d.slots[k] = c.slots[k]) ∧
      d.holdCount = (if e.phase = .hold then min 65535 (c.holdCount + 1) else c.holdCount) ∧
      d.reloadCount = (if e.phase = .reload then min 65535 (c.reloadCount + 1) else c.reloadCount) ∧
      d.cls = c.cls ∧ (∀ m : Fin 1024, m ≠ n → (accountEvent e s).cells.cells[m] = s.cells.cells[m]) ∧
      (let k := s.cells.classes[c.cls]
       let limits :=
         if k.holdLimit ≠ 0 ∧ k.holdLimit ≤ d.holdCount ∧ e.phase = .hold then some AlarmCause.hold
         else if k.reloadLimit ≠ 0 ∧ k.reloadLimit ≤ d.reloadCount then some .reload
         else if k.energyLimit ≠ 0 ∧ k.energyLimit ≤ d.energy then some .energy
         else none
       d.alarm = match c.alarm, limits with
         | .alarm a, _ => .alarm a
         | .watch, some a => .alarm a
         | .watch, none => .watch
         | .quiet, some a => .alarm a
         | .quiet, none => if k.watchRate ≠ 0 ∧ k.watchRate ≤ d.slots.toList.sum then .watch else .quiet) ∧
      (d.alarm = c.alarm → (accountEvent e s).link = s.link) ∧
      (d.alarm ≠ c.alarm → s.run.bypass = false → s.link.fill + 2 ≤ 4096 →
        ∃ cause, (accountEvent e s).link.own = s.link.own ++
            [.notice { part := s.run.address, tick := s.timebase.counter, body := .cell n c.alarm d.alarm cause }] ∧
          cause = match d.alarm with
            | .alarm .hold => .hold
            | .alarm .reload => .reload
            | .alarm .energy => .energy
            | .watch => .rate
            | .quiet => cause))

/-- The method PAIR: for a group of at least M members it is found exactly when the table holds an entry with the key of the
first two sensors, the bin index is below the entry's bin count, and that position holds a cell, which is then the event's;
otherwise the first member's home cell gives ZONE, or NONE when it is absent (R102, R103). SPLITVOTE is found exactly after the
method PAIR, when the lookup for the first and the third sensor, with the third's delay, gives a cell that is not the event's
(R105). A group of fewer than M members has the method NONE and no cell (R101). -/
def Obligations.PairLookupFindsCell : Prop :=
  (∀ (s : State) (g : Group) (f n : HitRecord) (rest : List HitRecord) (cell : Fin 1024), TablesLawful s →
    g.members = f :: n :: rest → s.grouping.minMembers ≤ g.members.length →
    (((locate s g).method = .pair ∧ (locate s g).cell = some cell) ↔
      ∃ (i : Fin 512) (e : PairEntry), s.pairs[i] = some e ∧ e.first = f.sensor ∧ e.second = n.sensor ∧
        ticksFrom g.anchor n.arrival / e.binWidth < e.binCount ∧
        e.cells[ticksFrom g.anchor n.arrival / e.binWidth]? = some (some cell)) ∧
    ((locate s g).method = .pair → (locate s g).cell.isSome = true) ∧
    ((locate s g).method ≠ .pair →
      (locate s g).cell = s.channels[f.channel].homeCell ∧
      (locate s g).method = (if s.channels[f.channel].homeCell.isSome then .zone else .none)) ∧
    ((locate s g).splitvote = true ↔ (locate s g).method = .pair ∧
      ∃ (m : HitRecord) (i : Fin 512) (e : PairEntry) (other : Fin 1024), rest.head? = some m ∧ s.pairs[i] = some e ∧
        e.first = f.sensor ∧ e.second = m.sensor ∧ ticksFrom g.anchor m.arrival / e.binWidth < e.binCount ∧
        e.cells[ticksFrom g.anchor m.arrival / e.binWidth]? = some (some other) ∧
        (locate s g).cell ≠ some other)) ∧
  (∀ (s : State) (g : Group), g.members.length < s.grouping.minMembers →
    locate s g = { method := .none, cell := none, splitvote := false })

/-! ## Timers -/

/-- RATE_SLOT_BOUNDARY at a boundary: every cell's slots shift, WATCH cells below half the watch rate return to QUIET, the next
boundary lies one slot length later, and nothing but the cells and the record link changes (R118, R119). -/
def Obligations.SlotBoundaryShifts : Prop :=
  ∀ (b : Tick) (s : State), s.running = true → s.cells.boundary = some b → atOrAfter s.timebase.counter b = true →
    ∃ t, exec .rateSlotBoundary s = .next t ∧
      t.cells.boundary = some (b + BitVec.ofNat 48 s.cells.slotLength) ∧ t.cells.classes = s.cells.classes ∧
      t.cells.slotLength = s.cells.slotLength ∧
      (∀ n : Fin 1024,
        let c := s.cells.cells[n]
        let slots : Vector Nat 8 :=
          #v[0, c.slots[0], c.slots[1], c.slots[2], c.slots[3], c.slots[4], c.slots[5], c.slots[6]]
        t.cells.cells[n] =
          { c with
            slots := slots
            alarm :=
              if c.alarm = .watch ∧ slots.toList.sum < (s.cells.classes[c.cls].watchRate + 1) / 2 then .quiet
              else c.alarm }) ∧
      t.lanes = s.lanes ∧ t.capture = s.capture ∧ t.tracker = s.tracker ∧ t.detectors = s.detectors ∧
      t.channels = s.channels ∧ t.grouping = s.grouping ∧ t.pulse = s.pulse ∧ t.run = s.run ∧
      t.fireMark = s.fireMark ∧ SameSettings s t

/-- TAIL_END at the expiry: the run state is FROZEN and the tail timer stopped, every detector is OFF, no group is open, every
segment is FREE, and the burst cause and tick are kept (R168, R143). The departure goes in the order of R168: every live detector
enters OFF, an open hit closed with HALT (DeparturesCloseHits), every open group closes with HALTED in the order of the list, the
segments are freed, the FROZEN notice carries cause, B and their number, and the dump starts when D is not 0 and the port is READY
(R57, R89, R143, R144, R168).
That no declaration and no DONE test is made within it (log entry 17), that the channels are taken in ascending number (log entry
27), and that the next write begins at the end of the command (log entry 21), are the model's deduction. -/
def Obligations.TailEndFreezes : Prop :=
  ∀ (x : Tick) (s : State), s.running = true → s.run.state = .tailing → s.run.tailExpiry = some x →
    atOrAfter s.timebase.counter x = true →
    ∃ t, exec .tailEnd s = .next t ∧ t.run = { s.run with state := .frozen, tailExpiry := none } ∧
      (∀ c : Fin 32, t.detectors[c].state = .off) ∧ t.grouping.groups = [] ∧
      (∀ i : Fin 64, t.capture.segments[i] = none) ∧
      (t.capture.dump.isSome = true ∨ s.capture.dumpDepth = 0 ∨ s.capture.port = .failed) ∧
      (let freed := (List.finRange 64).countP (fun i : Fin 64 => decide (s.capture.segments[i] ≠ none))
       let off := (List.finRange 32).foldl (fun u c => detectorOff presentQuietly .halt c u) s
       let shut := off.grouping.groups.foldl (fun u g => closeGroup .halted g u) off
       let frozen := freeSegments (shut.setRun { s.run with state := .frozen, tailExpiry := none })
       t = settleCapture (startDump (notify (.frozen s.run.cause s.run.burstTick freed) frozen)) ∧
       ((∀ (c : Fin 32) (h : OpenHit), s.detectors[c].state ≠ .opened h) → s.grouping.groups = [] →
         s.run.bypass = false → s.link.fill + 2 ≤ 4096 → t.link.own = s.link.own ++ [.notice
           { part := s.run.address, tick := s.timebase.counter,
             body := .frozen s.run.cause s.run.burstTick freed }])) ∧
      (s.capture.dumpDepth ≠ 0 → s.capture.port = .ready → t.capture.dump = some
        { channels := (List.finRange 32).filter (fun c : Fin 32 =>
            (s.sensorMap[c]).isSome && (s.capture.rings[c].ringTick).isSome)
          line := 0, sent := 0, damaged := 0 }) ∧
      t.lanes = s.lanes ∧ SameSettings s t

/-- TALLY_TIMER_EXPIRY: the next expiry lies one interval later; in bypass no record is built and the counts stay; outside
bypass a record that fits is admitted and the counts, the lane tallies and the high-water restart; one that does not fit is
shed and counted (R177, R189, R190). -/
def Obligations.TallyExpiryReports : Prop :=
  ∀ (x : Tick) (s : State), s.running = true → s.link.tallyExpiry = some x →
    atOrAfter s.timebase.counter x = true →
    ∃ t, exec .tallyTimerExpiry s = .next t ∧
      t.link.tallyExpiry = some (x + BitVec.ofNat 48 s.link.tallyInterval) ∧
      (s.run.bypass = true → t.link.counts = s.link.counts ∧ t.link.own = s.link.own ∧ t.lanes = s.lanes) ∧
      (s.run.bypass = false → s.link.fill + 4 ≤ 4096 →
        t.link.own = s.link.own ++ [.tally (tallyRecord s)] ∧ t.link.counts = TallyCounts.zero ∧
        t.link.highWater = s.link.fill + 4 ∧
        ∀ l : Fin 4, t.lanes[l] = { s.lanes[l] with checkTally := 0, skipTally := 0 }) ∧
      (s.run.bypass = false → 4096 < s.link.fill + 4 →
        t.link.own = s.link.own ∧ t.lanes = s.lanes ∧
        t.link.counts = { s.link.counts with shedTally := min 65535 (s.link.counts.shedTally + 1) }) ∧
      t.capture = s.capture ∧ SameMeasuring s t ∧ SameSettings s t

/-! ## Orders -/

/-- The order at the head of the intake is executed by its row and leaves the intake, and exactly one answer, with its tag and
kind, joins the answer queue; RESTART empties that queue first (R171, R179, R186). An answer carries the part address as it stands
when it is built, the reason when the order is refused, the item code and index of a READ or WRITE, and contents only for a READ
that is taken (R179, R192).
That a READ or WRITE too short to name an item carries item code 0 and index 0 is the model's choice (log entry 45). -/
def Obligations.EveryOrderAnsweredOnce : Prop :=
  (∀ (s : State) (e : IntakeEntry) (rest : List IntakeEntry), Serves s e rest →
     let names := (e.order.kind = readKind ∨ e.order.kind = writeKind) ∧ 4 ≤ e.order.args.length
     rowOf e ∈ executionRows ∧ ∃ t a, exec (rowOf e) s = .next t ∧ t.link.intake = rest ∧ a.tag = e.order.tag ∧
       a.kind = e.order.kind ∧ a.part = t.run.address ∧ a.item = (if names then byteAt e.order.args 0 else 0) ∧
       a.index = (if names then fieldAt e.order.args 2 2 else 0) ∧
       (a.contents ≠ [] → e.order.kind = readKind ∧ a.reason = none) ∧
       t.link.answers = (if rowOf e = .restart then [] else s.link.answers) ++ [a]) ∧
  (∀ (o : Order) (reason : Option Reason) (contents : List Byte) (s : State),
     let names := (o.kind = readKind ∨ o.kind = writeKind) ∧ 4 ≤ o.args.length
     placeAnswer o reason contents s = s.setLink
       { s.link with
         answers := s.link.answers ++
           [{ part := s.run.address, tag := o.tag, kind := o.kind, reason := reason,
              item := if names then byteAt o.args 0 else 0, index := if names then fieldAt o.args 2 2 else 0,
              contents := contents }] }) ∧
  (∀ (s t : State) (e : IntakeEntry) (rest : List IntakeEntry) (r : Reason),
     refusedState s e rest r = placeAnswer e.order (some r) [] (s.setLink { s.link with intake := rest }) ∧
     doneState e t = placeAnswer e.order none [] t)

/-- ASSIGN: refused in bypass, out of range, or when the address is no longer 0; otherwise the chain address is set, and the
answer carries it (R185, R186). SYNC: refused in bypass, outside IDLE, during a test, and when its value is missing; a taken
SYNC sets the counter to value + chain latency + the ticks since its frame arrived, modulo 2^48, makes the timebase SET, and
starts the tally timer afresh from that tick (R23, R24, R189).
That an ASSIGN out of range is refused with RANGE also where the address is no longer 0 (log entry 47), where missing arguments
are tested among the other conditions (log entry 29), and the uptime by which the ticks since the arrival are counted (log
entry 5), are the model's choice. -/
def Obligations.AssignAndSyncSet : Prop :=
  (∀ (s : State) (e : IntakeEntry) (rest : List IntakeEntry), Serves s e rest → TakenAs assignKind e →
     exec .assign s = .next
       (if s.run.bypass = true then refusedState s e rest .state
        else if e.order.args.length < 1 ∨ fieldAt e.order.args 0 1 = 0 ∨ 15 < fieldAt e.order.args 0 1 then
         refusedState s e rest .range
        else if s.run.address ≠ 0 then refusedState s e rest .state
        else doneState e ((s.headTaken rest).setRun { s.run with address := fieldAt e.order.args 0 1 }))) ∧
  (∀ (s : State) (e : IntakeEntry) (rest : List IntakeEntry), Serves s e rest → TakenAs syncKind e →
     exec .sync s = .next
       (if s.run.bypass = true ∨ s.run.state ≠ .idle then refusedState s e rest .state
        else if s.pulse.test.inFlight = true then refusedState s e rest .busy
        else if e.order.args.length < 6 then refusedState s e rest .range
        else
         let n : Tick := BitVec.ofNat 48
           (fieldAt e.order.args 0 6 + s.timebase.chainLatency + (s.timebase.uptime - e.arrived))
         doneState e (((s.headTaken rest).setTimebase { s.timebase with counter := n, set := true }).setLink
           { (s.headTaken rest).link with tallyExpiry := some (n + BitVec.ofNat 48 s.link.tallyInterval) })))

/-- READ: an item or index that does not exist is refused with NO-ITEM; otherwise the answer carries the item's contents as they
stand, in every run state and in bypass, and nothing else changes (R187, R194). The orders that have no effect but their
refusal: a WRITE that names an unknown item or a nonexistent index (NO-ITEM), a WRITE of PART-STATUS (READONLY, or STATE in
bypass), an order marked UNCLAIMED (UNCLAIMED), and one of an unknown kind (RANGE, or STATE in bypass) (R186, R187). The
contents of every item, byte by byte (R21, R25, R27, R38, R46, R47, R50, R78, R97, R111 to R113, R128, R159, R188, R189, R194);
the codes of the timebase state, of the bypass setting, of the capture mode and of an absent P are the model's deduction (log
entry 35).
Where missing arguments are tested among the other conditions is the model's choice (log entry 29). -/
def Obligations.ReadsAnsweredOthersRefused : Prop :=
  (∀ (s : State) (e : IntakeEntry) (rest : List IntakeEntry), Serves s e rest → TakenAs readKind e →
     exec .read s = .next
       (if e.order.args.length < 4 then refusedState s e rest .range
        else if noItem e.order.item e.order.index = true then refusedState s e rest .noItem
        else placeAnswer e.order none (itemContents s e.order.item e.order.index) (s.headTaken rest))) ∧
  (∀ (s : State) (e : IntakeEntry) (rest : List IntakeEntry), Serves s e rest →
     (TakenAs writeKind e → 4 ≤ e.order.args.length → noItem e.order.item e.order.index = true →
       exec .write s = .next (refusedState s e rest .noItem)) ∧
     (TakenAs writeKind e → 4 ≤ e.order.args.length → e.order.item = 16 → e.order.index = 0 →
       exec .write s = .next (refusedState s e rest (if s.run.bypass then .state else .readonly))) ∧
     (TakenAs writeKind e → e.order.args.length < 4 →
       exec .write s = .next (refusedState s e rest (if s.run.bypass then .state else .range))) ∧
     (e.take = false → exec .unclaimed s = .next (refusedState s e rest .unclaimed)) ∧
     (e.take = true → e.order.kind.toNat = 0 ∨ 14 < e.order.kind.toNat →
       exec .unknownOrder s = .next (refusedState s e rest (if s.run.bypass then .state else .range)))) ∧
  (∀ s : State,
     let flag := fun (b : Bool) => be 1 (if b then 1 else 0)
     let cellNo := fun (v : Option (Fin 1024)) => be 2 ((v.map Fin.val).getD 65535)
     (∀ (c : Fin 32) (b : Fin 4),
       let x := s.channels[c]
       let k := x.banks[b]
       itemContents s bankItem (c.val * 4 + b.val) =
         be 2 k.threshold ++ be 2 k.riseWindow ++ be 2 k.quietSpan ++ be 2 k.rearmSpan ++ be 3 k.durationLimit ++
           be 1 x.active.val ++ be 1 x.pending.val ++ flag x.follow ∧
       itemContents s captureItem c.val = flag x.captureOn ++ be 1 x.preLines ++ be 1 x.postLines ∧
       itemContents s sensorItem c.val =
         be 1 (((s.sensorMap[c]).map Fin.val).getD 255) ++ cellNo x.homeCell) ∧
     itemContents s phaseMapItem 0 = be 1 s.phaseMap[0].val ++ be 1 s.phaseMap[1].val ++ be 1 s.phaseMap[2].val ++
       be 1 s.phaseMap[3].val ++ be 1 s.phaseMap[4].val ++ be 1 s.phaseMap[5].val ∧
     itemContents s headerItem 0 =
       be 2 s.grouping.window ++ be 3 s.grouping.holdLimit ++ be 1 s.grouping.minMembers ∧
     (∀ i : Fin 512, itemContents s pairItem i.val = match s.pairs[i] with
       | none => [255, 255, 0, 0, 0] ++ List.replicate 64 255
       | some e => be 1 e.first.val ++ be 1 e.second.val ++ be 2 e.binWidth ++ be 1 e.binCount ++
         (List.range 32).flatMap (fun k => cellNo (e.cells.getD k none))) ∧
     (∀ n : Fin 1024,
       let c := s.cells.cells[n]
       itemContents s cellItem n.val = be 1 c.cls.val ++ be 4 c.events ++ be 6 c.energy ++ be 2 c.holdCount ++
         be 2 c.reloadCount ++ c.slots.toList.flatMap (be 2) ++
         (match c.alarm with
         | .quiet => [0, 255]
         | .watch => [1, 255]
         | .alarm .hold => [2, 0]
         | .alarm .reload => [2, 1]
         | .alarm .energy => [2, 2] : List Byte)) ∧
     (∀ k : Fin 8,
       let x := s.cells.classes[k]
       itemContents s classItem k.val =
         be 2 x.watchRate ++ be 2 x.holdLimit ++ be 2 x.reloadLimit ++ be 6 x.energyLimit) ∧
     itemContents s rateSlotItem 0 = be 4 s.cells.slotLength ∧
     (let p := s.tracker.params
      itemContents s trackerItem 0 = be 2 p.startLevel ++ be 2 p.rampThreshold ++ be 2 p.fallThreshold ++
        be 1 p.holdEntryCount ++ be 2 p.reloadMargin ++ be 1 p.slopeWindow ++ be 2 p.dropLimit ++
        be 1 p.dropWindow ++ be 1 p.satCount ++ be 2 p.satWindow) ∧
     itemContents s setupItem 0 =
       be 4 s.capture.memoryLines ++ be 2 s.capture.ringLines ++ be 2 s.capture.dumpDepth ∧
     (∀ l : Fin 4,
       let x := s.lanes[l]
       itemContents s laneItem l.val =
         be 1 (match x.role with | .pod => 0 | .gauge => 1 | .off => 2) ++
         be 1 (match x.state with | .off => 0 | .down => 1 | .aligning => 2 | .up => 3) ++ be 2 x.latency ++
         be 2 x.checkTally ++ be 2 x.skipTally) ∧
     itemContents s tailSpanItem 0 = be 3 s.run.tailSpan ∧
     itemContents s chainLatencyItem 0 = be 2 s.timebase.chainLatency ∧
     itemContents s tallyIntervalItem 0 = be 4 s.link.tallyInterval ∧
     itemContents s statusItem 0 =
       be 1 (match s.run.state with | .idle => 0 | .run => 1 | .tailing => 2 | .frozen => 3) ++ flag s.run.bypass ++
       be 1 s.run.address ++ flag (!s.timebase.set) ++ be 6 s.timebase.counter.toNat ++
       be 1 (match s.tracker.phase with
         | .below => 0 | .ramp => 1 | .hold => 2 | .fall => 3 | .reload => 4 | .nogauge => 5) ++
       be 2 (s.tracker.pressure.getD 65535) ++ be 2 s.tracker.pmax ++
       flag (decide (s.capture.port = .failed)) ++ flag (decide (s.link.near.state = .up)) ++
       flag (decide (s.link.far.state = .up)) ++ be 1 s.grouping.groups.length ++
       be 1 ((List.finRange 64).countP (fun i : Fin 64 => decide (s.capture.segments[i] = none))) ++
       be 2 s.link.fill ++ be 1 s.link.passFill)

/-- WRITE of CHANNEL-BANK: the refusals of R52 in their order, then all five fields of the bank are replaced. WRITE of
CHANNEL-CAPTURE: the refusals of R52 in their order, the line counts tested against half the ring lines, then all three fields
are replaced (R38 to R40, R47, R52). WRITE of CAPTURE-SETUP: the refusals of R128 in their order; a taken WRITE replaces the three
values and resets every ring (R128, R129).
Where missing arguments are tested among the other conditions is the model's choice (log entry 29). -/
def Obligations.ChannelItemsAndCaptureSetupWritten : Prop :=
  (∀ (s : State) (e : IntakeEntry) (rest : List IntakeEntry), Serves s e rest → WritesItem bankItem e →
     (128 ≤ e.order.index → exec .channelBankWrite s = .next (refusedState s e rest .noItem)) ∧
     (∀ (c : Fin 32) (b : Fin 4), e.order.index = c.val * 4 + b.val →
       let l := e.order.contents
       let k : Bank :=
         { threshold := fieldAt l 0 2, riseWindow := fieldAt l 2 2, quietSpan := fieldAt l 4 2,
           rearmSpan := fieldAt l 6 2, durationLimit := fieldAt l 8 3 }
       exec .channelBankWrite s = .next
         (if s.run.bypass = true then refusedState s e rest .state
          else if namesReadOnly l 11 3 = true then refusedState s e rest .readonly
          else if s.channels[c].active = b ∧ (s.run.state = .run ∨ s.run.state = .tailing ∨
             (s.run.state = .idle ∧ s.pulse.test ≠ .none)) then refusedState s e rest .inUse
          else if e.order.args.length < 18 ∨ k.threshold < 1 ∨ 32767 < k.threshold ∨ k.riseWindow < 1 ∨
             k.quietSpan < 1 ∨ k.durationLimit < 16 ∨ 1048575 < k.durationLimit then refusedState s e rest .range
          else doneState e ((s.headTaken rest).setChannel c
             { s.channels[c] with banks := put s.channels[c].banks b k })))) ∧
  (∀ (s : State) (e : IntakeEntry) (rest : List IntakeEntry), Serves s e rest → WritesItem captureItem e →
     (32 ≤ e.order.index → exec .channelCaptureWrite s = .next (refusedState s e rest .noItem)) ∧
     (∀ c : Fin 32, e.order.index = c.val →
       let l := e.order.contents
       exec .channelCaptureWrite s = .next
         (if s.run.bypass = true ∨ s.run.state ≠ .idle then refusedState s e rest .state
          else if e.order.args.length < 7 ∨ 1 < fieldAt l 0 1 ∨ 63 < fieldAt l 1 1 ∨
             s.capture.ringLines / 2 < fieldAt l 1 1 + fieldAt l 2 1 + 1 then refusedState s e rest .range
          else doneState e ((s.headTaken rest).setChannel c
             { s.channels[c] with
               captureOn := decide (fieldAt l 0 1 = 1), preLines := fieldAt l 1 1, postLines := fieldAt l 2 1 })))) ∧
  (∀ (s : State) (e : IntakeEntry) (rest : List IntakeEntry), Serves s e rest → WritesItem setupItem e →
     let l := e.order.contents
     let m := fieldAt l 0 4
     let r := fieldAt l 4 2
     let d := fieldAt l 6 2
     let writing := s.capture.queue ≠ [] ∨ ∃ w n, s.capture.access = some { op := .write w, started := n }
     let power := r = 256 ∨ r = 512 ∨ r = 1024 ∨ r = 2048 ∨ r = 4096 ∨ r = 8192 ∨ r = 16384
     let inRange := 12 ≤ e.order.args.length ∧ 65536 ≤ m ∧ m ≤ 16777216 ∧ power ∧ 32 * r ≤ m ∧ d ≤ r
     let fits := ∀ c : Fin 32, s.channels[c].preLines + s.channels[c].postLines + 1 ≤ r / 2
     let busy := (∃ i : Fin 64, s.capture.segments[i] ≠ none) ∨ writing
     (e.order.index ≠ 0 → exec .captureSetupWrite s = .next (refusedState s e rest .noItem)) ∧
     (e.order.index = 0 →
       (s.run.bypass = true ∨ s.run.state ≠ .idle →
         exec .captureSetupWrite s = .next (refusedState s e rest .state)) ∧
       (s.run.bypass = false → s.run.state = .idle →
         (busy → exec .captureSetupWrite s = .next (refusedState s e rest .busy)) ∧
         (¬ busy →
           (¬ inRange ∨ ¬ fits → exec .captureSetupWrite s = .next (refusedState s e rest .range)) ∧
           (inRange → fits → ∃ t, exec .captureSetupWrite s = .next (doneState e t) ∧
             t.capture.memoryLines = m ∧ t.capture.ringLines = r ∧ t.capture.dumpDepth = d ∧
             (∀ c : Fin 32, t.capture.rings[c].writePos = 0 ∧ t.capture.rings[c].ringTick = none ∧
               t.capture.rings[c].marks = List.replicate r .void) ∧
             t.capture.memory = s.capture.memory ∧ t.capture.segments = s.capture.segments ∧
             t = (s.headTaken rest).setCapture t.capture)))))

/-- WRITE of SENSOR-MAP: the refusals of R52 in their order; a taken WRITE replaces the channel's sensor and home cell, and
reaches no other channel's (R50, R52). WRITE of PHASE-MAP: in every run state, refused when an entry lies outside 0 to 3; a taken
WRITE replaces all six entries, and every follow channel takes the new entry for the present phase as its pending bank, and as
its active bank while its detector is QUIET or OFF (R41, R46, R52).
Where missing arguments are tested among the other conditions is the model's choice (log entry 29). -/
def Obligations.SensorAndPhaseMapsWritten : Prop :=
  (∀ (s : State) (e : IntakeEntry) (rest : List IntakeEntry), Serves s e rest → WritesItem sensorItem e →
     (32 ≤ e.order.index → exec .sensorMapWrite s = .next (refusedState s e rest .noItem)) ∧
     (∀ c : Fin 32, e.order.index = c.val →
       let l := e.order.contents
       let short := e.order.args.length < 7
       let badSensor := 32 ≤ fieldAt l 0 1 ∧ fieldAt l 0 1 ≠ 255
       let badCell := 1024 ≤ fieldAt l 1 2 ∧ fieldAt l 1 2 ≠ 65535
       let taken := ∃ d : Fin 32, d ≠ c ∧ ∃ n : Fin 32, n.val = fieldAt l 0 1 ∧ s.sensorMap[d] = some n
       (s.run.bypass = true ∨ s.run.state ≠ .idle → exec .sensorMapWrite s = .next (refusedState s e rest .state)) ∧
       (s.run.bypass = false → s.run.state = .idle →
         (s.pulse.test ≠ .none → exec .sensorMapWrite s = .next (refusedState s e rest .busy)) ∧
         (s.pulse.test = .none →
           (short ∨ badSensor ∨ badCell → exec .sensorMapWrite s = .next (refusedState s e rest .range)) ∧
           (¬ short → ¬ badSensor → ¬ badCell →
             (taken → exec .sensorMapWrite s = .next (refusedState s e rest .duplicate)) ∧
             (¬ taken → ∃ t, exec .sensorMapWrite s = .next (doneState e t) ∧
               (t.sensorMap[c]).map Fin.val = (if fieldAt l 0 1 = 255 then none else some (fieldAt l 0 1)) ∧
               (t.channels[c].homeCell).map Fin.val =
                 (if fieldAt l 1 2 = 65535 then none else some (fieldAt l 1 2)) ∧
               (∀ d : Fin 32, d ≠ c → t.sensorMap[d] = s.sensorMap[d] ∧ t.channels[d] = s.channels[d] ∧
                 t.detectors[d] = s.detectors[d]) ∧
               t.detectors[c].state = s.detectors[c].state ∧
               { t.channels[c] with homeCell := s.channels[c].homeCell } = s.channels[c] ∧
               t.link = (s.headTaken rest).link ∧ t.lanes = s.lanes ∧ t.capture = s.capture ∧ t.pairs = s.pairs ∧
               t.run = s.run ∧ t.tracker = s.tracker ∧ t.cells = s.cells ∧ t.timebase = s.timebase)))))) ∧
  (∀ (s : State) (e : IntakeEntry) (rest : List IntakeEntry), Serves s e rest → WritesItem phaseMapItem e →
     let l := e.order.contents
     (e.order.index ≠ 0 → exec .phaseMapWrite s = .next (refusedState s e rest .noItem)) ∧
     (e.order.index = 0 → s.run.bypass = true → exec .phaseMapWrite s = .next (refusedState s e rest .state)) ∧
     (e.order.index = 0 → s.run.bypass = false →
       (e.order.args.length < 10 ∨ (∃ i : Fin 6, 3 < fieldAt l i.val 1) →
         exec .phaseMapWrite s = .next (refusedState s e rest .range)) ∧
       (10 ≤ e.order.args.length → (∀ i : Fin 6, fieldAt l i.val 1 ≤ 3) →
         ∃ t, exec .phaseMapWrite s = .next (doneState e t) ∧
           (∀ i : Fin 6, (t.phaseMap[i]).val = fieldAt l i.val 1) ∧
           (∀ c : Fin 32, t.channels[c] =
             let b := t.phaseMap[s.tracker.phase.index]
             if s.channels[c].follow then
               { s.channels[c] with
                 pending := b
                 active := if s.detectors[c].state.mayswitch then b else s.channels[c].active }
             else s.channels[c]) ∧
           t = ((s.headTaken rest).setPhaseMap t.phaseMap).setChannels t.channels)))

/-- WRITE of PAIR: the refusals of R98 in their order; a taken WRITE frees the slot, or gives it the written entry with exactly
bin count positions, and changes no other slot (R98, R99). -/
def Obligations.PairWriteReplacesSlot : Prop :=
  ∀ (s : State) (e : IntakeEntry) (rest : List IntakeEntry), Serves s e rest → WritesItem pairItem e →
    73 ≤ e.order.args.length →
    let l := e.order.contents
    (512 ≤ e.order.index → exec .pairWrite s = .next (refusedState s e rest .noItem)) ∧
    (∀ i : Fin 512, e.order.index = i.val →
      (s.run.bypass = true ∨ s.run.state ≠ .idle → exec .pairWrite s = .next (refusedState s e rest .state)) ∧
      (s.run.bypass = false → s.run.state = .idle →
        (fieldAt l 0 1 = 255 → fieldAt l 1 1 = 255 →
          exec .pairWrite s = .next (doneState e ((s.headTaken rest).setPairs (put s.pairs i none)))) ∧
        (¬ (fieldAt l 0 1 = 255 ∧ fieldAt l 1 1 = 255) →
          let bad := 32 ≤ fieldAt l 0 1 ∨ 32 ≤ fieldAt l 1 1 ∨ fieldAt l 0 1 = fieldAt l 1 1 ∨ fieldAt l 2 2 < 1 ∨
            4096 < fieldAt l 2 2 ∨ fieldAt l 4 1 < 1 ∨ 32 < fieldAt l 4 1 ∨
            ∃ k : Nat, k < fieldAt l 4 1 ∧ 1024 ≤ fieldAt l (5 + 2 * k) 2 ∧ fieldAt l (5 + 2 * k) 2 ≠ 65535
          (bad → exec .pairWrite s = .next (refusedState s e rest .range)) ∧
          (¬ bad → ∀ f n : Fin 32, f.val = fieldAt l 0 1 → n.val = fieldAt l 1 1 →
            ((∃ j : Fin 512, j ≠ i ∧ ∃ y, s.pairs[j] = some y ∧ y.first = f ∧ y.second = n) →
              exec .pairWrite s = .next (refusedState s e rest .duplicate)) ∧
            ((∀ j : Fin 512, j ≠ i → ∀ y, s.pairs[j] = some y → ¬ (y.first = f ∧ y.second = n)) →
              ∃ cells : List (Option (Fin 1024)),
                exec .pairWrite s = .next (doneState e ((s.headTaken rest).setPairs (put s.pairs i (some
                  { first := f, second := n, binWidth := fieldAt l 2 2, binCount := fieldAt l 4 1,
                    cells := cells })))) ∧
                cells.length = fieldAt l 4 1 ∧
                ∀ (k : Nat) (v : Option (Fin 1024)), cells[k]? = some v →
                  v.map Fin.val =
                    (if fieldAt l (5 + 2 * k) 2 = 65535 then none else some (fieldAt l (5 + 2 * k) 2)))))))

/-- WRITE of CELL: NO-ITEM, STATE in bypass, READONLY, STATE, RANGE in that order; a taken WRITE changes the cell's class alone
(R111). WRITE of LANE: NO-ITEM, STATE in bypass, READONLY, STATE, BUSY, RANGE in that order; a taken WRITE changes the latency
alone (R21).
Where missing arguments are tested among the other conditions is the model's choice (log entry 29). -/
def Obligations.CellAndLaneWritten : Prop :=
  (∀ (s : State) (e : IntakeEntry) (rest : List IntakeEntry), Serves s e rest → WritesItem cellItem e →
     let l := e.order.contents
     (1024 ≤ e.order.index → exec .cellWrite s = .next (refusedState s e rest .noItem)) ∧
     (∀ n : Fin 1024, e.order.index = n.val →
       (s.run.bypass = true → exec .cellWrite s = .next (refusedState s e rest .state)) ∧
       (s.run.bypass = false → namesReadOnly l 1 32 = true →
         exec .cellWrite s = .next (refusedState s e rest .readonly)) ∧
       (s.run.bypass = false → namesReadOnly l 1 32 = false → s.run.state ≠ .idle →
         exec .cellWrite s = .next (refusedState s e rest .state)) ∧
       (s.run.bypass = false → namesReadOnly l 1 32 = false → s.run.state = .idle →
         (e.order.args.length < 37 ∨ 7 < fieldAt l 0 1 → exec .cellWrite s = .next (refusedState s e rest .range)) ∧
         (37 ≤ e.order.args.length → ∀ k : Fin 8, k.val = fieldAt l 0 1 →
           exec .cellWrite s = .next
             (doneState e ((s.headTaken rest).setCell n { s.cells.cells[n] with cls := k })))))) ∧
  (∀ (s : State) (e : IntakeEntry) (rest : List IntakeEntry), Serves s e rest → WritesItem laneItem e →
     let l := e.order.contents
     (4 ≤ e.order.index → exec .laneWrite s = .next (refusedState s e rest .noItem)) ∧
     (∀ k : Fin 4, e.order.index = k.val → exec .laneWrite s = .next
       (if s.run.bypass = true then refusedState s e rest .state
        else if namesReadOnly l 0 2 = true ∨ namesReadOnly l 4 4 = true then refusedState s e rest .readonly
        else if s.run.state ≠ .idle then refusedState s e rest .state
        else if s.pulse.test.inFlight = true then refusedState s e rest .busy
        else if e.order.args.length < 12 ∨ 4095 < fieldAt l 2 2 then refusedState s e rest .range
        else doneState e ((s.headTaken rest).setLane k { s.lanes[k] with latency := fieldAt l 2 2 }))))

/-- The items that are one list of settings: LOCATION-HEADER, TAIL-SPAN, CHAIN-LATENCY, TRACKER and CLASS in IDLE,
TALLY-INTERVAL in every run state. Each is refused with NO-ITEM for an index that does not exist, with STATE in bypass and, but
for TALLY-INTERVAL, outside IDLE, and with RANGE when a field is missing or out of its range; otherwise its fields, and nothing
else, are replaced. A WRITE of RATE-SLOT or PAIR, or a BYPASS, with a field missing is refused likewise (R25, R27, R78, R112,
R159, R189, R194). That a missing field is tested where the range is tested is the model's choice (log entry 29). -/
def Obligations.SettingsWritten : Prop :=
  (∀ (s : State) (e : IntakeEntry) (rest : List IntakeEntry), Serves s e rest →
     let l := e.order.contents
     let closed := s.run.bypass = true ∨ s.run.state ≠ .idle
     (WritesItem headerItem e → exec .locationHeaderWrite s = .next
       (if e.order.index ≠ 0 then refusedState s e rest .noItem
        else if closed then refusedState s e rest .state
        else if e.order.args.length < 10 ∨ fieldAt l 0 2 = 0 ∨ 1048575 < fieldAt l 2 3 ∨ fieldAt l 5 1 < 2 ∨
           4 < fieldAt l 5 1 then refusedState s e rest .range
        else doneState e ((s.headTaken rest).setGrouping
           { s.grouping with window := fieldAt l 0 2, holdLimit := fieldAt l 2 3, minMembers := fieldAt l 5 1 }))) ∧
     (WritesItem tailSpanItem e → exec .tailSpanWrite s = .next
       (if e.order.index ≠ 0 then refusedState s e rest .noItem
        else if closed then refusedState s e rest .state
        else if e.order.args.length < 7 ∨ 5000000 < fieldAt l 0 3 then refusedState s e rest .range
        else doneState e ((s.headTaken rest).setRun { s.run with tailSpan := fieldAt l 0 3 }))) ∧
     (WritesItem chainLatencyItem e → exec .chainLatencyWrite s = .next
       (if e.order.index ≠ 0 then refusedState s e rest .noItem
        else if closed then refusedState s e rest .state
        else if e.order.args.length < 6 then refusedState s e rest .range
        else doneState e ((s.headTaken rest).setTimebase { s.timebase with chainLatency := fieldAt l 0 2 }))) ∧
     (WritesItem trackerItem e → exec .trackerWrite s = .next
       (if e.order.index ≠ 0 then refusedState s e rest .noItem
        else if closed then refusedState s e rest .state
        else if e.order.args.length < 20 ∨ fieldAt l 2 2 = 0 ∨ fieldAt l 4 2 = 0 ∨ fieldAt l 6 1 = 0 ∨
           fieldAt l 9 1 < 2 ∨ 64 < fieldAt l 9 1 ∨ fieldAt l 10 2 = 0 ∨ fieldAt l 12 1 < 2 ∨ 64 < fieldAt l 12 1 ∨
           fieldAt l 13 1 < 2 ∨ 32 < fieldAt l 13 1 ∨ fieldAt l 14 2 = 0 then refusedState s e rest .range
        else doneState e ((s.headTaken rest).setTracker
           { s.tracker with
             params :=
               { startLevel := fieldAt l 0 2, rampThreshold := fieldAt l 2 2, fallThreshold := fieldAt l 4 2,
                 holdEntryCount := fieldAt l 6 1, reloadMargin := fieldAt l 7 2, slopeWindow := fieldAt l 9 1,
                 dropLimit := fieldAt l 10 2, dropWindow := fieldAt l 12 1, satCount := fieldAt l 13 1,
                 satWindow := fieldAt l 14 2 } })))) ∧
  (∀ (s : State) (e : IntakeEntry) (rest : List IntakeEntry), Serves s e rest →
     let l := e.order.contents
     let closed := s.run.bypass = true ∨ s.run.state ≠ .idle
     (WritesItem classItem e →
       (8 ≤ e.order.index → exec .classWrite s = .next (refusedState s e rest .noItem)) ∧
       ∀ k : Fin 8, e.order.index = k.val → exec .classWrite s = .next
         (if closed then refusedState s e rest .state
          else if e.order.args.length < 16 then refusedState s e rest .range
          else doneState e ((s.headTaken rest).setCells
             { s.cells with
               classes := put s.cells.classes k
                 { watchRate := fieldAt l 0 2, holdLimit := fieldAt l 2 2, reloadLimit := fieldAt l 4 2,
                   energyLimit := fieldAt l 6 6 } }))) ∧
     (WritesItem tallyIntervalItem e → exec .tallyIntervalWrite s = .next
       (if e.order.index ≠ 0 then refusedState s e rest .noItem
        else if s.run.bypass = true then refusedState s e rest .state
        else if e.order.args.length < 8 ∨ fieldAt l 0 4 < 5000000 ∨ 250000000 < fieldAt l 0 4 then
         refusedState s e rest .range
        else doneState e ((s.headTaken rest).setLink
           { (s.headTaken rest).link with tallyInterval := fieldAt l 0 4 })))) ∧
  (∀ (s : State) (e : IntakeEntry) (rest : List IntakeEntry), Serves s e rest →
     let closed := s.run.bypass = true ∨ s.run.state ≠ .idle
     (WritesItem rateSlotItem e → e.order.args.length < 8 → exec .rateSlotWrite s = .next
       (if e.order.index ≠ 0 then refusedState s e rest .noItem
        else refusedState s e rest (if closed then .state else .range))) ∧
     (WritesItem pairItem e → e.order.args.length < 73 → exec .pairWrite s = .next
       (if 512 ≤ e.order.index then refusedState s e rest .noItem
        else refusedState s e rest (if closed then .state else .range))) ∧
     (TakenAs bypassKind e → e.order.args.length < 1 → exec .bypassOn s = .next
       (refusedState s e rest (if s.run.bypass = true then .state else .range))))

/-- The item RATE-SLOT: a READ is taken in every run state and in bypass and returns the rate slot length; a WRITE is refused
with STATE in bypass, with STATE outside IDLE, and with RANGE outside 500,000 to 50,000,000; a taken WRITE is answered OK,
changes the length alone, and a START taken later sets its first boundary by the length as it then stands, as each boundary
does the next (R113). -/
def Obligations.RateSlotItem : Prop :=
  ∀ (s : State) (e : IntakeEntry) (rest : List IntakeEntry), Serves s e rest →
    (WritesItem rateSlotItem e → 8 ≤ e.order.args.length → exec .rateSlotWrite s = .next
      (if e.order.index ≠ 0 then refusedState s e rest .noItem
       else if s.run.bypass = true then refusedState s e rest .state
       else if s.run.state ≠ .idle then refusedState s e rest .state
       else if fieldAt e.order.contents 0 4 < 500000 ∨
          50000000 < fieldAt e.order.contents 0 4 then refusedState s e rest .range
       else doneState e
        ((s.headTaken rest).setCells { s.cells with slotLength := fieldAt e.order.contents 0 4 }))) ∧
    (TakenAs readKind e → 4 ≤ e.order.args.length → e.order.item = rateSlotItem → e.order.index = 0 →
      exec .read s = .next (placeAnswer e.order none (be 4 s.cells.slotLength) (s.headTaken rest))) ∧
    (TakenAs startKind e → s.run.bypass = false → s.run.state = .idle → s.timebase.set = true →
      (∃ c : Fin 32, s.sensorMap[c] ≠ none) → (∀ i n, s.pulse.test ≠ .waiting i n) →
      ∃ t, exec .start s = .next t ∧
        t.cells.boundary = some (s.timebase.counter + BitVec.ofNat 48 s.cells.slotLength) ∧
        t.cells.slotLength = s.cells.slotLength) ∧
    (∀ b, s.cells.boundary = some b → atOrAfter s.timebase.counter b = true →
      ∃ t, exec .rateSlotBoundary s = .next t ∧
        t.cells.boundary = some (b + BitVec.ofNat 48 s.cells.slotLength))

/-- SELECT-BANK with a bank number and with FOLLOW: the channels named in the mask clear or set their follow flag and take the
bank, or the map's entry for the present phase, as pending bank, and as active bank while their detector is QUIET or OFF; the
other channels and blocks are as they were (R41, R43, R44, R52).
Where missing arguments are tested among the other conditions is the model's choice (log entry 29). -/
def Obligations.SelectBankSetsPending : Prop :=
  ∀ (s : State) (e : IntakeEntry) (rest : List IntakeEntry), Serves s e rest → TakenAs selectBankKind e →
    let mask := fieldAt e.order.args 0 4
    let bank := fieldAt e.order.args 4 1
    (s.run.bypass = true → bank ≠ 255 → exec .selectBank s = .next (refusedState s e rest .state)) ∧
    (s.run.bypass = true → bank = 255 → exec .selectBankFollow s = .next (refusedState s e rest .state)) ∧
    (s.run.bypass = false → bank ≠ 255 → (e.order.args.length < 5 ∨ 3 < bank) →
      exec .selectBank s = .next (refusedState s e rest .range)) ∧
    (s.run.bypass = false → 5 ≤ e.order.args.length → ∀ b : Fin 4, b.val = bank →
      ∃ t, exec .selectBank s = .next (doneState e t) ∧ t = (s.headTaken rest).setChannels t.channels ∧
        ∀ c : Fin 32, t.channels[c] =
          if mask.testBit c.val then
            { s.channels[c] with
              follow := false, pending := b
              active := if s.detectors[c].state.mayswitch then b else s.channels[c].active }
          else s.channels[c]) ∧
    (s.run.bypass = false → bank = 255 →
      ∃ t, exec .selectBankFollow s = .next (doneState e t) ∧ t = (s.headTaken rest).setChannels t.channels ∧
        ∀ c : Fin 32, t.channels[c] =
          let b := s.phaseMap[s.tracker.phase.index]
          if mask.testBit c.val then
            { s.channels[c] with
              follow := true, pending := b
              active := if s.detectors[c].state.mayswitch then b else s.channels[c].active }
          else s.channels[c])

/-- SET-ROLE: refused in bypass, for a lane or role that does not exist, and for a second GAUGE lane; a taken SET-ROLE resets
the lane in its new role, keeps its latency, leaves the other lanes alone, takes the channels of a POD lane that was UP out of
the live set, and puts the tracker in NOGAUGE when the lane was the GAUGE lane (R3 to R6, R28). Its ROLE notice comes first, then
the departure of its channels (DeparturesCloseHits) or the entry into NOGAUGE, and then the SIGNAL notice of a lane that aligns
again (R4, R5, R19). That order is the model's deduction (log entry 27), as is when the capture unit is served (log entry 21).
Where missing arguments are tested among the other conditions is the model's choice (log entry 29). -/
def Obligations.SetRoleResetsLane : Prop :=
  ∀ (s : State) (e : IntakeEntry) (rest : List IntakeEntry), Serves s e rest → TakenAs setRoleKind e →
    (s.run.bypass = true → exec .setRole s = .next (refusedState s e rest .state)) ∧
    (s.run.bypass = false →
      (e.order.args.length < 2 ∨ 3 < fieldAt e.order.args 0 1 ∨ 2 < fieldAt e.order.args 1 1 →
        exec .setRole s = .next (refusedState s e rest .range)) ∧
      (2 ≤ e.order.args.length → ∀ (l : Fin 4) (r : LaneRole), l.val = fieldAt e.order.args 0 1 →
        roleOf (fieldAt e.order.args 1 1) = some r →
        ((r = .gauge ∧ ∃ k : Fin 4, k ≠ l ∧ s.lanes[k].role = .gauge) →
          exec .setRole s = .next (refusedState s e rest .conflict)) ∧
        (¬ (r = .gauge ∧ ∃ k : Fin 4, k ≠ l ∧ s.lanes[k].role = .gauge) →
          ∃ t, exec .setRole s = .next (doneState e t) ∧
            (∀ k : Fin 4, k ≠ l → t.lanes[k] = s.lanes[k]) ∧
            t.lanes[l] =
              { role := r, latency := s.lanes[l].latency, signal := s.lanes[l].signal, alignCount := 0,
                prevSeq := none, expSeq := none, expTick := none, failures := 0, checkTally := 0, skipTally := 0,
                state := if r = .off then .off else if s.lanes[l].signal then .aligning else .down } ∧
            (s.lanes[l].role = .gauge → t.tracker.phase = .nogauge ∧ t.tracker.pressure = none) ∧
            (s.lanes[l].role = .pod → ∀ j : Fin 8,
              t.detectors[channelOf l j].state = .off ∧ t.detectors[channelOf l j].horizon = none) ∧
            (let state := if r = .off then LaneState.off else .down
             let u := notify (.lane l s.lanes[l].state state .role) ((s.headTaken rest).setLane l
               { role := r, latency := s.lanes[l].latency, signal := s.lanes[l].signal, alignCount := 0,
                 prevSeq := none, expSeq := none, expTick := none, failures := 0, checkTally := 0, skipTally := 0,
                 state := state })
             t = settleCapture (tryAlign l (match s.lanes[l].role with
               | .pod => podLost l u
               | .gauge => gaugeGone u
               | .off => u))) ∧
            SameSettings s t)))

/-- START: the refusals of R160 in their order. A taken START enters RUN: rings reset, cells zeroed and QUIET, group counter 0
and last closed anchor absent, burst armed with Pmax from P, cause and B absent, the first slot boundary one slot length away,
and the detectors of mapped channels on UP POD lanes live, QUIET when they were OFF (R55, R160, R161). Every SEALED or READING
segment left over is FREE, and its closing record, flagged LOST and END, is offered (R143).
That one with no unread line left is ended so too is the model's deduction (log entry 23). -/
def Obligations.StartEntersRun : Prop :=
  (∀ (s : State) (e : IntakeEntry) (rest : List IntakeEntry), Serves s e rest → TakenAs startKind e →
     (s.run.bypass = true ∨ s.run.state ≠ .idle → exec .start s = .next (refusedState s e rest .state)) ∧
     (s.run.bypass = false → s.run.state = .idle →
       (s.timebase.set = false → exec .start s = .next (refusedState s e rest .time)) ∧
       (s.timebase.set = true →
         ((∀ c : Fin 32, s.sensorMap[c] = none) → exec .start s = .next (refusedState s e rest .nosensor)) ∧
         ((∃ c : Fin 32, s.sensorMap[c] ≠ none) → ∀ i n, s.pulse.test = .waiting i n →
           exec .start s = .next (refusedState s e rest .busy))))) ∧
  (∀ (s : State) (e : IntakeEntry) (rest : List IntakeEntry), Serves s e rest → TakenAs startKind e →
     s.run.bypass = false → s.run.state = .idle → s.timebase.set = true → (∃ c : Fin 32, s.sensorMap[c] ≠ none) →
     (∀ i n, s.pulse.test ≠ .waiting i n) →
     ∃ t, exec .start s = .next (doneState e t) ∧
       t.run = { s.run with state := .run, cause := none, burstTick := none } ∧
       t.grouping = { s.grouping with counter := 0, lastClosed := none } ∧
       t.tracker.armed = true ∧ t.tracker.pmax = s.tracker.pressure.getD 0 ∧
       (∀ n : Fin 32, t.tracker.satList[n] = none) ∧ t.tracker.phase = s.tracker.phase ∧
       t.cells.boundary = some (s.timebase.counter + BitVec.ofNat 48 s.cells.slotLength) ∧
       (∀ n : Fin 1024, t.cells.cells[n] =
         { cls := s.cells.cells[n].cls, events := 0, energy := 0, holdCount := 0, reloadCount := 0,
           slots := Vector.replicate 8 0, alarm := .quiet }) ∧
       (∀ c : Fin 32, t.capture.rings[c].writePos = 0 ∧ t.capture.rings[c].ringTick = none ∧
         t.capture.rings[c].marks = List.replicate s.capture.ringLines .void) ∧
       t.capture.queue = [] ∧ t.capture.memory = s.capture.memory ∧
       (∀ i : Fin 64, (s.capture.segments[i] = none → t.capture.segments[i] = none) ∧
         ∀ g, s.capture.segments[i] = some g →
           (g.stage = .filling → t.capture.segments[i] = some g) ∧
           (g.stage ≠ .filling → t.capture.segments[i] = none ∧
             (s.link.fill + 3 * 64 ≤ 3584 → ∃ r : TraceRecord, .trace r ∈ t.link.own ∧ r.segment = some i ∧
               r.sensor = g.sensor ∧ r.tick = g.arrival ∧ r.samples = none ∧ r.lost = true ∧ r.isEnd = true ∧
               r.damaged = g.damaged ∧ r.cut = g.lost.length + g.unread.length - g.lostReported))) ∧
       (∀ c : Fin 32, t.detectors[c].state =
         if s.detectors[c].state = .off ∧ s.lanes[laneOf c].role = .pod ∧ s.lanes[laneOf c].state = .up ∧
           s.sensorMap[c] ≠ none then .quiet
         else s.detectors[c].state) ∧
       t.lanes = s.lanes ∧ t.pulse = s.pulse ∧ SameSettings s t)

/-- STOP: refused in bypass and outside RUN; a taken STOP leaves RUN for IDLE with every detector OFF, no open group, no FILLING
segment where each channel had at most one (R136), no test in flight, burst disarmed, and the rate slot timer stopped (R162,
R33, R118, R139). The departure goes in the order of R162, with the run state still RUN: every FILLING segment is sealed, every
live detector enters OFF, an open hit closed with HALT (DeparturesCloseHits), a test in flight ends with ABORTED, every open group
closes with HALTED in the order of the list, and the tracker disarms (R57, R89, R155, R162).
That cause and B stay as they are, whatever hits STOP closes, is the model's deduction: no declaration is made within a STOP
(log entry 17); so is that the channels are taken in ascending number (log entry 27) and when the capture unit is served (log
entry 21). -/
def Obligations.StopLeavesRun : Prop :=
  ∀ (s : State) (e : IntakeEntry) (rest : List IntakeEntry), Serves s e rest → TakenAs stopKind e →
    (s.run.bypass = true ∨ s.run.state ≠ .run → exec .stop s = .next (refusedState s e rest .state)) ∧
    (s.run.bypass = false → s.run.state = .run → ∃ t, exec .stop s = .next (doneState e t) ∧
      t.run = { s.run with state := .idle } ∧ (∀ c : Fin 32, t.detectors[c].state = .off) ∧
      t.grouping.groups = [] ∧ t.pulse.test = .none ∧ t.tracker.armed = false ∧ t.cells.boundary = none ∧
      ((∀ (i j : Fin 64) (x y : Segment), s.capture.segments[i] = some x → s.capture.segments[j] = some y →
          x.stage = .filling → y.stage = .filling → x.channel = y.channel → i = j) →
        ∀ (i : Fin 64) (g : Segment), t.capture.segments[i] = some g → g.stage ≠ .filling) ∧
      (let sealed := (List.finRange 32).foldl (fun u c => sealChannel c u) (s.headTaken rest)
       let off := (List.finRange 32).foldl (fun u c => detectorOff presentQuietly .halt c u) sealed
       let ended := endTest presentQuietly .withheld .aborted off
       let shut := ended.grouping.groups.foldl (fun u g => closeGroup .halted g u) ended
       t = settleCapture (((shut.setTracker
           { shut.tracker with armed := false, satList := Vector.replicate 32 none }).setCells
           { shut.cells with boundary := none }).setRun { s.run with state := .idle })) ∧
      t.lanes = s.lanes ∧ SameSettings s t)

/-- FREEZE: refused in bypass and outside RUN; a taken FREEZE is a declaration with cause MANUAL at the present tick (R165,
R166), whose BURST notice carries the tracker's P and Pmax, P absent in NOGAUGE (R164). RELEASE: refused in bypass and
outside FROZEN; a taken RELEASE ends the dump, makes cause and B absent, and leaves the part in IDLE with its rings, cells,
tables, lanes and timebase as they were (R145, R170). -/
def Obligations.FreezeAndRelease : Prop :=
  (∀ (s : State) (e : IntakeEntry) (rest : List IntakeEntry), Serves s e rest → TakenAs freezeKind e →
     (s.run.bypass = true ∨ s.run.state ≠ .run → exec .freeze s = .next (refusedState s e rest .state)) ∧
     (s.run.bypass = false → s.run.state = .run → ∃ t, exec .freeze s = .next (doneState e t) ∧
       t.run.cause = some .manual ∧ t.run.burstTick = some s.timebase.counter ∧
       (s.run.tailSpan ≠ 0 → t.run.state = .tailing ∧
         t.run.tailExpiry = some (s.timebase.counter + BitVec.ofNat 48 s.run.tailSpan)) ∧
       (s.run.tailSpan = 0 → t.run.state = .frozen ∧ t.run.tailExpiry = none) ∧
       t.tracker.armed = false ∧ t.cells.boundary = none ∧ t.pulse.test = .none ∧
       t.link.marks = s.link.marks ++ (if s.link.far.state = .up then [.burst] else []) ∧
       (s.link.fill + 2 ≤ 4096 → ∃ more, t.link.own = s.link.own ++ burstNotice s .manual
         (if s.tracker.phase = .nogauge then none else s.tracker.pressure) s.tracker.pmax :: more) ∧
       t.lanes = s.lanes ∧ SameSettings s t)) ∧
  (∀ (s : State) (e : IntakeEntry) (rest : List IntakeEntry), Serves s e rest → TakenAs releaseKind e →
     (s.run.bypass = true ∨ s.run.state ≠ .frozen → exec .release s = .next (refusedState s e rest .state)) ∧
     (s.run.bypass = false → s.run.state = .frozen → ∃ t, exec .release s = .next (doneState e t) ∧
       t.run = { s.run with state := .idle, cause := none, burstTick := none } ∧ t.capture.dump = none ∧
       (∀ d, s.capture.dump = some d → s.link.fill + 2 ≤ 4096 → t.link.own = s.link.own ++
         [.notice { part := s.run.address, tick := s.timebase.counter, body := .dump d.sent d.damaged true }]) ∧
       (s.capture.dump = none → t.link = (s.headTaken rest).link) ∧
       t.capture.rings = s.capture.rings ∧ t.capture.memory = s.capture.memory ∧
       t.capture.segments = s.capture.segments ∧ t.lanes = s.lanes ∧ t.cells = s.cells ∧ t.tracker = s.tracker ∧
       t.channels = s.channels ∧ t.detectors = s.detectors ∧ t.grouping = s.grouping ∧ t.pulse = s.pulse ∧
       SameSettings s t))

/-- RESTART: taken in every run state and in bypass; every block as R171 gives it, tables and settings kept; its answer is the
first entry of the emptied answer queue (R2, R22, R26, R37, R53, R77, R110, R143, R147, R159, R171, R174). The own record queue
is emptied, and holds the SIGNAL notices of the lanes that align again at once; that they come before the answer is placed is
the model's deduction (log entry 36), and their order among themselves its choice (log entry 48).
What the line of an abandoned write holds is the model's free value (log entry 9). That a frame of the own record queue or the
answer queue in transmission no longer stands in a queue is the model's deduction, over a field of its own (log entry 34). -/
def Obligations.RestartReturnsToIdle : Prop :=
  ∀ (s : State) (e : IntakeEntry) (rest : List IntakeEntry), Serves s e rest → TakenAs restartKind e →
    ∃ t, exec .restart s = .next (doneState e t) ∧
      t.run = { s.run with state := .idle, cause := none, burstTick := none, tailExpiry := none, bypass := false } ∧
      t.timebase = { s.timebase with set := false } ∧ t.tracker = Tracker.resetWith s.tracker.params ∧
      (∀ c : Fin 32, t.detectors[c].state = .off ∧ t.detectors[c].horizon = none ∧
        t.channels[c] = { s.channels[c] with pending := s.channels[c].active } ∧
        t.capture.rings[c] =
          { writePos := 0, ringTick := none, marks := List.replicate s.capture.ringLines .void }) ∧
      t.grouping = { s.grouping with groups := [], counter := 0, lastClosed := none } ∧
      t.pulse.test = .none ∧ t.pulse.hold = [] ∧ (∀ n : Fin 32, t.pulse.results[n] = none) ∧
      t.capture.access = none ∧ t.capture.queue = [] ∧ t.capture.memoryLines = s.capture.memoryLines ∧
      t.capture.ringLines = s.capture.ringLines ∧ t.capture.dumpDepth = s.capture.dumpDepth ∧
      (∀ a, (∀ (w : RingWrite) (n : Nat), s.capture.access = some { op := .write w, started := n } →
          a ≠ w.channel.val * s.capture.ringLines + w.index) →
        Memory.read t.capture.memory a = Memory.read s.capture.memory a) ∧
      t.capture.port = .ready ∧ t.capture.failures = 0 ∧ t.capture.dump = none ∧
      (∀ i : Fin 64, t.capture.segments[i] = none) ∧ t.cells.classes = s.cells.classes ∧ t.cells.boundary = none ∧
      t.cells.slotLength = s.cells.slotLength ∧
      (∀ n : Fin 1024, t.cells.cells[n] =
        { cls := s.cells.cells[n].cls, events := 0, energy := 0, holdCount := 0, reloadCount := 0,
          slots := Vector.replicate 8 0, alarm := .quiet }) ∧
      (∀ l : Fin 4, t.lanes[l].role = s.lanes[l].role ∧ t.lanes[l].latency = s.lanes[l].latency ∧
        t.lanes[l].signal = s.lanes[l].signal ∧ t.lanes[l].alignCount = 0 ∧ t.lanes[l].prevSeq = none ∧
        t.lanes[l].expSeq = none ∧ t.lanes[l].expTick = none ∧ t.lanes[l].failures = 0 ∧
        t.lanes[l].checkTally = 0 ∧ t.lanes[l].skipTally = 0 ∧
        t.lanes[l].state =
          (if s.lanes[l].role = .off then .off else if s.lanes[l].signal then .aligning else .down)) ∧
      t.link.own = ((List.finRange 4).filter
          (fun l : Fin 4 => decide (s.lanes[l].role ≠ .off) && s.lanes[l].signal)).map
        (fun l => .notice
          { part := s.run.address, tick := s.timebase.counter, body := .lane l .down .aligning .signal }) ∧
      t.link.near = s.link.near ∧ t.link.far = s.link.far ∧ t.link.nearPause = s.link.nearPause ∧
      t.link.farPause = s.link.farPause ∧
      t.link.answers = [] ∧ t.link.intake = rest ∧ t.link.pass = s.link.pass ∧ t.link.forward = s.link.forward ∧
      t.link.marks = s.link.marks ∧ t.link.turn = s.link.turn ∧ t.link.counts = TallyCounts.zero ∧
      t.link.highWater = t.link.fill ∧ t.link.farSending = s.link.farSending ∧
      (∀ x, s.link.nearSending = some x → ∃ y, t.link.nearSending = some y ∧ y.frame = x.frame ∧
        y.source = x.source ∧ (x.source = .own ∨ x.source = .answer → y.queued = false)) ∧
      t.link.tallyExpiry = none ∧ t.link.tallyInterval = s.link.tallyInterval ∧
      t.sensorMap = s.sensorMap ∧ t.phaseMap = s.phaseMap ∧ t.pairs = s.pairs ∧ t.power = s.power

/-- CLEAR-CELL: refused in bypass and for a target that is neither a cell nor ALL; a taken CLEAR-CELL zeroes the hold and
reload counts of the cells it names and makes them QUIET, keeps the rest of their accounts, and changes no other cell (R122,
R123).
Where missing arguments are tested among the other conditions is the model's choice (log entry 29). -/
def Obligations.ClearCellClears : Prop :=
  ∀ (s : State) (e : IntakeEntry) (rest : List IntakeEntry), Serves s e rest → TakenAs clearCellKind e →
    let target := fieldAt e.order.args 0 2
    (s.run.bypass = true → exec .clearCell s = .next (refusedState s e rest .state)) ∧
    (s.run.bypass = false → (e.order.args.length < 2 ∨ (1024 ≤ target ∧ target ≠ 65535)) →
      exec .clearCell s = .next (refusedState s e rest .range)) ∧
    (s.run.bypass = false → 2 ≤ e.order.args.length → (target < 1024 ∨ target = 65535) →
      ∃ t, exec .clearCell s = .next (doneState e t) ∧
        (∀ n : Fin 1024, t.cells.cells[n] =
          if n.val = target ∨ target = 65535 then
            { s.cells.cells[n] with holdCount := 0, reloadCount := 0, alarm := .quiet }
          else s.cells.cells[n]) ∧
        t.cells.classes = s.cells.classes ∧ t.cells.boundary = s.cells.boundary ∧ t.lanes = s.lanes ∧
        t.capture = s.capture ∧ t.tracker = s.tracker ∧ t.detectors = s.detectors ∧ t.grouping = s.grouping ∧
        t.run = s.run ∧ t.pulse = s.pulse ∧ SameSettings s t)

/-- PULSE: the refusals of R148 in their order; a taken PULSE sends the fire mark for the source channel's slot, enters WAITING
with the send tick, an empty hold list and an empty result table, and in IDLE makes the mapped channels' detectors on UP POD
lanes live (R17, R55, R148, R149).
Where missing arguments are tested (log entry 29), and the latch that holds the fire mark sent (log entry 38), are the model's
choice. -/
def Obligations.PulseStartsTest : Prop :=
  ∀ (s : State) (e : IntakeEntry) (rest : List IntakeEntry), Serves s e rest → TakenAs pulseKind e →
    let window := fieldAt e.order.args 2 2
    (s.run.bypass = true ∨ s.run.state = .tailing ∨ s.run.state = .frozen →
      exec .pulse s = .next (refusedState s e rest .state)) ∧
    (s.run.bypass = false → s.run.state = .idle ∨ s.run.state = .run →
      (s.pulse.test ≠ .none → exec .pulse s = .next (refusedState s e rest .busy)) ∧
      (s.pulse.test = .none →
        ((e.order.args.length < 4 ∨ window = 0 ∨ pulseSource e s = none) →
          exec .pulse s = .next (refusedState s e rest .range)) ∧
        (4 ≤ e.order.args.length → window ≠ 0 → ∀ n c : Fin 32, pulseSource e s = some (n, c) →
          (s.podUp (laneOf c) = false → exec .pulse s = .next (refusedState s e rest .lane)) ∧
          (s.podUp (laneOf c) = true → s.timebase.set = false →
            exec .pulse s = .next (refusedState s e rest .time)) ∧
          (s.podUp (laneOf c) = true → s.timebase.set = true →
            ∃ t, exec .pulse s = .next (doneState e t) ∧
              t.pulse.test = .waiting
                { tag := e.order.tag.toNat, source := n, channel := c, window := window,
                  sendTick := s.timebase.counter } 0 ∧
              t.pulse.hold = [] ∧ (∀ m : Fin 32, t.pulse.results[m] = none) ∧
              t.fireMark = some
                { lane := laneOf c, sent := s.timebase.counter, frame := fireFrame (slotOf c) } ∧
              (∀ d : Fin 32, t.detectors[d].state =
                if s.run.state = .idle ∧ s.detectors[d].state = .off ∧ s.podUp (laneOf d) = true ∧
                  s.sensorMap[d] ≠ none then .quiet
                else s.detectors[d].state) ∧
              t.link = (s.headTaken rest).link ∧ t.lanes = s.lanes ∧ t.capture = s.capture ∧ t.run = s.run ∧
              t.tracker = s.tracker ∧ t.grouping = s.grouping ∧ t.cells = s.cells ∧ SameSettings s t))))

/-- What a test in flight does with hits (R150 to R153). A closed hit offered to it is handed back, held at its place in the
hold list, or made TEST, by its arrival; a 65th held hit releases the earliest. SAMPLE_FRAME in order on an UP POD lane while
the test is WAITING: on the source lane a confirmation at or after S puts the test in WINDOW, the held hits leave the list one
after another, each made TEST or released and each followed by the close test, and the DONE test is made; any other frame of
that lane is counted, and the 64th ends the test with NOFIRE; another lane's frame has no effect on the test.
That a declaration by a released hit ends the test when the classification is complete (log entry 42), or with the cause of the
end under way (log entry 19), is the model's choice and deduction; so are that a held hit released in FROZEN is discarded (log
entry 20) and that the capture unit is served at the end of the command (log entry 21). -/
def Obligations.TestDecidesHits : Prop :=
  (∀ (pres : Presenter) (h : HitRecord) (s : State) (i : TestInfo) (n : Nat), s.pulse.test = .waiting i n →
     (earlier h.arrival i.sendTick = true → offerToTest pres h s = (s, true)) ∧
     (earlier h.arrival i.sendTick = false → ∃ l, Inserted hitBefore h s.pulse.hold l ∧
       (s.pulse.hold.length < 64 → offerToTest pres h s = (s.setPulse { s.pulse with hold := l }, false)) ∧
       (s.pulse.hold.length = 64 → ∀ y ys, l = y :: ys →
         let u := s.setPulse { s.pulse with hold := ys }
         offerToTest pres h s =
           (if s.run.state = .run ∨ s.run.state = .tailing then pres y u else u, false)))) ∧
  (∀ (pres : Presenter) (h : HitRecord) (s : State) (i : TestInfo) (f : Tick), s.pulse.test = .window i f →
     (i.window ≤ (h.arrival - f).toNat → offerToTest pres h s = (s, true)) ∧
     ((h.arrival - f).toNat < i.window → offerToTest pres h s =
       (offer (.hit { h with test := true, group := none }) false
         (s.setPulse
           { s.pulse with
             results :=
               if s.pulse.results[h.sensor] = none then
                 put s.pulse.results h.sensor (some { delay := (h.arrival - f).toNat, peak := h.peak })
               else s.pulse.results }), false))) ∧
  (∀ (pres : Presenter) (m : Tests) (h : HitRecord) (hs : List HitRecord) (k : Nat) (s : State) (i : TestInfo)
     (fire : Option Tick), InFlight s i fire → s.pulse.hold = h :: hs →
     let u := s.setPulse { s.pulse with hold := hs }
     let released := if s.run.state = .run ∨ s.run.state = .tailing then pres h u else u
     let decided := match fire with
       | none => released
       | some f => if (h.arrival - f).toNat < i.window then (offerToTest pres h u).1 else released
     emptyHold pres m (k + 1) s = emptyHold pres m k (match m with
       | .made => closeTest decided
       | .withheld => decided)) ∧
  (∀ (l : Fin 4) (frame : List Byte) (f : SampleFrame) (s : State) (i : TestInfo) (n : Nat), s.running = true →
     s.lanes[l].state = .up → s.lanes[l].role = .pod → readSampleFrame frame = some f →
     s.lanes[l].expSeq = some f.seq → s.pulse.test = .waiting i n →
     (∀ j : Fin 8, s.detectors[channelOf l j].feed = none) →
     let tick := fun (k : Nat) => s.timebase.counter - BitVec.ofNat 48 s.lanes[l].latency + BitVec.ofNat 48 k
     let fires := fun (k : Nat) => f.confirmation = some k ∧ atOrAfter (tick k) i.sendTick = true
     ∃ u t, u.pulse = s.pulse ∧ u.run = s.run ∧ u.tracker = s.tracker ∧
       exec (.sampleFrame l frame) s = .next (settleCapture t) ∧
       (laneOf i.channel ≠ l → t = u) ∧
       (laneOf i.channel = l → (∀ k, ¬ fires k) →
         let v := u.setPulse { u.pulse with test := .waiting i (n + 1) }
         t = if 64 ≤ n + 1 then endTest (presentWith .nofire) .made .nofire v else v) ∧
       (laneOf i.channel = l → ∀ k, fires k → t.pulse.hold = [] ∧
         t = doneTest (emptyHold present .made s.pulse.hold.length
           (u.setPulse { u.pulse with test := .window i (tick k) }))))

/-- The end of a test (R154 to R157). DONE exactly when every live detector has been heard to F + window − 1 and none is OPEN
with a hit that arrived in the window. Outside IDLE the held hits leave the list, and then the PULSE-RESULT record, with its
entries in ascending sensor number, is offered and the unit is empty. A listening test first puts every detector in OFF, and
leaves the groups, the tracker and the run state alone. The source lane's loss of signal leaves no test in flight. -/
def Obligations.TestEnds : Prop :=
  (∀ (s : State) (i : TestInfo) (f : Tick), s.pulse.test = .window i f →
     let finished := ∀ c : Fin 32, s.detectors[c].state ≠ .off →
       (∃ x, s.detectors[c].horizon = some x ∧ atOrAfter x (f + BitVec.ofNat 48 (i.window - 1)) = true) ∧
       ∀ o, s.detectors[c].state = .opened o → i.window ≤ (o.arrival - f).toNat
     (finished → doneTest s = endTest (presentWith .done) .made .done s) ∧ (¬ finished → doneTest s = s)) ∧
  (∀ (pres : Presenter) (m : Tests) (cause : EndCause) (s : State) (i : TestInfo) (fire : Option Tick),
     InFlight s i fire → s.run.state ≠ .idle →
     endTest pres m cause s = concludeTest cause (emptyHold pres m s.pulse.hold.length s)) ∧
  (∀ (cause : EndCause) (s : State) (i : TestInfo) (fire : Option Tick), InFlight s i fire →
     concludeTest cause s = offer (.pulse
         { part := s.run.address, tag := i.tag, source := i.source, window := i.window, cause := cause,
           sendTick := i.sendTick, fireTick := fire,
           entries := (List.finRange 32).filterMap (fun n => (s.pulse.results[n]).map (fun e => (n, e))) }) false
       (s.setPulse { test := .none, hold := [], results := Vector.replicate 32 none })) ∧
  (∀ (pres : Presenter) (m : Tests) (cause : EndCause) (s : State) (i : TestInfo) (fire : Option Tick),
     InFlight s i fire → s.run.state = .idle → s.grouping.groups = [] →
     ∃ u q, endTest pres m cause s = offer (.pulse q) false u ∧ q.cause = cause ∧ q.tag = i.tag ∧
       q.source = i.source ∧ q.window = i.window ∧ q.sendTick = i.sendTick ∧ q.fireTick = fire ∧
       u.pulse = { test := .none, hold := [], results := Vector.replicate 32 none } ∧
       (∀ c : Fin 32, u.detectors[c].state = .off) ∧ u.run = s.run ∧ u.tracker = s.tracker ∧
       u.grouping = s.grouping ∧ u.lanes = s.lanes) ∧
  (∀ (l : Fin 4) (s : State) (i : TestInfo) (fire : Option Tick), s.running = true → s.lanes[l].state = .up →
     s.lanes[l].role = .pod → InFlight s i fire → laneOf i.channel = l →
     ∃ t, exec (.lossOfSignal l) s = .next t ∧
       t.pulse = { test := .none, hold := [], results := Vector.replicate 32 none })

/-- BYPASS: on is refused in bypass, outside IDLE and during a test, and otherwise sets bypass; off is always taken and clears
it; any other value is refused with RANGE (with STATE in bypass, R186); full reset and RESTART clear bypass (R172).
That another value is refused with RANGE in every run state and during a test is the model's deduction (log entry 30). -/
def Obligations.BypassSetsAndClears : Prop :=
  (∀ (s : State) (e : IntakeEntry) (rest : List IntakeEntry), Serves s e rest → TakenAs bypassKind e →
     1 ≤ e.order.args.length →
     (fieldAt e.order.args 0 1 = 0 →
       exec .bypassOff s = .next (doneState e ((s.headTaken rest).setRun { s.run with bypass := false }))) ∧
     (fieldAt e.order.args 0 1 = 1 → exec .bypassOn s = .next
       (if s.run.bypass = true ∨ s.run.state ≠ .idle then refusedState s e rest .state
        else if s.pulse.test.inFlight = true then refusedState s e rest .busy
        else doneState e ((s.headTaken rest).setRun { s.run with bypass := true }))) ∧
     (1 < fieldAt e.order.args 0 1 → exec .bypassOn s = .next
       (refusedState s e rest (if s.run.bypass then .state else .range)))) ∧
  (∀ (s : State) (p : ResetPin), ∃ t, exec (.resetAssert p) s = .next t ∧ t.run.bypass = false) ∧
  (∀ (s : State) (e : IntakeEntry) (rest : List IntakeEntry), Serves s e rest → TakenAs restartKind e →
     ∃ t, exec .restart s = .next t ∧ t.run.bypass = false)

/-! ## The record link -/

/-- LINK_SIGNAL_DETECT and LINK_LOSS_OF_SIGNAL: the input follows; a port in UP that loses signal goes to DOWN with its
alignment cleared, with the near pause out of force, or the far pause cleared, the forward queue and own marks emptied, and the
lost orders counted (R175, R176).
That the consecutive failures are kept at the entry into DOWN (log entry 32) and that an order in transmission is not counted
as lost (log entry 33) are the model's choice and deduction.
Any frame at a port: in UP, one that fails the check is discarded and counted, and the third in a row puts the port in DOWN, where
the link loses the same; in DOWN, one that fails clears the alignment, one that passes counts toward it while signal detect is
present, and at a count of 8 the port enters UP: the far port, with 48 units or more in the pass-through buffer, makes a PAUSE
mark. Stated for IDLE_FRAME, which carries any bytes; in UP an idle frame that passes the check sets the failures to 0 (R175,
R176). -/
def Obligations.PortStateChanges : Prop :=
  (∀ (p : Port) (s : State), s.running = true →
     exec (.linkSignalDetect p) s = .next (s.setLink (s.link.setPort p { s.link.port p with signal := true })) ∧
     ((s.link.port p).state = .down → exec (.linkLossOfSignal p) s = .next
       (s.setLink (s.link.setPort p { s.link.port p with signal := false, alignCount := 0, prevSeq := none }))) ∧
     ((s.link.port p).state = .up → ∃ k, exec (.linkLossOfSignal p) s = .next (s.setLink k) ∧
       k.port p =
         { s.link.port p with signal := false, state := .down, alignCount := 0, prevSeq := none } ∧
       (p = .near → k.nearPause = false ∧ k.far = s.link.far ∧ k.forward = s.link.forward ∧
         k.marks = s.link.marks ∧ k.farPause = s.link.farPause ∧ k.counts = s.link.counts) ∧
       (p = .far → k.farPause = false ∧ k.near = s.link.near ∧ k.forward = [] ∧ k.marks = [] ∧
         k.nearPause = s.link.nearPause ∧
         k.counts =
           { s.link.counts with discardedOrders := min 65535 (s.link.counts.discardedOrders + s.link.ordersWaiting) }) ∧
       k.own = s.link.own ∧ k.answers = s.link.answers ∧ k.intake = s.link.intake ∧ k.pass = s.link.pass ∧
       k.turn = s.link.turn)) ∧
  (∀ k : Link, k.ordersWaiting =
     ((if ∃ x, k.farSending = some x ∧ x.source = .forward ∧ x.queued = true then k.forward.tail else k.forward).filter
       (fun e => decide (e ≠ .burst))).length) ∧
  (∀ (p : Port) (frame : List Byte) (s : State), s.running = true →
     let x := s.link.port p
     (x.state = .up → readLinkFrame p frame = some .idle →
       exec (.idleFrame p frame) s = .next (s.setLink (s.link.setPort p { x with failures := 0 }))) ∧
     (x.state = .up → readLinkFrame p frame = none → x.failures < 2 →
       exec (.idleFrame p frame) s = .next (countBad p (s.setLink (s.link.setPort p { x with failures := x.failures + 1 })))) ∧
     (x.state = .up → readLinkFrame p frame = none → 2 ≤ x.failures →
       ∃ k, exec (.idleFrame p frame) s = .next (s.setLink k) ∧
         k.port p = { x with state := .down, failures := x.failures + 1, alignCount := 0, prevSeq := none } ∧
         (p = .near → k.nearPause = false ∧ k.far = s.link.far ∧ k.forward = s.link.forward ∧
           k.marks = s.link.marks ∧ k.farPause = s.link.farPause ∧
           k.counts = { s.link.counts with badOrders := min 65535 (s.link.counts.badOrders + 1) }) ∧
         (p = .far → k.farPause = false ∧ k.near = s.link.near ∧ k.forward = [] ∧ k.marks = [] ∧
           k.nearPause = s.link.nearPause ∧
           k.counts =
             { s.link.counts with
               badRecords := min 65535 (s.link.counts.badRecords + 1)
               discardedOrders := min 65535 (s.link.counts.discardedOrders + s.link.ordersWaiting) }) ∧
         k.own = s.link.own ∧ k.answers = s.link.answers ∧ k.intake = s.link.intake ∧ k.pass = s.link.pass ∧
         k.turn = s.link.turn) ∧
     (x.state = .down → readLinkFrame p frame = none →
       exec (.idleFrame p frame) s = .next
         (countBad p (s.setLink (s.link.setPort p { x with alignCount := 0, prevSeq := none })))) ∧
     (x.state = .down → readLinkFrame p frame ≠ none → x.signal = true →
       let n := match x.prevSeq with
         | none => 1
         | some q => if frameSeq frame = q + 1 then x.alignCount + 1 else 1
       let pauses := p = .far ∧ 8 ≤ n ∧ 48 ≤ s.link.passFill ∧ s.link.farPause = false
       ∃ k, exec (.idleFrame p frame) s = .next (s.setLink k) ∧
         k.port p =
           (if 8 ≤ n then { x with state := .up, alignCount := 8, prevSeq := some (frameSeq frame), failures := 0 }
            else { x with alignCount := n, prevSeq := some (frameSeq frame) }) ∧
         (p = .near → k.far = s.link.far) ∧ (p = .far → k.near = s.link.near) ∧
         (pauses → k.marks = s.link.marks ++ [.pause] ∧ k.farPause = true) ∧
         (¬ pauses → k.marks = s.link.marks ∧ k.farPause = s.link.farPause) ∧
         k.counts = s.link.counts ∧ k.own = s.link.own ∧ k.answers = s.link.answers ∧ k.intake = s.link.intake ∧
         k.pass = s.link.pass ∧ k.forward = s.link.forward ∧ k.nearPause = s.link.nearPause ∧ k.turn = s.link.turn) ∧
     (x.state = .down → readLinkFrame p frame ≠ none → x.signal = false → exec (.idleFrame p frame) s = .next s))

/-- ORDER_FRAME at an UP near port: an order that is no ASSIGN is taken when the address is this part's, 0 included; taken and
forwarded at the broadcast address; otherwise forwarded with the far port UP, and placed UNCLAIMED with it DOWN. A full intake
or forward queue discards the order and counts it. An ASSIGN is taken by an unassigned part that is not in bypass and is
otherwise passed on (R183 to R185).
The uptime noted with an order in the intake is the model's own field (log entry 5). -/
def Obligations.OrderFrameAddressed : Prop :=
  ∀ (frame : List Byte) (o : Order) (s : State), s.running = true → s.link.near.state = .up →
    readLinkFrame .near frame = some (.order o) →
    let t := s.setLink { s.link with near := { s.link.near with failures := 0 } }
    let takes := if o.kind = assignKind then s.run.address = 0 ∧ s.run.bypass = false
      else o.address.toNat = s.run.address
    let broadcast := o.kind ≠ assignKind ∧ ¬ takes ∧ o.address = 31#8
    (takes → exec (.orderFrame frame) s = .next (placeOrder o true t)) ∧
    (broadcast → s.link.far.state = .up →
      exec (.orderFrame frame) s = .next (forwardEntry (.order o) (placeOrder o true t))) ∧
    (broadcast → s.link.far.state = .down → exec (.orderFrame frame) s = .next (placeOrder o true t)) ∧
    (¬ takes → ¬ broadcast → s.link.far.state = .up →
      exec (.orderFrame frame) s = .next (forwardEntry (.order o) t)) ∧
    (¬ takes → ¬ broadcast → s.link.far.state = .down →
      exec (.orderFrame frame) s = .next (placeOrder o false t)) ∧
    (∀ b, s.link.intake.length < 4 → placeOrder o b t = t.setLink
      { t.link with intake := t.link.intake ++ [{ order := o, take := b, arrived := s.timebase.uptime }] }) ∧
    (∀ b, 4 ≤ s.link.intake.length → placeOrder o b t = t.setLink
      { t.link with
        counts := { t.link.counts with discardedOrders := min 65535 (t.link.counts.discardedOrders + 1) } }) ∧
    (∀ u : State, u.link.forward.length < 8 →
      forwardEntry (.order o) u = u.setLink { u.link with forward := u.link.forward ++ [.order o] }) ∧
    (∀ u : State, 8 ≤ u.link.forward.length → forwardEntry (.order o) u = u.setLink
      { u.link with
        counts := { u.link.counts with discardedOrders := min 65535 (u.link.counts.discardedOrders + 1) } })

/-- PAUSE_MARK and RESUME_MARK at an UP near port put the near pause in force and out of force; beside that a RESUME lets the
transmitter begin when no frame is in transmission, and nothing else changes (R180). BURST_MARK at an UP near port: forwarded,
in every run state and in bypass, while the far port is UP and its queue has room; in RUN outside bypass it declares CHAINED at
the present tick, with its BURST notice and the part's own mark, and otherwise it declares nothing (R163 to R165, R167, R183). -/
def Obligations.NearMarksTakeEffect : Prop :=
  (∀ (frame : List Byte) (s : State), s.running = true → s.link.near.state = .up →
     let t := fun b => s.setLink { s.link with near := { s.link.near with failures := 0 }, nearPause := b }
     (readLinkFrame .near frame = some (.mark .pause) → exec (.pauseMark frame) s = .next (t true)) ∧
     (readLinkFrame .near frame = some (.mark .resume) →
       exec (.resumeMark frame) s = .next (beginNear (t false)) ∧
       (s.link.nearSending.isSome = true → beginNear (t false) = t false))) ∧
  (∀ (frame : List Byte) (s : State), s.running = true → s.link.near.state = .up →
     readLinkFrame .near frame = some (.mark .burst) → ∃ t, exec (.burstMark frame) s = .next t ∧
       t.link.forward = s.link.forward ++
         (if s.link.far.state = .up ∧ s.link.forward.length < 8 then [.burst] else []) ∧
       (s.run.state ≠ .run ∨ s.run.bypass = true → t.run = s.run ∧ t.link.marks = s.link.marks) ∧
       (s.run.state = .run → s.run.bypass = false → Declared s t .chained ∧
         (s.link.fill + 2 ≤ 4096 → ∃ more, t.link.own = s.link.own ++ burstNotice s .chained
           (if s.tracker.phase = .nogauge then none else s.tracker.pressure) s.tracker.pmax :: more)) ∧
       t.lanes = s.lanes ∧ SameSettings s t)

/-- RECORD_FRAME at an UP far port: placed unchanged at the tail of the pass-through buffer when it fits, otherwise counted as
overflow; a placement that reaches 48 units with the far pause not asserted makes a PAUSE mark; a BURST notice declares CHAINED
in RUN outside bypass, with its BURST notice (R164, R167, R181, R182).
That the PAUSE mark stands before the BURST mark of the declaration is the model's choice (log entry 44). -/
def Obligations.RecordFramePlaced : Prop :=
  ∀ (frame body : List Byte) (s : State), s.running = true → s.link.far.state = .up →
    readLinkFrame .far frame = some (.record body) → ∃ t, exec (.recordFrame frame) s = .next t ∧
      (s.link.passFill + body.length / 16 ≤ 64 → t.link.pass = s.link.pass ++ [body]) ∧
      (64 < s.link.passFill + body.length / 16 → t.link.pass = s.link.pass ∧
        t.link.counts.overflow = min 65535 (s.link.counts.overflow + 1)) ∧
      (48 ≤ s.link.passFill + body.length / 16 → s.link.passFill + body.length / 16 ≤ 64 →
        s.link.farPause = false → t.link.farPause = true ∧
        t.link.marks = s.link.marks ++ [.pause] ++
          (if isBurstNotice body = true ∧ s.run.state = .run ∧ s.run.bypass = false then [.burst] else [])) ∧
      (isBurstNotice body = false ∨ s.run.state ≠ .run ∨ s.run.bypass = true → t.run = s.run) ∧
      (isBurstNotice body = true → s.run.state = .run → s.run.bypass = false → t.run.cause = some .chained ∧
        (s.link.fill + 2 ≤ 4096 → ∃ more, t.link.own = s.link.own ++ burstNotice s .chained
          (if s.tracker.phase = .nogauge then none else s.tracker.pressure) s.tracker.pmax :: more)) ∧
      t.lanes = s.lanes ∧ SameSettings s t

/-- NEAR_TRANSMISSION_END and FAR_TRANSMISSION_END: the entry of the frame that was sent leaves its queue, the turn passes to
the other source, and the next frame is chosen: near, an answer first, then a record by turn, else idle, and idle alone while
the port is DOWN or paused; far, an own mark first, then the forward queue, else idle. Its bytes are those of R191 around the
entry at the head, with the transmitter's sequence. A transmission that leaves 16 units or less in the pass-through buffer while
the far pause is asserted makes a RESUME mark (R175, R176, R180, R182, R183, R191).
That the frame of a queue that was emptied meanwhile takes no entry is the model's deduction (log entry 34). -/
def Obligations.TransmissionEndChooses : Prop :=
  ∀ s : State, s.running = true →
    (∀ x, s.link.nearSending = some x → ∃ k y, exec .nearTransmissionEnd s = .next (s.setLink k) ∧
      k.nearSending = some y ∧ y.queued = true ∧
      k.answers = (if x.source = .answer ∧ x.queued = true then s.link.answers.tail else s.link.answers) ∧
      k.pass = (if x.source = .pass ∧ x.queued = true then s.link.pass.tail else s.link.pass) ∧
      k.own = (if x.source = .own ∧ x.queued = true then s.link.own.tail else s.link.own) ∧
      k.turn = (if x.source = .pass then .own else if x.source = .own then .pass else s.link.turn) ∧
      y.source =
        (if s.link.near.state = .up ∧ s.link.nearPause = false then
          if k.answers ≠ [] then .answer
          else if k.pass ≠ [] ∧ (k.own = [] ∨ k.turn = .pass) then .pass
          else if k.own ≠ [] then .own
          else .idle
         else .idle) ∧
      (let q := s.link.near.txSeq
       let around := fun (body : List Byte) => withCheck ([0x60, q, BitVec.ofNat 8 (body.length / 16), 0] ++ body)
       (∀ a l, y.source = .answer → k.answers = a :: l → y.frame = around a.body) ∧
       (∀ b l, y.source = .pass → k.pass = b :: l → y.frame = around b) ∧
       (∀ r l, y.source = .own → k.own = r :: l → y.frame = around r.body) ∧
       (y.source = .idle → y.frame = withCheck [0x61, q, 0, 0])) ∧
      k.near = { s.link.near with txSeq := s.link.near.txSeq + 1 } ∧ k.far = s.link.far ∧
      (let drained := x.source = .pass ∧ k.passFill ≤ 16 ∧ s.link.farPause = true
       (drained → k.farPause = false ∧
         k.marks = s.link.marks ++ if s.link.far.state = .up then [.resume] else []) ∧
       (¬ drained → k.farPause = s.link.farPause ∧ k.marks = s.link.marks)) ∧
      k.forward = s.link.forward ∧ k.intake = s.link.intake ∧ k.counts = s.link.counts ∧
      k.nearPause = s.link.nearPause) ∧
    (∀ x, s.link.farSending = some x → ∃ k y, exec .farTransmissionEnd s = .next (s.setLink k) ∧
      k.farSending = some y ∧ y.queued = true ∧
      k.marks = (if x.source = .mark ∧ x.queued = true then s.link.marks.tail else s.link.marks) ∧
      k.forward = (if x.source = .forward ∧ x.queued = true then s.link.forward.tail else s.link.forward) ∧
      y.source =
        (if s.link.far.state = .up then
          if k.marks ≠ [] then .mark else if k.forward ≠ [] then .forward else .idle
         else .idle) ∧
      (let q := s.link.far.txSeq
       let mark := fun (m : Mark) =>
         withCheck [match m with | .pause => 0x63 | .resume => 0x64 | .burst => 0x65, q, 0, 0]
       (∀ m l, y.source = .mark → k.marks = m :: l → y.frame = mark m) ∧
       (∀ o l, y.source = .forward → k.forward = .order o :: l → y.frame =
         withCheck ([0x62, q, o.address, o.kind] ++ be 2 o.tag.toNat ++ [BitVec.ofNat 8 (o.args.length / 16), 0] ++
           o.args)) ∧
       (∀ l, y.source = .forward → k.forward = .burst :: l → y.frame = mark .burst) ∧
       (y.source = .idle → y.frame = withCheck [0x61, q, 0, 0])) ∧
      k.far = { s.link.far with txSeq := s.link.far.txSeq + 1 } ∧ k.near = s.link.near ∧ k.own = s.link.own ∧
      k.answers = s.link.answers ∧ k.pass = s.link.pass ∧ k.intake = s.link.intake ∧ k.counts = s.link.counts ∧
      k.nearPause = s.link.nearPause ∧ k.farPause = s.link.farPause ∧ k.turn = s.link.turn)

/-- A record offered outside bypass is admitted by the table of R177 when it fits 4,096 units, and otherwise shed and counted;
in bypass it is not made (R177, R178). -/
def Obligations.OfferAdmitsByFill : Prop :=
  ∀ (r : Record) (located : Bool) (s : State),
    let f := s.link.fill
    let kindAdmitted := f < 3072 ∨ (f < 3584 ∧ located = false) ∨
      (∃ e, r = .event e) ∨ (∃ n, r = .notice n) ∨ (∃ q, r = .pulse q) ∨ (∃ y, r = .tally y)
    let admits := f + r.units ≤ 4096 ∧ kindAdmitted
    (s.run.bypass = true → offer r located s = s) ∧
    (s.run.bypass = false → ((∃ h, r = .hit h) ∨ located = false) →
      (admits → offer r located s = s.setLink
        { s.link with own := s.link.own ++ [r], highWater := max s.link.highWater (f + r.units) }) ∧
      (¬ admits → offer r located s = s.setLink { s.link with counts := s.link.counts.addShed r }))

/-! ## The capture memory port, the readout and the dump -/

/-- The ring writer. It takes lines in RUN and TAILING with the port READY. A line handed to it with tick T is placed at the
write position, after nothing, after a gap advance of `v` lines, or after a ring restart that voids all R, as the channel's
ring tick asks; its write joins the ring writes, or with 128 waiting it is dropped and its line VOID; the write position moves
on by 1 and the ring tick becomes T + 16 (R130). A missing stretch voids its lines and moves both on, unless the ring tick is
absent (R131). A line placed at the index trigger + lines written of the channel's FILLING segment adds 1 to its lines written,
whether its write was queued or dropped, and at post lines + 1 the segment is SEALED; one placed elsewhere does not extend it
(R138). An index that is taken by a placement or a voiding takes its unread line from a segment: the line is lost, and a SEALED
or READING segment with no line left ends, a FILLING one when it is sealed (R142).
That the write in progress does not count among the 128 is the model's choice (log entry 43). -/
def Obligations.RingLinesPlaced : Prop :=
  (∀ (c : Fin 32) (s : State),
     let q := s.capture.rings[c]
     let r := s.capture.ringLines
     let voidBy := fun (d : Nat → Bool) (w : RingWrite) =>
       if w.channel = c ∧ d w.index = true then { w with voided := true } else w
     (¬ ((s.run.state = .run ∨ s.run.state = .tailing) ∧ s.capture.port = .ready) →
       (∀ t data, ringLine c t data s = s) ∧ ∀ n, missingLines c n s = s) ∧
     (s.run.state = .run ∨ s.run.state = .tailing → s.capture.port = .ready → q.marks.length = r → q.writePos < r →
       (∀ (t : Tick) (data : Line) (v k : Nat),
         ((q.ringTick = none ∨ q.ringTick = some t) ∧ v = 0 ∧ k = q.writePos) ∨
         (∃ x, q.ringTick = some x ∧ (t - x).toNat = 16 * v ∧ 1 ≤ v ∧ v ≤ r - 1 ∧ k = (q.writePos + v) % r) ∨
         (∃ x, q.ringTick = some x ∧ x ≠ t ∧ (¬ ∃ d, d ≤ r - 1 ∧ (t - x).toNat = 16 * d) ∧ v = r ∧
           k = q.writePos) →
         let u := ringLine c t data s
         let dropped := decide (128 ≤ s.capture.queue.length)
         let void := fun (j : Nat) =>
           decide (j < r) && (decide ((j + r - q.writePos) % r < v) || (dropped && decide (j = k)))
         u.capture.rings[c].writePos = (k + 1) % r ∧ u.capture.rings[c].ringTick = some (t + 16) ∧
         (∀ j, j < r → u.capture.rings[c].marks[j]? = if void j then some .void else q.marks[j]?) ∧
         (∀ d : Fin 32, d ≠ c → u.capture.rings[d] = s.capture.rings[d]) ∧
         u.ringWrites = s.ringWrites.map (voidBy void) ++
           (if dropped then [] else [{ channel := c, index := k, data := data, voided := false }]) ∧
         (dropped = false → u.capture.access ≠ none) ∧
         (v = 0 → ∀ (i : Fin 64) (g : Segment) (o : Int), s.capture.segments[i] = some g → g.channel = c →
           g.stage ≠ .filling → g.unreadAt r k = some o →
           u.capture.segments[i] =
             if ({ g with lost := g.lost ++ [o] } : Segment).unread = [] then none
             else some { g with lost := g.lost ++ [o] }) ∧
         (v = 0 → ∀ (i : Fin 64) (g : Segment), s.capture.segments[i] = some g → g.channel = c → g.stage = .filling →
           (∀ (j : Fin 64) (y : Segment), s.capture.segments[j] = some y → y.channel = c → y.stage = .filling → j = i) →
           g.written ≤ g.post → g.pre + g.post + 1 ≤ r →
           (k = (g.trigger + g.written) % r →
             let whole : Segment := { g with written := g.written + 1, stage := .sealed }
             (g.written < g.post → u.capture.segments[i] = some { g with written := g.written + 1 }) ∧
             (g.written = g.post → u.capture.segments[i] =
               if whole.lost ≠ [] ∧ whole.unread = [] then none else some whole)) ∧
           (k ≠ (g.trigger + g.written) % r → u.capture.segments[i] =
             match g.unreadAt r k with
             | some o => some { g with lost := g.lost ++ [o] }
             | none => some g))) ∧
       (∀ n : Nat,
         let u := missingLines c n s
         let void := fun (j : Nat) => decide (j < r) && decide ((j + r - q.writePos) % r < n)
         (q.ringTick = none → u = s) ∧
         (∀ x, q.ringTick = some x →
           u.capture.rings[c].writePos = (q.writePos + n) % r ∧
           u.capture.rings[c].ringTick = some (x + BitVec.ofNat 48 (16 * n)) ∧
           (∀ j, j < r → u.capture.rings[c].marks[j]? = if void j then some .void else q.marks[j]?) ∧
           (∀ d : Fin 32, d ≠ c → u.capture.rings[d] = s.capture.rings[d]) ∧
           u.ringWrites = s.ringWrites.map (voidBy void))))) ∧
  (∀ (c : Fin 32) (k : Nat) (i : Fin 64) (g : Segment) (s : State), s.capture.segments[i] = some g →
     let u := takeIndex c k s
     (g.channel ≠ c ∨ g.unreadAt s.capture.ringLines k = none → u.capture.segments[i] = some g) ∧
     (∀ o, g.channel = c → g.unreadAt s.capture.ringLines k = some o →
       let g' : Segment := { g with lost := g.lost ++ [o] }
       (g.stage = .filling ∨ g'.unread ≠ [] → u.capture.segments[i] = some g') ∧
       (g.stage ≠ .filling → g'.unread = [] → u.capture.segments[i] = none)) ∧
     (∀ o, g.unreadAt s.capture.ringLines k = some o → o ∈ g.order ∧ o ∉ g.lost ∧
       (0 < s.capture.ringLines → ((g.trigger : Int) + o) % (s.capture.ringLines : Int) = (k : Int))))

/-- RING_WRITE_COMPLETE: the write's line holds its samples after DONE or SPLIT and nothing known after FAULT; its mark
becomes HELD or BAD unless it was voided meanwhile; every other memory line is as it was; consecutive failures return to 0 or
rise (R133). TIMEOUT once 16 ticks have passed on an access: it ends as a failure, counted as a FAULT, and the fourth
consecutive failure puts the port in FAILED with every segment FREE, the write queue empty and no dump (R133, R135). The
fourth failure by FAULT, of any access, does the same. After the record of a failing read the CAPTURE notice names the
access, the outcome and the number of segments freed; every segment's closing record is flagged DAMAGED and END; and a dump
ends with its DUMP notice, stopped 1 (R135, R141, R145).
That a failed write leaves contents that are not known (log entry 9), and that the 16 ticks are counted by the uptime and the
end is commanded (log entries 5 and 11), is the model's choice. -/
def Obligations.WritesAndTimeoutsEnd : Prop :=
  (∀ (w : RingWrite) (n : Nat) (a : Answered) (s : State), s.running = true →
     s.capture.access = some { op := .write w, started := n } → s.capture.failures < 3 →
     ∃ t, exec (.ringWriteComplete a) s = .next t ∧
       (let line := w.channel.val * s.capture.ringLines + w.index
        Memory.read t.capture.memory line = (if a = .fault then none else some w.data) ∧
        ∀ k, k ≠ line → Memory.read t.capture.memory k = Memory.read s.capture.memory k) ∧
       t.capture.rings =
         (if w.voided then s.capture.rings
          else put s.capture.rings w.channel
           { s.capture.rings[w.channel] with
             marks := (s.capture.rings[w.channel]).marks.set w.index (if a = .fault then .bad else .held) }) ∧
       t.capture.failures = (if a = .fault then s.capture.failures + 1 else 0) ∧
       t.link.counts =
         (match a with
          | .done => s.link.counts
          | .split => { s.link.counts with split := min 65535 (s.link.counts.split + 1) }
          | .fault => { s.link.counts with fault := min 65535 (s.link.counts.fault + 1) }) ∧
       t.lanes = s.lanes ∧ SameMeasuring s t ∧ SameSettings s t) ∧
  (∀ (x : Access) (s : State), s.running = true → s.capture.access = some x → s.capture.port = .ready →
     x.started + 16 ≤ s.timebase.uptime → ∃ t, exec .timeout s = .next t ∧
       t.capture.failures = s.capture.failures + 1 ∧
       t.link.counts.fault = min 65535 (s.link.counts.fault + 1) ∧
       (s.capture.failures < 3 → t.capture.port = .ready) ∧
       (3 ≤ s.capture.failures → t.capture.port = .failed ∧ t.capture.queue = [] ∧ t.capture.access = none ∧
         t.capture.dump = none ∧ ∀ i : Fin 64, t.capture.segments[i] = none) ∧
       t.lanes = s.lanes ∧ SameMeasuring s t ∧ SameSettings s t) ∧
  (∀ (x : Access) (c : Instr) (o : AccessOutcome) (s : State), s.running = true → s.run.bypass = false →
     s.capture.access = some x → s.capture.port = .ready → 3 ≤ s.capture.failures →
     (o = .fault ∧ (c = match x.op with
       | .write _ => .ringWriteComplete .fault
       | .readout _ _ _ _ => .readoutReadComplete .fault
       | .dump _ _ => .dumpReadComplete .fault)) ∨
     (o = .timeout ∧ c = .timeout ∧ x.started + 16 ≤ s.timebase.uptime) →
     let freed := (List.finRange 64).countP (fun i : Fin 64 => decide (s.capture.segments[i] ≠ none))
     let kind := match x.op with
       | .write _ => AccessKind.ringWrite
       | .readout _ _ _ _ => .readout
       | .dump _ _ => .dump
     let told : Record :=
       .notice { part := s.run.address, tick := s.timebase.counter, body := .capture kind o freed }
     ∃ t, exec c s = .next t ∧ t.capture.port = .failed ∧ t.capture.queue = [] ∧ t.capture.access = none ∧
       t.capture.dump = none ∧ (∀ i : Fin 64, t.capture.segments[i] = none) ∧
       t.capture.failures = s.capture.failures + 1 ∧
       t.link.counts.fault = min 65535 (s.link.counts.fault + 1) ∧
       (s.link.fill + 5 ≤ 3584 → ∃ first more, t.link.own = s.link.own ++ first ++ told :: more ∧
         ((∃ w, x.op = .write w) → first = []) ∧
         (∀ (i : Fin 64) (off : Int) (line : Nat) (g : Segment), x.op = .readout i off line true →
           s.capture.segments[i] = some g → first = [.trace
             { part := s.run.address, segment := some i, sensor := g.sensor, tick := g.arrival, offset := some off,
               cut := g.lost.length - g.lostReported, samples := none, gap := false, damaged := true, lost := false,
               isEnd := false, dump := false }]) ∧
         (∀ (line : Nat) (d : Dump) (e : Fin 32) (es : List (Fin 32)), x.op = .dump line true →
           s.capture.dump = some d → d.channels = e :: es → first = [.trace
             { part := s.run.address, segment := none, sensor := (s.sensorMap[e]).getD 0, tick := dumpTick s e d.line,
               offset := none, cut := 0, samples := none, gap := false, damaged := true, lost := false,
               isEnd := false, dump := true }]) ∧
         (s.link.fill + 5 + 3 * 64 ≤ 3584 →
           (∀ (i : Fin 64) (g : Segment), s.capture.segments[i] = some g → ∃ cut, .trace
             { part := s.run.address, segment := some i, sensor := g.sensor, tick := g.arrival, offset := none,
               cut := cut, samples := none, gap := false, damaged := true, lost := false, isEnd := true,
               dump := false } ∈ more ∧
             ((∃ w, x.op = .write w) → cut = g.lost.length - g.lostReported)) ∧
           ∀ d, s.capture.dump = some d → ∃ sent damaged, more.getLast? = some (.notice
             { part := s.run.address, tick := s.timebase.counter, body := .dump sent damaged true }) ∧
             ((∃ w, x.op = .write w) → sent = d.sent ∧ damaged = d.damaged))) ∧
       t.lanes = s.lanes ∧ SameMeasuring s t ∧ SameSettings s t)

/-- READOUT_READ_COMPLETE and DUMP_READ_COMPLETE: the trace record of the line is offered, with its samples after DONE or SPLIT
and flagged DAMAGED with none after FAULT; the port is free again (R133, R140, R144). The segment notes the losses announced and,
after FAULT, that it is DAMAGED; a READING segment with no line left that is unread and not lost offers its closing record, with
END, and LOST when the last line of its order was lost, and is FREE, and the next segment is selected (R140, R141). The dump
counts the line as sent, and as damaged after FAULT, and goes on to the next line or the next channel; after the last line of the
last channel it ends with a DUMP notice, stopped 0 (R144, R145).
What an unlisted memory line holds is the model's free value (log entry 9), and that a closing record has no offset its choice
(log entry 24). -/
def Obligations.ReadCompletes : Prop :=
  ∀ (n line : Nat) (a : Answered) (s : State), s.running = true → s.capture.failures < 3 → s.run.bypass = false →
    s.link.fill + 8 ≤ 3584 → s.capture.queue = [] →
    (∀ (i : Fin 64) (o : Int) (g : Segment),
      s.capture.access = some { op := .readout i o line true, started := n } → s.capture.segments[i] = some g →
      let ends := g.stage = .reading ∧ g.unread = []
      ∃ t, exec (.readoutReadComplete a) s = .next (selectReadout t) ∧ t.capture.access = none ∧
        t.link.own = s.link.own ++ .trace
          { part := s.run.address, segment := some i, sensor := g.sensor, tick := g.arrival, offset := some o,
            cut := g.lost.length - g.lostReported,
            samples := if a = .fault then none else some (Memory.fetch s.capture.memory line), gap := false,
            damaged := decide (a = .fault), lost := false, isEnd := false, dump := false } ::
          (if ends then [.trace
            { part := s.run.address, segment := some i, sensor := g.sensor, tick := g.arrival, offset := none, cut := 0,
              samples := none, gap := false, damaged := g.damaged || decide (a = .fault),
              lost := g.order.getLast?.any (fun y => decide (y ∈ g.lost)), isEnd := true, dump := false }]
           else []) ∧
        t.capture.segments = put s.capture.segments i
          (if ends then none
           else some { g with lostReported := g.lost.length, damaged := g.damaged || decide (a = .fault) }) ∧
        t.capture.memory = s.capture.memory ∧ t.capture.rings = s.capture.rings ∧ t.capture.dump = s.capture.dump ∧
        t.lanes = s.lanes ∧ SameMeasuring s t ∧ SameSettings s t) ∧
    (∀ (d : Dump) (c : Fin 32) (cs : List (Fin 32)),
      s.capture.access = some { op := .dump line true, started := n } → s.capture.dump = some d →
      d.channels = c :: cs →
      let next : Dump :=
        { channels := if d.line + 1 < s.capture.dumpDepth then c :: cs else cs
          line := if d.line + 1 < s.capture.dumpDepth then d.line + 1 else 0
          sent := d.sent + 1, damaged := d.damaged + if a = .fault then 1 else 0 }
      ∃ t, exec (.dumpReadComplete a) s = .next (selectReadout t) ∧ t.capture.access = none ∧
        t.link.own = s.link.own ++ .trace
          { part := s.run.address, segment := none, sensor := (s.sensorMap[c]).getD 0, tick := dumpTick s c d.line,
            offset := none, cut := 0,
            samples := if a = .fault then none else some (Memory.fetch s.capture.memory line), gap := false,
            damaged := decide (a = .fault), lost := false, isEnd := false, dump := true } ::
          (if next.channels = [] then [.notice
            { part := s.run.address, tick := s.timebase.counter, body := .dump next.sent next.damaged false }] else []) ∧
        t.capture.dump = (if next.channels = [] then none else some next) ∧
        t.capture.segments = s.capture.segments ∧ t.capture.memory = s.capture.memory ∧
        t.capture.rings = s.capture.rings ∧ t.lanes = s.lanes ∧ SameMeasuring s t ∧ SameSettings s t)

/-- READOUT_LINE_START and DUMP_LINE_START, with the port free and READY, the write queue empty and the fill below 2,048:
lost lines are passed over, and the next line that is not lost is taken; a HELD line's read begins; a VOID line gives a
record flagged GAP, and a BAD line one flagged DAMAGED, with no samples and no read, announcing the losses with CUT. A
READING segment that has no line left then, or had none but lost ones, offers its closing record and is FREE, and the next
segment is selected (R140 to R142). A dump's VOID or BAD line counts as sent, a BAD one as damaged, and after the last line
of the last channel the dump ends with a DUMP notice, stopped 0 (R144, R145). At a fill of 2,048 or more neither takes a
line, nor the readout in bypass.
That the segment's place moves on when its read begins (log entry 31), the uptime noted with an access (log entry 5), that a
dump with no channel ends at its first line start (log entry 26), and that a closing record has no offset (log entry 24), are
the model's deduction and choice. -/
def Obligations.LineStarts : Prop :=
  ∀ s : State, s.running = true →
    (2048 ≤ s.link.fill → exec .readoutLineStart s = .next s ∧ exec .dumpLineStart s = .next s) ∧
    (s.run.bypass = true → exec .readoutLineStart s = .next s) ∧
    (s.link.fill < 2048 → s.capture.access = none → s.capture.port = .ready → s.capture.queue = [] →
      (∀ (i : Fin 64) (g : Segment), s.run.bypass = false → readingSegment s = some (i, g) →
        let closing := fun (cut : Nat) (damaged : Bool) => Record.trace
          { part := s.run.address, segment := some i, sensor := g.sensor, tick := g.arrival, offset := none, cut := cut,
            samples := none, gap := false, damaged := damaged,
            lost := g.order.getLast?.any (fun y => decide (y ∈ g.lost)), isEnd := true, dump := false }
        (∀ (skipped : List Int) (o : Int) (left : List Int), g.order.drop g.nextPos = skipped ++ o :: left →
          (∀ y ∈ skipped, y ∈ g.lost) → o ∉ g.lost →
          let k := lineIndex s.capture.ringLines g.trigger o
          let bad := decide (markAt s g.channel k = .bad)
          let ends := ∀ y ∈ left, y ∈ g.lost
          let moved : Segment := { g with nextPos := g.nextPos + skipped.length + 1 }
          ∃ t, exec .readoutLineStart s = .next (selectReadout t) ∧
            (markAt s g.channel k = .held →
              t.capture.access = some
                { op := .readout i o (g.channel.val * s.capture.ringLines + k) true, started := s.timebase.uptime } ∧
              t.capture.segments = put s.capture.segments i (some moved) ∧ t.link = s.link) ∧
            (markAt s g.channel k ≠ .held → t.capture.access = none ∧
              t.link.own = s.link.own ++ .trace
                { part := s.run.address, segment := some i, sensor := g.sensor, tick := g.arrival, offset := some o,
                  cut := g.lost.length - g.lostReported, samples := none,
                  gap := decide (markAt s g.channel k = .void), damaged := bad, lost := false, isEnd := false,
                  dump := false } :: (if ends then [closing 0 (g.damaged || bad)] else []) ∧
              t.capture.segments = put s.capture.segments i
                (if ends then none
                 else some { moved with lostReported := g.lost.length, damaged := g.damaged || bad })) ∧
            t.capture.dump = s.capture.dump ∧ t.lanes = s.lanes ∧ SameMeasuring s t ∧ SameSettings s t) ∧
        ((∀ y ∈ g.order.drop g.nextPos, y ∈ g.lost) →
          ∃ t, exec .readoutLineStart s = .next (selectReadout t) ∧ t.capture.access = none ∧
            t.link.own = s.link.own ++ [closing (g.lost.length - g.lostReported) g.damaged] ∧
            t.capture.segments = put s.capture.segments i none ∧ t.lanes = s.lanes ∧ SameMeasuring s t ∧
            SameSettings s t)) ∧
      (∀ d : Dump, s.run.bypass = false → s.capture.dump = some d →
        (d.channels = [] → ∃ t, exec .dumpLineStart s = .next t ∧ t.capture.dump = none ∧
          t.link.own = s.link.own ++ [.notice
            { part := s.run.address, tick := s.timebase.counter, body := .dump d.sent d.damaged false }]) ∧
        (∀ (c : Fin 32) (cs : List (Fin 32)), d.channels = c :: cs →
          let k := dumpIndex s c d.line
          let bad := decide (markAt s c k = .bad)
          let next : Dump :=
            { channels := if d.line + 1 < s.capture.dumpDepth then c :: cs else cs
              line := if d.line + 1 < s.capture.dumpDepth then d.line + 1 else 0
              sent := d.sent + 1, damaged := d.damaged + if bad then 1 else 0 }
          ∃ t, exec .dumpLineStart s = .next t ∧
            (markAt s c k = .held → t = s.setCapture
              { s.capture with
                access := some
                  { op := .dump (c.val * s.capture.ringLines + k) true, started := s.timebase.uptime } }) ∧
            (markAt s c k ≠ .held → t.capture.access = none ∧
              t.link.own = s.link.own ++ .trace
                { part := s.run.address, segment := none, sensor := (s.sensorMap[c]).getD 0,
                  tick := dumpTick s c d.line, offset := none, cut := 0, samples := none,
                  gap := decide (markAt s c k = .void), damaged := bad, lost := false,
                  isEnd := false, dump := true } ::
                (if next.channels = [] then [.notice
                  { part := s.run.address, tick := s.timebase.counter, body := .dump next.sent next.damaged false }]
                 else []) ∧
              t.capture.dump = (if next.channels = [] then none else some next) ∧
              t.capture.segments = s.capture.segments) ∧
            t.lanes = s.lanes ∧ SameMeasuring s t ∧ SameSettings s t)))

/-- What the capture unit does whenever it can. While no segment is READING, the SEALED one with the earliest hit arrival, and of
equal arrivals the lowest-numbered, becomes READING; otherwise nothing is selected (R140). The free, READY port begins the write
at the head of the ring write queue, and no other write is begun (R134). A command that may enable either ends by making both.
Where the arrivals do not all lie within 2^47 ticks their order is not defined, and nothing is said of the selection. That both
are made at the end of the command is the model's deduction (log entry 21), and the uptime noted its choice (log entry 5). -/
def Obligations.ReadoutSelectsEarliest : Prop :=
  (∀ s : State,
     let here := fun (i : Fin 64) (g : Segment) (x : SegStage) => s.capture.segments[i] = some g ∧ g.stage = x
     ((∃ i g, here i g .reading) ∨ (∀ i g, ¬ here i g .sealed) → selectReadout s = s) ∧
     (∀ (i : Fin 64) (g : Segment) (from_ : Tick), (∀ j h, ¬ here j h .reading) → here i g .sealed →
       (∀ j h, here j h .sealed → (h.arrival - from_).toNat < 2 ^ 47) →
       (∀ j h, here j h .sealed → j ≠ i → earlier g.arrival h.arrival = true ∨ (g.arrival = h.arrival ∧ i < j)) →
       selectReadout s = s.setSegment i (some { g with stage := .reading })) ∧
     (∀ (i : Fin 64) (g : Segment), here i g .reading → (∀ j h, here j h .reading → j = i) →
       readingSegment s = some (i, g))) ∧
  (∀ (s : State), settleCapture s = beginWrite (selectReadout s) ∧
     (∀ (w : RingWrite) (ws : List RingWrite), s.capture.access = none → s.capture.port = .ready →
       s.capture.queue = w :: ws → beginWrite s = s.setCapture
         { s.capture with access := some { op := .write w, started := s.timebase.uptime }, queue := ws }) ∧
     (s.capture.access ≠ none ∨ s.capture.port = .failed ∨ s.capture.queue = [] → beginWrite s = s))

/-! ## Wire formats -/

/-- The bodies of the records and answers that are sent, field by field at the offsets of the layouts (R73, R107, R141, R144, R157,
R179, R190, R192, R193); the codes are the positions of the values in their lists.
That a byte which no row of a layout names is zero is the model's choice (log entry 46), as is the offset of a closing record (log
entry 24). -/
def Obligations.RecordsLaidOut : Prop :=
  let phase := fun (x : Phase) =>
    match x with
    | .below => 0 | .ramp => 1 | .hold => 2 | .fall => 3 | .reload => 4 | .nogauge => 5
  let lane := fun (x : LaneState) => match x with | .off => 0 | .down => 1 | .aligning => 2 | .up => 3
  let alarm := fun (x : Alarm) => match x with | .quiet => 0 | .watch => 1 | .alarm _ => 2
  let burst := fun (x : BurstCause) => match x with | .pressure => 0 | .saturation => 1 | .manual => 2 | .chained => 3
  let starts := fun (b : List Byte) (kind part units fourth : Nat) =>
    b.length = 16 * units ∧ fieldAt b 0 1 = kind ∧ fieldAt b 1 1 = part % 256 ∧ fieldAt b 2 1 = units % 256 ∧
      fieldAt b 3 1 = fourth
  let zeros := fun (b : List Byte) (i n : Nat) => ∀ j : Nat, i ≤ j → j < n → byteAt b j = 0
  (∀ h : HitRecord,
     let b := Record.body (.hit h)
     starts b 1 h.part 4 (h.sat.toNat + 2 * h.test.toNat + 4 * h.nocap.toNat + 8 * h.shared.toNat +
       16 * h.pressure.isSome.toNat + 32 * h.segment.isSome.toNat + 64 * h.group.isSome.toNat) ∧
     fieldAt b 4 1 = h.channel.val ∧ fieldAt b 5 1 = h.sensor.val ∧ fieldAt b 6 6 = h.arrival.toNat ∧
     fieldAt b 12 2 = h.rise % 2 ^ 16 ∧ fieldAt b 14 3 = h.duration % 2 ^ 24 ∧
     fieldAt b 17 1 = (match h.cause with | .quiet => 0 | .limit => 1 | .skip => 2 | .lost => 3 | .halt => 4) ∧
     fieldAt b 18 1 = h.bank.val ∧ fieldAt b 19 1 = phase h.phase ∧ fieldAt b 20 2 = h.crossings % 2 ^ 16 ∧
     fieldAt b 22 2 = h.peak % 2 ^ 16 ∧ fieldAt b 24 4 = h.energy % 2 ^ 32 ∧
     fieldAt b 28 2 = h.pressure.getD 0 % 2 ^ 16 ∧ fieldAt b 30 1 = (h.segment.map Fin.val).getD 0 ∧ zeros b 31 32 ∧
     fieldAt b 32 4 = (h.group.map BitVec.toNat).getD 0 ∧ zeros b 36 64) ∧
  (∀ e : EventRecord,
     let b := Record.body (.event e)
     let n := e.members.length
     starts b 2 e.part (3 + (n + 1) / 2) (e.crowded.toNat + 2 * e.late.toNat + 4 * e.halted.toNat +
       8 * e.behind.toNat + 16 * e.afterburst.toNat + 32 * e.splitvote.toNat + 64 * e.cell.isSome.toNat +
       128 * e.pressure.isSome.toNat) ∧
     fieldAt b 4 4 = e.group.toNat ∧ fieldAt b 8 6 = e.anchor.toNat ∧ fieldAt b 14 1 = n % 256 ∧
     fieldAt b 15 1 = (match e.method with | .pair => 0 | .zone => 1 | .none => 2) ∧
     fieldAt b 16 2 = (e.cell.map Fin.val).getD 0 ∧ fieldAt b 18 2 = e.pressure.getD 0 % 2 ^ 16 ∧
     fieldAt b 20 1 = phase e.phase ∧ zeros b 21 24 ∧ fieldAt b 24 4 = e.energy % 2 ^ 32 ∧ zeros b 28 48 ∧
     (∀ (i : Nat) (m : MemberEntry), e.members[i]? = some m →
       fieldAt b (48 + 8 * i) 1 = m.sensor.val ∧ fieldAt b (49 + 8 * i) 1 = m.sat.toNat ∧
       fieldAt b (50 + 8 * i) 2 = m.delay % 2 ^ 16 ∧ fieldAt b (52 + 8 * i) 2 = m.peak % 2 ^ 16 ∧
       fieldAt b (54 + 8 * i) 2 = 0) ∧
     zeros b (48 + 8 * n) b.length) ∧
  (∀ t : TraceRecord, (∀ l, t.samples = some l → l.length = 16) →
     let b := Record.body (.trace t)
     starts b 3 t.part 3 (t.gap.toNat + 2 * t.damaged.toNat + 4 * (decide (t.cut ≠ 0)).toNat + 8 * t.lost.toNat +
       16 * t.isEnd.toNat + 32 * t.dump.toNat + 64 * t.samples.isSome.toNat) ∧
     fieldAt b 4 1 = (t.segment.map Fin.val).getD 255 ∧ fieldAt b 5 1 = t.sensor.val ∧ fieldAt b 6 6 = t.tick.toNat ∧
     fieldAt b 12 2 = (BitVec.ofInt 16 (t.offset.getD 0)).toNat ∧ fieldAt b 14 2 = t.cut % 2 ^ 16 ∧
     (∀ l (i : Nat) (x : Sample), t.samples = some l → l[i]? = some x → fieldAt b (16 + 2 * i) 2 = x.toNat) ∧
     (t.samples = none → zeros b 16 48)) ∧
  (∀ n : Notice,
     let b := Record.body (.notice n)
     fieldAt b 4 6 = n.tick.toNat ∧
     match n.body with
     | .lane l old new cause => starts b 4 n.part 2 0 ∧ fieldAt b 10 1 = l.val ∧ fieldAt b 11 1 = lane old ∧
       fieldAt b 12 1 = lane new ∧
       fieldAt b 13 1 =
         (match cause with | .signal => 0 | .aligned => 1 | .noSignal => 2 | .checks => 3 | .role => 4) ∧
       zeros b 14 32
     | .phase old new p m => starts b 4 n.part 2 1 ∧ fieldAt b 10 1 = phase old ∧ fieldAt b 11 1 = phase new ∧
       fieldAt b 12 1 = p.isSome.toNat ∧ fieldAt b 13 2 = p.getD 0 % 2 ^ 16 ∧ fieldAt b 15 2 = m % 2 ^ 16 ∧
       zeros b 17 32
     | .cell c old new cause => starts b 4 n.part 2 2 ∧ fieldAt b 10 2 = c.val ∧ fieldAt b 12 1 = alarm old ∧
       fieldAt b 13 1 = alarm new ∧
       fieldAt b 14 1 =
         (match cause with
          | .hold => 0 | .reload => 1 | .energy => 2 | .rate => 3 | .decay => 4 | .clear => 5 | .start => 6) ∧
       zeros b 15 32
     | .burst cause at_ p m => starts b 4 n.part 2 3 ∧ fieldAt b 10 1 = burst cause ∧ fieldAt b 11 6 = at_.toNat ∧
       fieldAt b 17 1 = p.isSome.toNat ∧ fieldAt b 18 2 = p.getD 0 % 2 ^ 16 ∧ fieldAt b 20 2 = m % 2 ^ 16 ∧
       zeros b 22 32
     | .frozen cause at_ freed => starts b 4 n.part 2 4 ∧ fieldAt b 10 1 = (cause.map burst).getD 0 ∧
       fieldAt b 11 6 = (at_.map BitVec.toNat).getD 0 ∧ fieldAt b 17 1 = freed % 256 ∧ zeros b 18 32
     | .capture kind outcome freed => starts b 4 n.part 2 5 ∧
       fieldAt b 10 1 = (match kind with | .ringWrite => 0 | .readout => 1 | .dump => 2) ∧
       (outcome = .fault → fieldAt b 11 1 = 0) ∧ (outcome = .timeout → fieldAt b 11 1 = 1) ∧
       fieldAt b 12 1 = freed % 256 ∧ zeros b 13 32
     | .dump sent damaged stopped => starts b 4 n.part 2 6 ∧ fieldAt b 10 4 = sent % 2 ^ 32 ∧
       fieldAt b 14 4 = damaged % 2 ^ 32 ∧ fieldAt b 18 1 = stopped.toNat ∧ zeros b 19 32) ∧
  (∀ t : TallyRecord,
     let b := Record.body (.tally t)
     let k := t.counts
     starts b 5 t.part 4 0 ∧ fieldAt b 4 6 = t.tick.toNat ∧ fieldAt b 10 2 = k.shedHit % 2 ^ 16 ∧
     fieldAt b 12 2 = k.shedEvent % 2 ^ 16 ∧ fieldAt b 14 2 = k.shedTrace % 2 ^ 16 ∧
     fieldAt b 16 2 = k.shedNotice % 2 ^ 16 ∧ fieldAt b 18 2 = k.shedPulse % 2 ^ 16 ∧
     fieldAt b 20 2 = k.shedTally % 2 ^ 16 ∧
     (∀ l : Fin 4, fieldAt b (22 + 4 * l.val) 2 = (t.lanes[l]).1 % 2 ^ 16 ∧
       fieldAt b (24 + 4 * l.val) 2 = (t.lanes[l]).2 % 2 ^ 16) ∧
     fieldAt b 38 2 = k.split % 2 ^ 16 ∧ fieldAt b 40 2 = k.fault % 2 ^ 16 ∧
     fieldAt b 42 2 = k.discardedOrders % 2 ^ 16 ∧ fieldAt b 44 2 = k.badOrders % 2 ^ 16 ∧
     fieldAt b 46 2 = k.badRecords % 2 ^ 16 ∧ fieldAt b 48 2 = k.overflow % 2 ^ 16 ∧
     fieldAt b 50 2 = t.highWater % 2 ^ 16 ∧ fieldAt b 52 1 = t.openGroups % 256 ∧
     fieldAt b 53 1 = t.freeSegments % 256 ∧ zeros b 54 64) ∧
  (∀ q : PulseRecord,
     let b := Record.body (.pulse q)
     let n := q.entries.length
     starts b 7 q.part (2 + (n + 1) / 2)
       (match q.cause with | .done => 0 | .nofire => 1 | .laneLost => 2 | .aborted => 3) ∧
     fieldAt b 4 2 = q.tag % 2 ^ 16 ∧ fieldAt b 6 1 = q.source.val ∧ fieldAt b 7 1 = n % 256 ∧
     fieldAt b 8 2 = q.window % 2 ^ 16 ∧ fieldAt b 10 6 = q.sendTick.toNat ∧
     fieldAt b 16 6 = (q.fireTick.map BitVec.toNat).getD 0 ∧ fieldAt b 22 1 = q.fireTick.isSome.toNat ∧ zeros b 23 32 ∧
     (∀ (i : Nat) (m : Fin 32) (x : TestEntry), q.entries[i]? = some (m, x) →
       fieldAt b (32 + 8 * i) 1 = m.val ∧ fieldAt b (33 + 8 * i) 1 = 0 ∧
       fieldAt b (34 + 8 * i) 2 = x.delay % 2 ^ 16 ∧ fieldAt b (36 + 8 * i) 2 = x.peak % 2 ^ 16 ∧
       fieldAt b (38 + 8 * i) 2 = 0) ∧
     zeros b (32 + 8 * n) b.length) ∧
  (∀ a : Answer,
     let b := a.body
     let n := a.contents.length
     starts b 6 a.part (2 + (n + 15) / 16) a.reason.isSome.toNat ∧ fieldAt b 4 2 = a.tag.toNat ∧
     byteAt b 6 = a.kind ∧
     fieldAt b 7 1 =
       (match a.reason with
        | none => 0 | some .state => 1 | some .busy => 2 | some .range => 3 | some .inUse => 4
        | some .duplicate => 5 | some .conflict => 6 | some .noItem => 7 | some .readonly => 8 | some .time => 9
        | some .lane => 10 | some .nosensor => 11 | some .unclaimed => 12) ∧
     byteAt b 8 = a.item ∧ zeros b 9 10 ∧ fieldAt b 10 2 = a.index % 2 ^ 16 ∧ zeros b 12 32 ∧
     (b.drop 32).take n = a.contents ∧ zeros b (32 + n) b.length)

/-- A frame as a pod, the gauge, a near partner or a far partner sends it is read back with every field (R10, R175, R191). -/
def Obligations.FramesReadBack : Prop :=
  (∀ f : SampleFrame, f.samples.length = 128 → readSampleFrame f.bytes = some f) ∧
  (∀ f : GaugeFrame, f.pressure < 65536 → readGaugeFrame f.bytes = some f) ∧
  (∀ (q : Byte) (o : Order) (n : Nat), n ≤ 7 → o.args.length = 16 * n →
    readLinkFrame .near (orderFrame o q) = some (.order o) ∧ frameSeq (orderFrame o q) = q) ∧
  (∀ (q : Byte) (m : Mark), readLinkFrame .near (markFrame m q) = some (.mark m)) ∧
  (∀ (q : Byte) (p : Port), readLinkFrame p (idleFrame q) = some .idle) ∧
  (∀ (q : Byte) (body : List Byte) (n : Nat), 1 ≤ n → n ≤ 32 → body.length = 16 * n →
    readLinkFrame .far (recordFrame body q) = some (.record body))

/-! ## Invariants -/

/-- Every step keeps the capture memory's contents in canonical form.
The form is the model's choice (log entry 9). -/
def Obligations.MemoryStaysCanonical : Prop :=
  ∀ s t : State, MemoryCanonical s → step s = .next t → MemoryCanonical t

/-- Every step keeps the own record queue, the answer queue, the order intake, the pass-through buffer, the forward queue, the
open group list and every group's member list, the test hold list, the ring write queue and the gauge history within the
capacity the manual gives each (R29, R79, R81, R83, R130, R150, R177, R179, R181, R183, R184).
That the write in progress does not count among the 128 of the ring write queue is the model's choice (log entry 43). -/
def Obligations.CapacitiesKept : Prop :=
  ∀ s t : State, WithinCapacity s → step s = .next t → WithinCapacity t

/-- Every step keeps at most one GAUGE lane, no sensor on two channels, and no key in two slots of the pair table (R3, R50,
R99). -/
def Obligations.TablesStayLawful : Prop :=
  ∀ s t : State, TablesLawful s → step s = .next t → TablesLawful t

/-- Every step keeps a part in bypass IDLE with no pulse test in flight, and no test in flight in TAILING or FROZEN (R155,
R173). -/
def Obligations.RunStatesStayLawful : Prop :=
  ∀ s t : State, RunLawful s → step s = .next t → RunLawful t

/-- The four invariants hold at reset. -/
def Obligations.InvariantsAtReset : Prop :=
  MemoryCanonical State.reset ∧ WithinCapacity State.reset ∧ TablesLawful State.reset ∧ RunLawful State.reset
end

