-- ==== Sys2Proof/Laws/State.lean ====
section
/-! SUPPORT. One lemma per field per update of a block of the state; reading an entry of a table after an entry was put in
it; updates of entries as updates of their tables. -/

namespace Sys2Proof.Machine

/-! ## After an update of `power` -/

@[simp] theorem State.setPower_power (s : State) (x) : (s.setPower x).power = x := rfl
@[simp] theorem State.setPower_timebase (s : State) (x) : (s.setPower x).timebase = s.timebase := rfl
@[simp] theorem State.setPower_lanes (s : State) (x) : (s.setPower x).lanes = s.lanes := rfl
@[simp] theorem State.setPower_tracker (s : State) (x) : (s.setPower x).tracker = s.tracker := rfl
@[simp] theorem State.setPower_channels (s : State) (x) : (s.setPower x).channels = s.channels := rfl
@[simp] theorem State.setPower_phaseMap (s : State) (x) : (s.setPower x).phaseMap = s.phaseMap := rfl
@[simp] theorem State.setPower_sensorMap (s : State) (x) : (s.setPower x).sensorMap = s.sensorMap := rfl
@[simp] theorem State.setPower_detectors (s : State) (x) : (s.setPower x).detectors = s.detectors := rfl
@[simp] theorem State.setPower_grouping (s : State) (x) : (s.setPower x).grouping = s.grouping := rfl
@[simp] theorem State.setPower_pairs (s : State) (x) : (s.setPower x).pairs = s.pairs := rfl
@[simp] theorem State.setPower_cells (s : State) (x) : (s.setPower x).cells = s.cells := rfl
@[simp] theorem State.setPower_capture (s : State) (x) : (s.setPower x).capture = s.capture := rfl
@[simp] theorem State.setPower_pulse (s : State) (x) : (s.setPower x).pulse = s.pulse := rfl
@[simp] theorem State.setPower_run (s : State) (x) : (s.setPower x).run = s.run := rfl
@[simp] theorem State.setPower_link (s : State) (x) : (s.setPower x).link = s.link := rfl
@[simp] theorem State.setPower_fireMark (s : State) (x) : (s.setPower x).fireMark = s.fireMark := rfl
@[simp] theorem State.setPower_pending (s : State) (x) : (s.setPower x).pending = s.pending := rfl
@[simp] theorem State.setPower_self (s : State) : s.setPower s.power = s := rfl
@[simp] theorem State.setPower_twice (s : State) (x y) : (s.setPower x).setPower y = s.setPower y := rfl

/-! ## After an update of `timebase` -/

@[simp] theorem State.setTimebase_power (s : State) (x) : (s.setTimebase x).power = s.power := rfl
@[simp] theorem State.setTimebase_timebase (s : State) (x) : (s.setTimebase x).timebase = x := rfl
@[simp] theorem State.setTimebase_lanes (s : State) (x) : (s.setTimebase x).lanes = s.lanes := rfl
@[simp] theorem State.setTimebase_tracker (s : State) (x) : (s.setTimebase x).tracker = s.tracker := rfl
@[simp] theorem State.setTimebase_channels (s : State) (x) : (s.setTimebase x).channels = s.channels := rfl
@[simp] theorem State.setTimebase_phaseMap (s : State) (x) : (s.setTimebase x).phaseMap = s.phaseMap := rfl
@[simp] theorem State.setTimebase_sensorMap (s : State) (x) : (s.setTimebase x).sensorMap = s.sensorMap := rfl
@[simp] theorem State.setTimebase_detectors (s : State) (x) : (s.setTimebase x).detectors = s.detectors := rfl
@[simp] theorem State.setTimebase_grouping (s : State) (x) : (s.setTimebase x).grouping = s.grouping := rfl
@[simp] theorem State.setTimebase_pairs (s : State) (x) : (s.setTimebase x).pairs = s.pairs := rfl
@[simp] theorem State.setTimebase_cells (s : State) (x) : (s.setTimebase x).cells = s.cells := rfl
@[simp] theorem State.setTimebase_capture (s : State) (x) : (s.setTimebase x).capture = s.capture := rfl
@[simp] theorem State.setTimebase_pulse (s : State) (x) : (s.setTimebase x).pulse = s.pulse := rfl
@[simp] theorem State.setTimebase_run (s : State) (x) : (s.setTimebase x).run = s.run := rfl
@[simp] theorem State.setTimebase_link (s : State) (x) : (s.setTimebase x).link = s.link := rfl
@[simp] theorem State.setTimebase_fireMark (s : State) (x) : (s.setTimebase x).fireMark = s.fireMark := rfl
@[simp] theorem State.setTimebase_pending (s : State) (x) : (s.setTimebase x).pending = s.pending := rfl
@[simp] theorem State.setTimebase_self (s : State) : s.setTimebase s.timebase = s := rfl
@[simp] theorem State.setTimebase_twice (s : State) (x y) : (s.setTimebase x).setTimebase y = s.setTimebase y := rfl

/-! ## After an update of `lanes` -/

@[simp] theorem State.setLanes_power (s : State) (x) : (s.setLanes x).power = s.power := rfl
@[simp] theorem State.setLanes_timebase (s : State) (x) : (s.setLanes x).timebase = s.timebase := rfl
@[simp] theorem State.setLanes_lanes (s : State) (x) : (s.setLanes x).lanes = x := rfl
@[simp] theorem State.setLanes_tracker (s : State) (x) : (s.setLanes x).tracker = s.tracker := rfl
@[simp] theorem State.setLanes_channels (s : State) (x) : (s.setLanes x).channels = s.channels := rfl
@[simp] theorem State.setLanes_phaseMap (s : State) (x) : (s.setLanes x).phaseMap = s.phaseMap := rfl
@[simp] theorem State.setLanes_sensorMap (s : State) (x) : (s.setLanes x).sensorMap = s.sensorMap := rfl
@[simp] theorem State.setLanes_detectors (s : State) (x) : (s.setLanes x).detectors = s.detectors := rfl
@[simp] theorem State.setLanes_grouping (s : State) (x) : (s.setLanes x).grouping = s.grouping := rfl
@[simp] theorem State.setLanes_pairs (s : State) (x) : (s.setLanes x).pairs = s.pairs := rfl
@[simp] theorem State.setLanes_cells (s : State) (x) : (s.setLanes x).cells = s.cells := rfl
@[simp] theorem State.setLanes_capture (s : State) (x) : (s.setLanes x).capture = s.capture := rfl
@[simp] theorem State.setLanes_pulse (s : State) (x) : (s.setLanes x).pulse = s.pulse := rfl
@[simp] theorem State.setLanes_run (s : State) (x) : (s.setLanes x).run = s.run := rfl
@[simp] theorem State.setLanes_link (s : State) (x) : (s.setLanes x).link = s.link := rfl
@[simp] theorem State.setLanes_fireMark (s : State) (x) : (s.setLanes x).fireMark = s.fireMark := rfl
@[simp] theorem State.setLanes_pending (s : State) (x) : (s.setLanes x).pending = s.pending := rfl
@[simp] theorem State.setLanes_self (s : State) : s.setLanes s.lanes = s := rfl
@[simp] theorem State.setLanes_twice (s : State) (x y) : (s.setLanes x).setLanes y = s.setLanes y := rfl

/-! ## After an update of `tracker` -/

@[simp] theorem State.setTracker_power (s : State) (x) : (s.setTracker x).power = s.power := rfl
@[simp] theorem State.setTracker_timebase (s : State) (x) : (s.setTracker x).timebase = s.timebase := rfl
@[simp] theorem State.setTracker_lanes (s : State) (x) : (s.setTracker x).lanes = s.lanes := rfl
@[simp] theorem State.setTracker_tracker (s : State) (x) : (s.setTracker x).tracker = x := rfl
@[simp] theorem State.setTracker_channels (s : State) (x) : (s.setTracker x).channels = s.channels := rfl
@[simp] theorem State.setTracker_phaseMap (s : State) (x) : (s.setTracker x).phaseMap = s.phaseMap := rfl
@[simp] theorem State.setTracker_sensorMap (s : State) (x) : (s.setTracker x).sensorMap = s.sensorMap := rfl
@[simp] theorem State.setTracker_detectors (s : State) (x) : (s.setTracker x).detectors = s.detectors := rfl
@[simp] theorem State.setTracker_grouping (s : State) (x) : (s.setTracker x).grouping = s.grouping := rfl
@[simp] theorem State.setTracker_pairs (s : State) (x) : (s.setTracker x).pairs = s.pairs := rfl
@[simp] theorem State.setTracker_cells (s : State) (x) : (s.setTracker x).cells = s.cells := rfl
@[simp] theorem State.setTracker_capture (s : State) (x) : (s.setTracker x).capture = s.capture := rfl
@[simp] theorem State.setTracker_pulse (s : State) (x) : (s.setTracker x).pulse = s.pulse := rfl
@[simp] theorem State.setTracker_run (s : State) (x) : (s.setTracker x).run = s.run := rfl
@[simp] theorem State.setTracker_link (s : State) (x) : (s.setTracker x).link = s.link := rfl
@[simp] theorem State.setTracker_fireMark (s : State) (x) : (s.setTracker x).fireMark = s.fireMark := rfl
@[simp] theorem State.setTracker_pending (s : State) (x) : (s.setTracker x).pending = s.pending := rfl
@[simp] theorem State.setTracker_self (s : State) : s.setTracker s.tracker = s := rfl
@[simp] theorem State.setTracker_twice (s : State) (x y) : (s.setTracker x).setTracker y = s.setTracker y := rfl

/-! ## After an update of `channels` -/

@[simp] theorem State.setChannels_power (s : State) (x) : (s.setChannels x).power = s.power := rfl
@[simp] theorem State.setChannels_timebase (s : State) (x) : (s.setChannels x).timebase = s.timebase := rfl
@[simp] theorem State.setChannels_lanes (s : State) (x) : (s.setChannels x).lanes = s.lanes := rfl
@[simp] theorem State.setChannels_tracker (s : State) (x) : (s.setChannels x).tracker = s.tracker := rfl
@[simp] theorem State.setChannels_channels (s : State) (x) : (s.setChannels x).channels = x := rfl
@[simp] theorem State.setChannels_phaseMap (s : State) (x) : (s.setChannels x).phaseMap = s.phaseMap := rfl
@[simp] theorem State.setChannels_sensorMap (s : State) (x) : (s.setChannels x).sensorMap = s.sensorMap := rfl
@[simp] theorem State.setChannels_detectors (s : State) (x) : (s.setChannels x).detectors = s.detectors := rfl
@[simp] theorem State.setChannels_grouping (s : State) (x) : (s.setChannels x).grouping = s.grouping := rfl
@[simp] theorem State.setChannels_pairs (s : State) (x) : (s.setChannels x).pairs = s.pairs := rfl
@[simp] theorem State.setChannels_cells (s : State) (x) : (s.setChannels x).cells = s.cells := rfl
@[simp] theorem State.setChannels_capture (s : State) (x) : (s.setChannels x).capture = s.capture := rfl
@[simp] theorem State.setChannels_pulse (s : State) (x) : (s.setChannels x).pulse = s.pulse := rfl
@[simp] theorem State.setChannels_run (s : State) (x) : (s.setChannels x).run = s.run := rfl
@[simp] theorem State.setChannels_link (s : State) (x) : (s.setChannels x).link = s.link := rfl
@[simp] theorem State.setChannels_fireMark (s : State) (x) : (s.setChannels x).fireMark = s.fireMark := rfl
@[simp] theorem State.setChannels_pending (s : State) (x) : (s.setChannels x).pending = s.pending := rfl
@[simp] theorem State.setChannels_self (s : State) : s.setChannels s.channels = s := rfl
@[simp] theorem State.setChannels_twice (s : State) (x y) : (s.setChannels x).setChannels y = s.setChannels y := rfl

/-! ## After an update of `phaseMap` -/

@[simp] theorem State.setPhaseMap_power (s : State) (x) : (s.setPhaseMap x).power = s.power := rfl
@[simp] theorem State.setPhaseMap_timebase (s : State) (x) : (s.setPhaseMap x).timebase = s.timebase := rfl
@[simp] theorem State.setPhaseMap_lanes (s : State) (x) : (s.setPhaseMap x).lanes = s.lanes := rfl
@[simp] theorem State.setPhaseMap_tracker (s : State) (x) : (s.setPhaseMap x).tracker = s.tracker := rfl
@[simp] theorem State.setPhaseMap_channels (s : State) (x) : (s.setPhaseMap x).channels = s.channels := rfl
@[simp] theorem State.setPhaseMap_phaseMap (s : State) (x) : (s.setPhaseMap x).phaseMap = x := rfl
@[simp] theorem State.setPhaseMap_sensorMap (s : State) (x) : (s.setPhaseMap x).sensorMap = s.sensorMap := rfl
@[simp] theorem State.setPhaseMap_detectors (s : State) (x) : (s.setPhaseMap x).detectors = s.detectors := rfl
@[simp] theorem State.setPhaseMap_grouping (s : State) (x) : (s.setPhaseMap x).grouping = s.grouping := rfl
@[simp] theorem State.setPhaseMap_pairs (s : State) (x) : (s.setPhaseMap x).pairs = s.pairs := rfl
@[simp] theorem State.setPhaseMap_cells (s : State) (x) : (s.setPhaseMap x).cells = s.cells := rfl
@[simp] theorem State.setPhaseMap_capture (s : State) (x) : (s.setPhaseMap x).capture = s.capture := rfl
@[simp] theorem State.setPhaseMap_pulse (s : State) (x) : (s.setPhaseMap x).pulse = s.pulse := rfl
@[simp] theorem State.setPhaseMap_run (s : State) (x) : (s.setPhaseMap x).run = s.run := rfl
@[simp] theorem State.setPhaseMap_link (s : State) (x) : (s.setPhaseMap x).link = s.link := rfl
@[simp] theorem State.setPhaseMap_fireMark (s : State) (x) : (s.setPhaseMap x).fireMark = s.fireMark := rfl
@[simp] theorem State.setPhaseMap_pending (s : State) (x) : (s.setPhaseMap x).pending = s.pending := rfl
@[simp] theorem State.setPhaseMap_self (s : State) : s.setPhaseMap s.phaseMap = s := rfl
@[simp] theorem State.setPhaseMap_twice (s : State) (x y) : (s.setPhaseMap x).setPhaseMap y = s.setPhaseMap y := rfl

/-! ## After an update of `sensorMap` -/

@[simp] theorem State.setSensorMap_power (s : State) (x) : (s.setSensorMap x).power = s.power := rfl
@[simp] theorem State.setSensorMap_timebase (s : State) (x) : (s.setSensorMap x).timebase = s.timebase := rfl
@[simp] theorem State.setSensorMap_lanes (s : State) (x) : (s.setSensorMap x).lanes = s.lanes := rfl
@[simp] theorem State.setSensorMap_tracker (s : State) (x) : (s.setSensorMap x).tracker = s.tracker := rfl
@[simp] theorem State.setSensorMap_channels (s : State) (x) : (s.setSensorMap x).channels = s.channels := rfl
@[simp] theorem State.setSensorMap_phaseMap (s : State) (x) : (s.setSensorMap x).phaseMap = s.phaseMap := rfl
@[simp] theorem State.setSensorMap_sensorMap (s : State) (x) : (s.setSensorMap x).sensorMap = x := rfl
@[simp] theorem State.setSensorMap_detectors (s : State) (x) : (s.setSensorMap x).detectors = s.detectors := rfl
@[simp] theorem State.setSensorMap_grouping (s : State) (x) : (s.setSensorMap x).grouping = s.grouping := rfl
@[simp] theorem State.setSensorMap_pairs (s : State) (x) : (s.setSensorMap x).pairs = s.pairs := rfl
@[simp] theorem State.setSensorMap_cells (s : State) (x) : (s.setSensorMap x).cells = s.cells := rfl
@[simp] theorem State.setSensorMap_capture (s : State) (x) : (s.setSensorMap x).capture = s.capture := rfl
@[simp] theorem State.setSensorMap_pulse (s : State) (x) : (s.setSensorMap x).pulse = s.pulse := rfl
@[simp] theorem State.setSensorMap_run (s : State) (x) : (s.setSensorMap x).run = s.run := rfl
@[simp] theorem State.setSensorMap_link (s : State) (x) : (s.setSensorMap x).link = s.link := rfl
@[simp] theorem State.setSensorMap_fireMark (s : State) (x) : (s.setSensorMap x).fireMark = s.fireMark := rfl
@[simp] theorem State.setSensorMap_pending (s : State) (x) : (s.setSensorMap x).pending = s.pending := rfl
@[simp] theorem State.setSensorMap_self (s : State) : s.setSensorMap s.sensorMap = s := rfl
@[simp] theorem State.setSensorMap_twice (s : State) (x y) : (s.setSensorMap x).setSensorMap y = s.setSensorMap y := rfl

/-! ## After an update of `detectors` -/

@[simp] theorem State.setDetectors_power (s : State) (x) : (s.setDetectors x).power = s.power := rfl
@[simp] theorem State.setDetectors_timebase (s : State) (x) : (s.setDetectors x).timebase = s.timebase := rfl
@[simp] theorem State.setDetectors_lanes (s : State) (x) : (s.setDetectors x).lanes = s.lanes := rfl
@[simp] theorem State.setDetectors_tracker (s : State) (x) : (s.setDetectors x).tracker = s.tracker := rfl
@[simp] theorem State.setDetectors_channels (s : State) (x) : (s.setDetectors x).channels = s.channels := rfl
@[simp] theorem State.setDetectors_phaseMap (s : State) (x) : (s.setDetectors x).phaseMap = s.phaseMap := rfl
@[simp] theorem State.setDetectors_sensorMap (s : State) (x) : (s.setDetectors x).sensorMap = s.sensorMap := rfl
@[simp] theorem State.setDetectors_detectors (s : State) (x) : (s.setDetectors x).detectors = x := rfl
@[simp] theorem State.setDetectors_grouping (s : State) (x) : (s.setDetectors x).grouping = s.grouping := rfl
@[simp] theorem State.setDetectors_pairs (s : State) (x) : (s.setDetectors x).pairs = s.pairs := rfl
@[simp] theorem State.setDetectors_cells (s : State) (x) : (s.setDetectors x).cells = s.cells := rfl
@[simp] theorem State.setDetectors_capture (s : State) (x) : (s.setDetectors x).capture = s.capture := rfl
@[simp] theorem State.setDetectors_pulse (s : State) (x) : (s.setDetectors x).pulse = s.pulse := rfl
@[simp] theorem State.setDetectors_run (s : State) (x) : (s.setDetectors x).run = s.run := rfl
@[simp] theorem State.setDetectors_link (s : State) (x) : (s.setDetectors x).link = s.link := rfl
@[simp] theorem State.setDetectors_fireMark (s : State) (x) : (s.setDetectors x).fireMark = s.fireMark := rfl
@[simp] theorem State.setDetectors_pending (s : State) (x) : (s.setDetectors x).pending = s.pending := rfl
@[simp] theorem State.setDetectors_self (s : State) : s.setDetectors s.detectors = s := rfl
@[simp] theorem State.setDetectors_twice (s : State) (x y) : (s.setDetectors x).setDetectors y = s.setDetectors y := rfl

/-! ## After an update of `grouping` -/

@[simp] theorem State.setGrouping_power (s : State) (x) : (s.setGrouping x).power = s.power := rfl
@[simp] theorem State.setGrouping_timebase (s : State) (x) : (s.setGrouping x).timebase = s.timebase := rfl
@[simp] theorem State.setGrouping_lanes (s : State) (x) : (s.setGrouping x).lanes = s.lanes := rfl
@[simp] theorem State.setGrouping_tracker (s : State) (x) : (s.setGrouping x).tracker = s.tracker := rfl
@[simp] theorem State.setGrouping_channels (s : State) (x) : (s.setGrouping x).channels = s.channels := rfl
@[simp] theorem State.setGrouping_phaseMap (s : State) (x) : (s.setGrouping x).phaseMap = s.phaseMap := rfl
@[simp] theorem State.setGrouping_sensorMap (s : State) (x) : (s.setGrouping x).sensorMap = s.sensorMap := rfl
@[simp] theorem State.setGrouping_detectors (s : State) (x) : (s.setGrouping x).detectors = s.detectors := rfl
@[simp] theorem State.setGrouping_grouping (s : State) (x) : (s.setGrouping x).grouping = x := rfl
@[simp] theorem State.setGrouping_pairs (s : State) (x) : (s.setGrouping x).pairs = s.pairs := rfl
@[simp] theorem State.setGrouping_cells (s : State) (x) : (s.setGrouping x).cells = s.cells := rfl
@[simp] theorem State.setGrouping_capture (s : State) (x) : (s.setGrouping x).capture = s.capture := rfl
@[simp] theorem State.setGrouping_pulse (s : State) (x) : (s.setGrouping x).pulse = s.pulse := rfl
@[simp] theorem State.setGrouping_run (s : State) (x) : (s.setGrouping x).run = s.run := rfl
@[simp] theorem State.setGrouping_link (s : State) (x) : (s.setGrouping x).link = s.link := rfl
@[simp] theorem State.setGrouping_fireMark (s : State) (x) : (s.setGrouping x).fireMark = s.fireMark := rfl
@[simp] theorem State.setGrouping_pending (s : State) (x) : (s.setGrouping x).pending = s.pending := rfl
@[simp] theorem State.setGrouping_self (s : State) : s.setGrouping s.grouping = s := rfl
@[simp] theorem State.setGrouping_twice (s : State) (x y) : (s.setGrouping x).setGrouping y = s.setGrouping y := rfl

/-! ## After an update of `pairs` -/

@[simp] theorem State.setPairs_power (s : State) (x) : (s.setPairs x).power = s.power := rfl
@[simp] theorem State.setPairs_timebase (s : State) (x) : (s.setPairs x).timebase = s.timebase := rfl
@[simp] theorem State.setPairs_lanes (s : State) (x) : (s.setPairs x).lanes = s.lanes := rfl
@[simp] theorem State.setPairs_tracker (s : State) (x) : (s.setPairs x).tracker = s.tracker := rfl
@[simp] theorem State.setPairs_channels (s : State) (x) : (s.setPairs x).channels = s.channels := rfl
@[simp] theorem State.setPairs_phaseMap (s : State) (x) : (s.setPairs x).phaseMap = s.phaseMap := rfl
@[simp] theorem State.setPairs_sensorMap (s : State) (x) : (s.setPairs x).sensorMap = s.sensorMap := rfl
@[simp] theorem State.setPairs_detectors (s : State) (x) : (s.setPairs x).detectors = s.detectors := rfl
@[simp] theorem State.setPairs_grouping (s : State) (x) : (s.setPairs x).grouping = s.grouping := rfl
@[simp] theorem State.setPairs_pairs (s : State) (x) : (s.setPairs x).pairs = x := rfl
@[simp] theorem State.setPairs_cells (s : State) (x) : (s.setPairs x).cells = s.cells := rfl
@[simp] theorem State.setPairs_capture (s : State) (x) : (s.setPairs x).capture = s.capture := rfl
@[simp] theorem State.setPairs_pulse (s : State) (x) : (s.setPairs x).pulse = s.pulse := rfl
@[simp] theorem State.setPairs_run (s : State) (x) : (s.setPairs x).run = s.run := rfl
@[simp] theorem State.setPairs_link (s : State) (x) : (s.setPairs x).link = s.link := rfl
@[simp] theorem State.setPairs_fireMark (s : State) (x) : (s.setPairs x).fireMark = s.fireMark := rfl
@[simp] theorem State.setPairs_pending (s : State) (x) : (s.setPairs x).pending = s.pending := rfl
@[simp] theorem State.setPairs_self (s : State) : s.setPairs s.pairs = s := rfl
@[simp] theorem State.setPairs_twice (s : State) (x y) : (s.setPairs x).setPairs y = s.setPairs y := rfl

/-! ## After an update of `cells` -/

@[simp] theorem State.setCells_power (s : State) (x) : (s.setCells x).power = s.power := rfl
@[simp] theorem State.setCells_timebase (s : State) (x) : (s.setCells x).timebase = s.timebase := rfl
@[simp] theorem State.setCells_lanes (s : State) (x) : (s.setCells x).lanes = s.lanes := rfl
@[simp] theorem State.setCells_tracker (s : State) (x) : (s.setCells x).tracker = s.tracker := rfl
@[simp] theorem State.setCells_channels (s : State) (x) : (s.setCells x).channels = s.channels := rfl
@[simp] theorem State.setCells_phaseMap (s : State) (x) : (s.setCells x).phaseMap = s.phaseMap := rfl
@[simp] theorem State.setCells_sensorMap (s : State) (x) : (s.setCells x).sensorMap = s.sensorMap := rfl
@[simp] theorem State.setCells_detectors (s : State) (x) : (s.setCells x).detectors = s.detectors := rfl
@[simp] theorem State.setCells_grouping (s : State) (x) : (s.setCells x).grouping = s.grouping := rfl
@[simp] theorem State.setCells_pairs (s : State) (x) : (s.setCells x).pairs = s.pairs := rfl
@[simp] theorem State.setCells_cells (s : State) (x) : (s.setCells x).cells = x := rfl
@[simp] theorem State.setCells_capture (s : State) (x) : (s.setCells x).capture = s.capture := rfl
@[simp] theorem State.setCells_pulse (s : State) (x) : (s.setCells x).pulse = s.pulse := rfl
@[simp] theorem State.setCells_run (s : State) (x) : (s.setCells x).run = s.run := rfl
@[simp] theorem State.setCells_link (s : State) (x) : (s.setCells x).link = s.link := rfl
@[simp] theorem State.setCells_fireMark (s : State) (x) : (s.setCells x).fireMark = s.fireMark := rfl
@[simp] theorem State.setCells_pending (s : State) (x) : (s.setCells x).pending = s.pending := rfl
@[simp] theorem State.setCells_self (s : State) : s.setCells s.cells = s := rfl
@[simp] theorem State.setCells_twice (s : State) (x y) : (s.setCells x).setCells y = s.setCells y := rfl

/-! ## After an update of `capture` -/

@[simp] theorem State.setCapture_power (s : State) (x) : (s.setCapture x).power = s.power := rfl
@[simp] theorem State.setCapture_timebase (s : State) (x) : (s.setCapture x).timebase = s.timebase := rfl
@[simp] theorem State.setCapture_lanes (s : State) (x) : (s.setCapture x).lanes = s.lanes := rfl
@[simp] theorem State.setCapture_tracker (s : State) (x) : (s.setCapture x).tracker = s.tracker := rfl
@[simp] theorem State.setCapture_channels (s : State) (x) : (s.setCapture x).channels = s.channels := rfl
@[simp] theorem State.setCapture_phaseMap (s : State) (x) : (s.setCapture x).phaseMap = s.phaseMap := rfl
@[simp] theorem State.setCapture_sensorMap (s : State) (x) : (s.setCapture x).sensorMap = s.sensorMap := rfl
@[simp] theorem State.setCapture_detectors (s : State) (x) : (s.setCapture x).detectors = s.detectors := rfl
@[simp] theorem State.setCapture_grouping (s : State) (x) : (s.setCapture x).grouping = s.grouping := rfl
@[simp] theorem State.setCapture_pairs (s : State) (x) : (s.setCapture x).pairs = s.pairs := rfl
@[simp] theorem State.setCapture_cells (s : State) (x) : (s.setCapture x).cells = s.cells := rfl
@[simp] theorem State.setCapture_capture (s : State) (x) : (s.setCapture x).capture = x := rfl
@[simp] theorem State.setCapture_pulse (s : State) (x) : (s.setCapture x).pulse = s.pulse := rfl
@[simp] theorem State.setCapture_run (s : State) (x) : (s.setCapture x).run = s.run := rfl
@[simp] theorem State.setCapture_link (s : State) (x) : (s.setCapture x).link = s.link := rfl
@[simp] theorem State.setCapture_fireMark (s : State) (x) : (s.setCapture x).fireMark = s.fireMark := rfl
@[simp] theorem State.setCapture_pending (s : State) (x) : (s.setCapture x).pending = s.pending := rfl
@[simp] theorem State.setCapture_self (s : State) : s.setCapture s.capture = s := rfl
@[simp] theorem State.setCapture_twice (s : State) (x y) : (s.setCapture x).setCapture y = s.setCapture y := rfl

/-! ## After an update of `pulse` -/

@[simp] theorem State.setPulse_power (s : State) (x) : (s.setPulse x).power = s.power := rfl
@[simp] theorem State.setPulse_timebase (s : State) (x) : (s.setPulse x).timebase = s.timebase := rfl
@[simp] theorem State.setPulse_lanes (s : State) (x) : (s.setPulse x).lanes = s.lanes := rfl
@[simp] theorem State.setPulse_tracker (s : State) (x) : (s.setPulse x).tracker = s.tracker := rfl
@[simp] theorem State.setPulse_channels (s : State) (x) : (s.setPulse x).channels = s.channels := rfl
@[simp] theorem State.setPulse_phaseMap (s : State) (x) : (s.setPulse x).phaseMap = s.phaseMap := rfl
@[simp] theorem State.setPulse_sensorMap (s : State) (x) : (s.setPulse x).sensorMap = s.sensorMap := rfl
@[simp] theorem State.setPulse_detectors (s : State) (x) : (s.setPulse x).detectors = s.detectors := rfl
@[simp] theorem State.setPulse_grouping (s : State) (x) : (s.setPulse x).grouping = s.grouping := rfl
@[simp] theorem State.setPulse_pairs (s : State) (x) : (s.setPulse x).pairs = s.pairs := rfl
@[simp] theorem State.setPulse_cells (s : State) (x) : (s.setPulse x).cells = s.cells := rfl
@[simp] theorem State.setPulse_capture (s : State) (x) : (s.setPulse x).capture = s.capture := rfl
@[simp] theorem State.setPulse_pulse (s : State) (x) : (s.setPulse x).pulse = x := rfl
@[simp] theorem State.setPulse_run (s : State) (x) : (s.setPulse x).run = s.run := rfl
@[simp] theorem State.setPulse_link (s : State) (x) : (s.setPulse x).link = s.link := rfl
@[simp] theorem State.setPulse_fireMark (s : State) (x) : (s.setPulse x).fireMark = s.fireMark := rfl
@[simp] theorem State.setPulse_pending (s : State) (x) : (s.setPulse x).pending = s.pending := rfl
@[simp] theorem State.setPulse_self (s : State) : s.setPulse s.pulse = s := rfl
@[simp] theorem State.setPulse_twice (s : State) (x y) : (s.setPulse x).setPulse y = s.setPulse y := rfl

/-! ## After an update of `run` -/

@[simp] theorem State.setRun_power (s : State) (x) : (s.setRun x).power = s.power := rfl
@[simp] theorem State.setRun_timebase (s : State) (x) : (s.setRun x).timebase = s.timebase := rfl
@[simp] theorem State.setRun_lanes (s : State) (x) : (s.setRun x).lanes = s.lanes := rfl
@[simp] theorem State.setRun_tracker (s : State) (x) : (s.setRun x).tracker = s.tracker := rfl
@[simp] theorem State.setRun_channels (s : State) (x) : (s.setRun x).channels = s.channels := rfl
@[simp] theorem State.setRun_phaseMap (s : State) (x) : (s.setRun x).phaseMap = s.phaseMap := rfl
@[simp] theorem State.setRun_sensorMap (s : State) (x) : (s.setRun x).sensorMap = s.sensorMap := rfl
@[simp] theorem State.setRun_detectors (s : State) (x) : (s.setRun x).detectors = s.detectors := rfl
@[simp] theorem State.setRun_grouping (s : State) (x) : (s.setRun x).grouping = s.grouping := rfl
@[simp] theorem State.setRun_pairs (s : State) (x) : (s.setRun x).pairs = s.pairs := rfl
@[simp] theorem State.setRun_cells (s : State) (x) : (s.setRun x).cells = s.cells := rfl
@[simp] theorem State.setRun_capture (s : State) (x) : (s.setRun x).capture = s.capture := rfl
@[simp] theorem State.setRun_pulse (s : State) (x) : (s.setRun x).pulse = s.pulse := rfl
@[simp] theorem State.setRun_run (s : State) (x) : (s.setRun x).run = x := rfl
@[simp] theorem State.setRun_link (s : State) (x) : (s.setRun x).link = s.link := rfl
@[simp] theorem State.setRun_fireMark (s : State) (x) : (s.setRun x).fireMark = s.fireMark := rfl
@[simp] theorem State.setRun_pending (s : State) (x) : (s.setRun x).pending = s.pending := rfl
@[simp] theorem State.setRun_self (s : State) : s.setRun s.run = s := rfl
@[simp] theorem State.setRun_twice (s : State) (x y) : (s.setRun x).setRun y = s.setRun y := rfl

/-! ## After an update of `link` -/

@[simp] theorem State.setLink_power (s : State) (x) : (s.setLink x).power = s.power := rfl
@[simp] theorem State.setLink_timebase (s : State) (x) : (s.setLink x).timebase = s.timebase := rfl
@[simp] theorem State.setLink_lanes (s : State) (x) : (s.setLink x).lanes = s.lanes := rfl
@[simp] theorem State.setLink_tracker (s : State) (x) : (s.setLink x).tracker = s.tracker := rfl
@[simp] theorem State.setLink_channels (s : State) (x) : (s.setLink x).channels = s.channels := rfl
@[simp] theorem State.setLink_phaseMap (s : State) (x) : (s.setLink x).phaseMap = s.phaseMap := rfl
@[simp] theorem State.setLink_sensorMap (s : State) (x) : (s.setLink x).sensorMap = s.sensorMap := rfl
@[simp] theorem State.setLink_detectors (s : State) (x) : (s.setLink x).detectors = s.detectors := rfl
@[simp] theorem State.setLink_grouping (s : State) (x) : (s.setLink x).grouping = s.grouping := rfl
@[simp] theorem State.setLink_pairs (s : State) (x) : (s.setLink x).pairs = s.pairs := rfl
@[simp] theorem State.setLink_cells (s : State) (x) : (s.setLink x).cells = s.cells := rfl
@[simp] theorem State.setLink_capture (s : State) (x) : (s.setLink x).capture = s.capture := rfl
@[simp] theorem State.setLink_pulse (s : State) (x) : (s.setLink x).pulse = s.pulse := rfl
@[simp] theorem State.setLink_run (s : State) (x) : (s.setLink x).run = s.run := rfl
@[simp] theorem State.setLink_link (s : State) (x) : (s.setLink x).link = x := rfl
@[simp] theorem State.setLink_fireMark (s : State) (x) : (s.setLink x).fireMark = s.fireMark := rfl
@[simp] theorem State.setLink_pending (s : State) (x) : (s.setLink x).pending = s.pending := rfl
@[simp] theorem State.setLink_self (s : State) : s.setLink s.link = s := rfl
@[simp] theorem State.setLink_twice (s : State) (x y) : (s.setLink x).setLink y = s.setLink y := rfl

/-! ## After an update of `fireMark` -/

@[simp] theorem State.setFireMark_power (s : State) (x) : (s.setFireMark x).power = s.power := rfl
@[simp] theorem State.setFireMark_timebase (s : State) (x) : (s.setFireMark x).timebase = s.timebase := rfl
@[simp] theorem State.setFireMark_lanes (s : State) (x) : (s.setFireMark x).lanes = s.lanes := rfl
@[simp] theorem State.setFireMark_tracker (s : State) (x) : (s.setFireMark x).tracker = s.tracker := rfl
@[simp] theorem State.setFireMark_channels (s : State) (x) : (s.setFireMark x).channels = s.channels := rfl
@[simp] theorem State.setFireMark_phaseMap (s : State) (x) : (s.setFireMark x).phaseMap = s.phaseMap := rfl
@[simp] theorem State.setFireMark_sensorMap (s : State) (x) : (s.setFireMark x).sensorMap = s.sensorMap := rfl
@[simp] theorem State.setFireMark_detectors (s : State) (x) : (s.setFireMark x).detectors = s.detectors := rfl
@[simp] theorem State.setFireMark_grouping (s : State) (x) : (s.setFireMark x).grouping = s.grouping := rfl
@[simp] theorem State.setFireMark_pairs (s : State) (x) : (s.setFireMark x).pairs = s.pairs := rfl
@[simp] theorem State.setFireMark_cells (s : State) (x) : (s.setFireMark x).cells = s.cells := rfl
@[simp] theorem State.setFireMark_capture (s : State) (x) : (s.setFireMark x).capture = s.capture := rfl
@[simp] theorem State.setFireMark_pulse (s : State) (x) : (s.setFireMark x).pulse = s.pulse := rfl
@[simp] theorem State.setFireMark_run (s : State) (x) : (s.setFireMark x).run = s.run := rfl
@[simp] theorem State.setFireMark_link (s : State) (x) : (s.setFireMark x).link = s.link := rfl
@[simp] theorem State.setFireMark_fireMark (s : State) (x) : (s.setFireMark x).fireMark = x := rfl
@[simp] theorem State.setFireMark_pending (s : State) (x) : (s.setFireMark x).pending = s.pending := rfl
@[simp] theorem State.setFireMark_self (s : State) : s.setFireMark s.fireMark = s := rfl
@[simp] theorem State.setFireMark_twice (s : State) (x y) : (s.setFireMark x).setFireMark y = s.setFireMark y := rfl

/-! ## After an update of `pending` -/

@[simp] theorem State.setPending_power (s : State) (x) : (s.setPending x).power = s.power := rfl
@[simp] theorem State.setPending_timebase (s : State) (x) : (s.setPending x).timebase = s.timebase := rfl
@[simp] theorem State.setPending_lanes (s : State) (x) : (s.setPending x).lanes = s.lanes := rfl
@[simp] theorem State.setPending_tracker (s : State) (x) : (s.setPending x).tracker = s.tracker := rfl
@[simp] theorem State.setPending_channels (s : State) (x) : (s.setPending x).channels = s.channels := rfl
@[simp] theorem State.setPending_phaseMap (s : State) (x) : (s.setPending x).phaseMap = s.phaseMap := rfl
@[simp] theorem State.setPending_sensorMap (s : State) (x) : (s.setPending x).sensorMap = s.sensorMap := rfl
@[simp] theorem State.setPending_detectors (s : State) (x) : (s.setPending x).detectors = s.detectors := rfl
@[simp] theorem State.setPending_grouping (s : State) (x) : (s.setPending x).grouping = s.grouping := rfl
@[simp] theorem State.setPending_pairs (s : State) (x) : (s.setPending x).pairs = s.pairs := rfl
@[simp] theorem State.setPending_cells (s : State) (x) : (s.setPending x).cells = s.cells := rfl
@[simp] theorem State.setPending_capture (s : State) (x) : (s.setPending x).capture = s.capture := rfl
@[simp] theorem State.setPending_pulse (s : State) (x) : (s.setPending x).pulse = s.pulse := rfl
@[simp] theorem State.setPending_run (s : State) (x) : (s.setPending x).run = s.run := rfl
@[simp] theorem State.setPending_link (s : State) (x) : (s.setPending x).link = s.link := rfl
@[simp] theorem State.setPending_fireMark (s : State) (x) : (s.setPending x).fireMark = s.fireMark := rfl
@[simp] theorem State.setPending_pending (s : State) (x) : (s.setPending x).pending = x := rfl
@[simp] theorem State.setPending_self (s : State) : s.setPending s.pending = s := rfl
@[simp] theorem State.setPending_twice (s : State) (x y) : (s.setPending x).setPending y = s.setPending y := rfl

/-! ## Updates of one entry, as updates of a table -/

theorem State.setLane_eq (s : State) (l : Fin 4) (x : Lane) : s.setLane l x = s.setLanes (put s.lanes l x) := rfl

theorem State.setChannel_eq (s : State) (c : Fin 32) (x : Channel) :
    s.setChannel c x = s.setChannels (put s.channels c x) := rfl

theorem State.setDetector_eq (s : State) (c : Fin 32) (x : Detector) :
    s.setDetector c x = s.setDetectors (put s.detectors c x) := rfl

theorem State.setCell_eq (s : State) (n : Fin 1024) (x : Cell) :
    s.setCell n x = s.setCells { s.cells with cells := put s.cells.cells n x } := rfl

theorem State.setRing_eq (s : State) (c : Fin 32) (x : Ring) :
    s.setRing c x = s.setCapture { s.capture with rings := put s.capture.rings c x } := rfl

theorem State.setSegment_eq (s : State) (i : Fin 64) (x : Option Segment) :
    s.setSegment i x = s.setCapture { s.capture with segments := put s.capture.segments i x } := rfl

theorem State.setCounts_eq (s : State) (x : TallyCounts) : s.setCounts x = s.setLink { s.link with counts := x } := rfl

/-! ## Tables -/

/-- The entry that was put; `simp` reads a table at `i` as at `i.val`. -/
@[simp] theorem put_same {α : Type} {n : Nat} (v : Vector α n) (i : Fin n) (x : α) : (put v i x)[i.val] = x := by
  simp [put]

/-- Every other entry is as it was. -/
theorem put_other {α : Type} {n : Nat} (v : Vector α n) (i j : Fin n) (x : α) (h : j ≠ i) :
    (put v i x)[j.val] = v[j.val] := by
  have h' : i.val ≠ j.val := fun e => h (Fin.ext e.symm)
  simp [put, h']

/-- The entry at `j` after a put at `i`. -/
theorem put_get {α : Type} {n : Nat} (v : Vector α n) (i j : Fin n) (x : α) :
    (put v i x)[j.val] = if j = i then x else v[j.val] := by
  by_cases h : j = i
  · subst h; simp
  · simp [h, put_other v i j x h]

/-- A table with `f` applied to every entry. -/
@[simp] theorem mapTable_get {α β : Type} {n : Nat} (f : α → β) (v : Vector α n) (i : Fin n) :
    (mapTable f v)[i.val] = f v[i.val] := by
  simp [mapTable]

/-! ## Work done for each of a list of things -/

@[simp] theorem forEach_nil {α : Type} (f : α → State → State) (s : State) : forEach [] f s = s := rfl

@[simp] theorem forEach_cons {α : Type} (a : α) (l : List α) (f : α → State → State) (s : State) :
    forEach (a :: l) f s = forEach l f (f a s) := rfl

/-- What every piece of the work keeps, the whole keeps. -/
theorem forEach_keeps {α : Type} (P : State → Prop) (l : List α) (f : α → State → State)
    (h : ∀ a ∈ l, ∀ t, P t → P (f a t)) (s : State) (hs : P s) : P (forEach l f s) := by
  induction l generalizing s with
  | nil => exact hs
  | cons a l ih =>
    exact ih (fun b hb => h b (List.mem_cons_of_mem a hb)) (f a s) (h a List.mem_cons_self s hs)

/-- A part of the state that no piece of the work changes is unchanged by the whole. -/
theorem forEach_same {α β : Type} (g : State → β) (l : List α) (f : α → State → State)
    (h : ∀ a t, g (f a t) = g t) (s : State) : g (forEach l f s) = g s := by
  induction l generalizing s with
  | nil => rfl
  | cons a l ih => rw [forEach_cons, ih, h]

end Sys2Proof.Machine
end

