-- ==== Sys2Proof/Laws/Blocks.lean ====
section
/-! SUPPORT. Which blocks of the state each shared operation can change, said once for every part of the state `g` that is read
off blocks the operation does not touch: `op_same : (g is blind to the blocks of op) → g (op s) = g s`. A proof that an
operation leaves a field alone cites the lemma with the field's projection and `⟨fun _ _ => rfl, …⟩`. -/

namespace Sys2Proof.Machine

variable {β : Type}

/-! ## What a part of the state may be blind to -/

/-- `g` does not read the record link. -/
structure BlindLink (g : State → β) : Prop where
  link : ∀ s x, g (s.setLink x) = g s

/-- `g` does not read the blocks that the cell unit changes. -/
structure BlindCells (g : State → β) : Prop extends BlindLink g where
  cells : ∀ s x, g (s.setCells x) = g s

/-- `g` does not read the blocks that the closing of groups changes. -/
structure BlindGroup (g : State → β) : Prop extends BlindCells g where
  grouping : ∀ s x, g (s.setGrouping x) = g s

/-- `g` does not read the blocks that the capture unit changes. -/
structure BlindCapture (g : State → β) : Prop extends BlindLink g where
  capture : ∀ s x, g (s.setCapture x) = g s

/-- `g` does not read the blocks that a pressure sample changes, a declaration apart. -/
structure BlindTrack (g : State → β) : Prop extends BlindLink g where
  cells : ∀ s x, g (s.setCells x) = g s
  channels : ∀ s x, g (s.setChannels x) = g s
  tracker : ∀ s x, g (s.setTracker x) = g s

/-- `g` does not read the blocks that the processing of samples and hits changes. -/
structure BlindHits (g : State → β) : Prop where
  link : ∀ s x, g (s.setLink x) = g s
  cells : ∀ s x, g (s.setCells x) = g s
  grouping : ∀ s x, g (s.setGrouping x) = g s
  capture : ∀ s x, g (s.setCapture x) = g s
  channels : ∀ s x, g (s.setChannels x) = g s
  tracker : ∀ s x, g (s.setTracker x) = g s
  detectors : ∀ s x, g (s.setDetectors x) = g s
  pulse : ∀ s x, g (s.setPulse x) = g s
  run : ∀ s x, g (s.setRun x) = g s

variable {g : State → β}

theorem BlindHits.toLink (h : BlindHits g) : BlindLink g := ⟨h.link⟩
theorem BlindHits.toGroup (h : BlindHits g) : BlindGroup g := ⟨⟨⟨h.link⟩, h.cells⟩, h.grouping⟩
theorem BlindHits.toCapture (h : BlindHits g) : BlindCapture g := ⟨⟨h.link⟩, h.capture⟩
theorem BlindHits.toTrack (h : BlindHits g) : BlindTrack g := ⟨⟨h.link⟩, h.cells, h.channels, h.tracker⟩

/-! ## Offers -/

theorem offer_same (h : BlindLink g) (r : Record) (b : Bool) (s : State) : g (offer r b s) = g s := by
  unfold offer
  split
  · rfl
  · exact h.link _ _

theorem notify_same (h : BlindLink g) (x : NoticeBody) (s : State) : g (notify x s) = g s := offer_same h _ _ _

/-! ## Channel table and detectors -/

theorem applyPending_same (h : ∀ s x, g (s.setChannels x) = g s) (c : Fin 32) (s : State) :
    g (applyPending c s) = g s := by
  unfold applyPending
  split
  · exact h _ _
  · rfl

theorem setPending_same (h : ∀ s x, g (s.setChannels x) = g s) (c : Fin 32) (b : Fin 4) (s : State) :
    g (setPending c b s) = g s := by
  unfold setPending
  rw [applyPending_same h]
  exact h _ _

theorem followChannel_same (h : ∀ s x, g (s.setChannels x) = g s) (c : Fin 32) (s : State) :
    g (followChannel c s) = g s := by
  unfold followChannel
  split
  · exact setPending_same h _ _ _
  · rfl

theorem followPhase_same (h : ∀ s x, g (s.setChannels x) = g s) (s : State) : g (followPhase s) = g s :=
  forEach_same g _ _ (fun c t => followChannel_same h c t) s

theorem makeLive_same (hc : ∀ s x, g (s.setChannels x) = g s) (hd : ∀ s x, g (s.setDetectors x) = g s)
    (c : Fin 32) (s : State) : g (makeLive c s) = g s := by
  unfold makeLive
  split
  · rw [applyPending_same hc]
    exact hd _ _
  · rfl

/-! ## Cells and groups -/

theorem changeAlarm_same (h : BlindCells g) (n : Fin 1024) (c : Cell) (a : Alarm) (k : Option CellCause) (s : State) :
    g (changeAlarm n c a k s) = g s := by
  unfold changeAlarm
  cases k with
  | none => exact h.cells _ _
  | some k =>
    rw [notify_same h.toBlindLink]
    exact h.cells _ _

theorem accountEvent_same (h : BlindCells g) (e : EventRecord) (s : State) : g (accountEvent e s) = g s := by
  unfold accountEvent
  split
  · rfl
  · split
    · exact changeAlarm_same h _ _ _ _ _
    · rfl

theorem decayCell_same (h : BlindCells g) (n : Fin 1024) (s : State) : g (decayCell n s) = g s := by
  unfold decayCell
  dsimp only
  split
  · exact changeAlarm_same h _ _ _ _ _
  · rfl

theorem shiftSlots_same (h : BlindCells g) (s : State) : g (shiftSlots s) = g s := by
  unfold shiftSlots
  rw [forEach_same g _ _ (fun n t => decayCell_same h n t)]
  exact h.cells _ _

theorem clearCell_same (h : BlindCells g) (n : Fin 1024) (s : State) : g (clearCell n s) = g s :=
  changeAlarm_same h _ _ _ _ _

theorem startCells_same (h : BlindCells g) (s : State) : g (startCells s) = g s :=
  forEach_same g _ _ (fun _ _ => changeAlarm_same h _ _ _ _ _) s

theorem openGroup_same (h : BlindGroup g) (x : HitRecord) (s : State) : g (openGroup x s) = g s := h.grouping _ _

theorem offerGroup_same (h : BlindGroup g) (e : EventRecord) (l : List HitRecord) (s : State) :
    g (offerGroup e l s) = g s := by
  unfold offerGroup
  rw [forEach_same g _ _ (fun x t => offer_same h.toBlindLink _ _ t), offer_same h.toBlindLink]

theorem closeGroup_same (h : BlindGroup g) (k : GroupClose) (x : Group) (s : State) : g (closeGroup k x s) = g s := by
  unfold closeGroup
  dsimp only
  rw [offerGroup_same h, accountEvent_same h.toBlindCells]
  exact h.grouping _ _

theorem closeTest_same (h : BlindGroup g) (s : State) : g (closeTest s) = g s := by
  unfold closeTest
  generalize closing s = l
  exact forEach_same g l _ (fun p t => closeGroup_same h p.2 p.1 t) s

theorem haltGroups_same (h : BlindGroup g) (s : State) : g (haltGroups s) = g s :=
  forEach_same g _ _ (fun x t => closeGroup_same h .halted x t) s

theorem evictFirst_same (h : BlindGroup g) (s : State) : g (evictFirst s) = g s := by
  unfold evictFirst
  split
  · split
    · exact closeGroup_same h _ _ _
    · rfl
  · rfl

theorem placeHit_same (h : BlindGroup g) (x : HitRecord) (s : State) : g (placeHit x s) = g s := by
  unfold placeHit
  split
  · exact h.grouping _ _
  · rw [openGroup_same h, evictFirst_same h]

/-! ## The capture unit -/

theorem endSegment_same (h : BlindCapture g) (i : Fin 64) (x : Segment) (l d : Bool) (s : State) :
    g (endSegment i x l d s) = g s := by
  unfold endSegment
  dsimp only
  rw [h.capture, State.setSegment_eq, h.capture, offer_same h.toBlindLink]

theorem keepOrEnd_same (h : BlindCapture g) (i : Fin 64) (x : Segment) (s : State) : g (keepOrEnd i x s) = g s := by
  unfold keepOrEnd
  split
  · exact endSegment_same h _ _ _ _ _
  · exact h.capture _ _

theorem loseLine_same (h : BlindCapture g) (c : Fin 32) (k : Nat) (i : Fin 64) (s : State) :
    g (loseLine c k i s) = g s := by
  unfold loseLine
  repeat' split
  all_goals first | rfl | exact keepOrEnd_same h _ _ _

theorem takeIndex_same (h : BlindCapture g) (c : Fin 32) (k : Nat) (s : State) : g (takeIndex c k s) = g s :=
  forEach_same g _ _ (fun i t => loseLine_same h c k i t) s

theorem setMark_same (h : BlindCapture g) (c : Fin 32) (k : Nat) (m : LineMark) (s : State) :
    g (setMark c k m s) = g s := h.capture _ _

theorem voidMark_same (h : BlindCapture g) (c : Fin 32) (k : Nat) (s : State) : g (voidMark c k s) = g s := by
  unfold voidMark
  dsimp only
  rw [h.capture, setMark_same h]

theorem voidIndex_same (h : BlindCapture g) (c : Fin 32) (k : Nat) (s : State) : g (voidIndex c k s) = g s := by
  unfold voidIndex
  rw [takeIndex_same h, voidMark_same h]

theorem voidAhead_same (h : BlindCapture g) (c : Fin 32) (n : Nat) (s : State) : g (voidAhead c n s) = g s :=
  forEach_same g _ _ (fun _ _ => voidIndex_same h _ _ _) s

theorem sealChannel_same (h : BlindCapture g) (c : Fin 32) (s : State) : g (sealChannel c s) = g s := by
  unfold sealChannel
  repeat' split
  all_goals first | rfl | exact keepOrEnd_same h _ _ _

theorem extendSegment_same (h : BlindCapture g) (c : Fin 32) (k : Nat) (s : State) : g (extendSegment c k s) = g s := by
  unfold extendSegment
  dsimp only
  repeat' split
  all_goals first | rfl | exact keepOrEnd_same h _ _ _ | exact h.capture _ _

theorem beginWrite_same (h : BlindCapture g) (s : State) : g (beginWrite s) = g s := by
  unfold beginWrite
  split
  · exact h.capture _ _
  · rfl

theorem advanceRing_same (h : BlindCapture g) (c : Fin 32) (n : Nat) (s : State) : g (advanceRing c n s) = g s :=
  h.capture _ _

theorem meetLine_same (h : BlindCapture g) (c : Fin 32) (t : Tick) (s : State) : g (meetLine c t s) = g s := by
  unfold meetLine
  split
  · rfl
  · rw [advanceRing_same h, voidAhead_same h, sealChannel_same h]
  · dsimp only
    rw [State.setRing_eq, h.capture, voidAhead_same h, sealChannel_same h]

theorem queueLine_same (h : BlindCapture g) (c : Fin 32) (k : Nat) (x : Line) (s : State) :
    g (queueLine c k x s) = g s := by
  unfold queueLine
  split
  · rw [beginWrite_same h]
    exact h.capture _ _
  · exact voidMark_same h _ _ _

theorem placeAtWritePos_same (h : BlindCapture g) (c : Fin 32) (t : Tick) (x : Line) (s : State) :
    g (placeAtWritePos c t x s) = g s := by
  unfold placeAtWritePos
  dsimp only
  rw [extendSegment_same h, State.setRing_eq, h.capture, queueLine_same h, takeIndex_same h]

theorem ringLine_same (h : BlindCapture g) (c : Fin 32) (t : Tick) (x : Line) (s : State) :
    g (ringLine c t x s) = g s := by
  unfold ringLine
  split
  · rw [placeAtWritePos_same h, meetLine_same h]
  · rfl

theorem missingLines_same (h : BlindCapture g) (c : Fin 32) (n : Nat) (s : State) : g (missingLines c n s) = g s := by
  unfold missingLines
  split
  · rw [advanceRing_same h, voidAhead_same h]
  · rfl

theorem captureAnswer_same (h : BlindCapture g) (c n : Fin 32) (a t : Tick) (s : State) :
    g (captureAnswer c n a t s).1 = g s := by
  unfold captureAnswer
  repeat' split
  all_goals first | rfl | exact h.capture _ _

theorem selectReadout_same (h : BlindCapture g) (s : State) : g (selectReadout s) = g s := by
  unfold selectReadout
  repeat' split
  all_goals first | rfl | exact h.capture _ _

theorem settleCapture_same (h : BlindCapture g) (s : State) : g (settleCapture s) = g s := by
  unfold settleCapture
  rw [beginWrite_same h, selectReadout_same h]

theorem offerLine_same (h : BlindCapture g) (i : Fin 64) (x : Segment) (o : Int) (l : Option Line) (a b : Bool)
    (s : State) : g (offerLine i x o l a b s) = g s := by
  unfold offerLine
  dsimp only
  rw [offer_same h.toBlindLink]
  exact h.capture _ _

theorem endIfRead_same (h : BlindCapture g) (i : Fin 64) (s : State) : g (endIfRead i s) = g s := by
  unfold endIfRead
  repeat' split
  all_goals first | rfl | exact endSegment_same h _ _ _ _ _

theorem beginRead_same (h : BlindCapture g) (op : AccessOp) (s : State) : g (beginRead op s) = g s := h.capture _ _

theorem takeLine_same (h : BlindCapture g) (i : Fin 64) (x : Segment) (o : Int) (s : State) :
    g (takeLine i x o s) = g s := by
  unfold takeLine
  dsimp only
  split
  · rw [beginRead_same h]
    exact h.capture _ _
  · rw [endIfRead_same h, offerLine_same h]
  · rw [endIfRead_same h, offerLine_same h]

theorem readoutTake_same (h : BlindCapture g) (i : Fin 64) (x : Segment) (s : State) : g (readoutTake i x s) = g s := by
  unfold readoutTake
  split
  · rw [endIfRead_same h]
    exact h.capture _ _
  · exact takeLine_same h _ _ _ _

theorem startDump_same (h : BlindCapture g) (s : State) : g (startDump s) = g s := by
  unfold startDump
  split
  · exact h.capture _ _
  · rfl

theorem endDump_same (h : BlindCapture g) (b : Bool) (s : State) : g (endDump b s) = g s := by
  unfold endDump
  split
  · rfl
  · rw [notify_same h.toBlindLink]
    exact h.capture _ _

theorem offerDumpLine_same (h : BlindCapture g) (d : Dump) (c : Fin 32) (l : Option Line) (a b : Bool) (s : State) :
    g (offerDumpLine d c l a b s) = g s := by
  unfold offerDumpLine
  dsimp only
  rw [h.capture, offer_same h.toBlindLink]

theorem endDumpIfDone_same (h : BlindCapture g) (s : State) : g (endDumpIfDone s) = g s := by
  unfold endDumpIfDone
  repeat' split
  all_goals first | rfl | exact endDump_same h _ _

theorem dumpTake_same (h : BlindCapture g) (d : Dump) (s : State) : g (dumpTake d s) = g s := by
  unfold dumpTake
  split
  · exact endDump_same h _ _
  · dsimp only
    split
    · exact beginRead_same h _ _
    · rw [endDumpIfDone_same h, offerDumpLine_same h]
    · rw [endDumpIfDone_same h, offerDumpLine_same h]

theorem countOutcome_same (h : BlindCapture g) (o : AccessOutcome) (s : State) : g (countOutcome o s) = g s := by
  unfold countOutcome
  cases o <;> simp only [State.setCounts_eq, h.link, h.capture]

theorem damageSegment_same (h : BlindCapture g) (c : Fin 32) (k : Nat) (i : Fin 64) (s : State) :
    g (damageSegment c k i s) = g s := by
  unfold damageSegment
  repeat' split
  all_goals first | rfl | exact h.capture _ _

theorem markWritten_same (h : BlindCapture g) (w : RingWrite) (b : Bool) (s : State) : g (markWritten w b s) = g s := by
  unfold markWritten
  repeat' split
  · rfl
  · exact setMark_same h _ _ _ _
  · rw [forEach_same g _ _ (fun i t => damageSegment_same h _ _ i t), setMark_same h]

theorem finishOp_same (h : BlindCapture g) (op : AccessOp) (o : AccessOutcome) (s : State) :
    g (finishOp op o s) = g s := by
  unfold finishOp
  cases op with
  | write w =>
    simp only [finishWrite, writeMemory]
    rw [markWritten_same h, h.capture, countOutcome_same h]
  | readout i off line live =>
    simp only [finishReadout]
    repeat' split
    all_goals simp only [offerLine_same h, countOutcome_same h]
  | dump line live =>
    simp only [finishDump]
    repeat' split
    all_goals simp only [offerDumpLine_same h, countOutcome_same h]

theorem failSegment_same (h : BlindCapture g) (i : Fin 64) (s : State) : g (failSegment i s) = g s := by
  unfold failSegment
  split
  · rfl
  · exact endSegment_same h _ _ _ _ _

theorem failPort_same (h : BlindCapture g) (k : AccessKind) (o : AccessOutcome) (s : State) :
    g (failPort k o s) = g s := by
  unfold failPort
  dsimp only
  rw [endDump_same h, forEach_same g _ _ (fun i t => failSegment_same h i t), notify_same h.toBlindLink]
  exact h.capture _ _

theorem endsAfter_same (h : BlindCapture g) (op : AccessOp) (s : State) : g (endsAfter op s) = g s := by
  unfold endsAfter
  repeat' split
  all_goals first | rfl | exact endIfRead_same h _ _ | exact endDumpIfDone_same h _

theorem endAccess_same (h : BlindCapture g) (o : AccessOutcome) (a : Access) (s : State) :
    g (endAccess o a s) = g s := by
  unfold endAccess
  dsimp only
  rw [beginWrite_same h, selectReadout_same h]
  split
  · rw [failPort_same h, finishOp_same h]
  · rw [endsAfter_same h, finishOp_same h]

theorem dropLeftover_same (h : BlindCapture g) (i : Fin 64) (s : State) : g (dropLeftover i s) = g s := by
  unfold dropLeftover
  repeat' split
  all_goals first | rfl | exact endSegment_same h _ _ _ _ _

theorem startCapture_same (h : BlindCapture g) (s : State) : g (startCapture s) = g s := by
  unfold startCapture
  rw [forEach_same g _ _ (fun i t => dropLeftover_same h i t)]
  exact h.capture _ _

theorem freeSegments_same (h : BlindCapture g) (s : State) : g (freeSegments s) = g s := h.capture _ _

theorem stopDump_same (h : BlindCapture g) (s : State) : g (stopDump s) = g s := by
  unfold stopDump
  split
  · rfl
  · rw [endDump_same h]
    exact h.capture _ _

/-! ## The tracker -/

theorem holdEntered_same (h : BlindTrack g) (s : State) : g (holdEntered s) = g s := by
  unfold holdEntered
  split
  · exact h.cells _ _
  · rfl

theorem phaseEffects_same (h : BlindTrack g) (a b : Phase) (s : State) : g (phaseEffects a b s) = g s := by
  unfold phaseEffects
  dsimp only
  split
  · rw [holdEntered_same h, followPhase_same h.channels, notify_same h.toBlindLink]
  · rw [followPhase_same h.channels, notify_same h.toBlindLink]

theorem gaugeGone_same (h : BlindTrack g) (s : State) : g (gaugeGone s) = g s := by
  unfold gaugeGone
  dsimp only
  split
  · exact h.tracker _ _
  · rw [phaseEffects_same h]
    exact h.tracker _ _

theorem trackSample_same (h : BlindTrack g) (p : Nat) (s : State) : g (trackSample p s) = g s := by
  unfold trackSample
  dsimp only
  split
  · exact h.tracker _ _
  · rw [phaseEffects_same h]
    exact h.tracker _ _

theorem reportSaturation_same (h : ∀ s x, g (s.setTracker x) = g s) (x : HitRecord) (s : State) :
    g (reportSaturation x s) = g s := by
  unfold reportSaturation
  split
  · exact h _ _
  · rfl

/-! ## Detectors, hits and tests -/

theorem enterState_same (h : BlindHits g) (c : Fin 32) (x : DetState) (s : State) : g (enterState c x s) = g s := by
  unfold enterState
  rw [applyPending_same h.channels]
  exact h.detectors _ _

theorem quietSample_same (h : BlindHits g) (c : Fin 32) (t : Tick) (x : FeedSample) (s : State) :
    g (quietSample c t x s) = g s := by
  unfold quietSample
  split
  · rfl
  · split
    · dsimp only
      rw [State.setDetector_eq, h.detectors]
      split
      · exact captureAnswer_same h.toCapture _ _ _ _ _
      · rfl
    · rfl

theorem makeTest_same (h : BlindHits g) (f : Tick) (x : HitRecord) (s : State) : g (makeTest f x s) = g s := by
  unfold makeTest
  rw [offer_same h.toLink]
  exact h.pulse _ _

variable {pres : Presenter}

theorem releaseHit_same (hp : ∀ x s, g (pres x s) = g s) (x : HitRecord) (s : State) : g (releaseHit pres x s) = g s := by
  unfold releaseHit
  split
  · exact hp _ _
  · rfl

theorem holdHit_same (h : BlindHits g) (hp : ∀ x s, g (pres x s) = g s) (x : HitRecord) (s : State) :
    g (holdHit pres x s) = g s := by
  unfold holdHit
  split
  · rfl
  · split
    · rw [releaseHit_same hp]
      exact h.pulse _ _
    · exact h.pulse _ _

theorem offerToTest_same (h : BlindHits g) (hp : ∀ x s, g (pres x s) = g s) (x : HitRecord) (s : State) :
    g (offerToTest pres x s).1 = g s := by
  unfold offerToTest
  repeat' split
  all_goals first | rfl | exact holdHit_same h hp _ _ | exact makeTest_same h _ _ _

theorem handOff_same (h : BlindHits g) (hp : ∀ x s, g (pres x s) = g s) (c : Fin 32) (x : HitRecord) (s : State) :
    g (handOff pres c x s) = g s := by
  unfold handOff
  dsimp only
  split <;> split <;>
    simp only [releaseHit_same hp, offerToTest_same h hp, sealChannel_same h.toCapture]

theorem enterOff_same (h : BlindHits g) (c : Fin 32) (s : State) : g (enterOff c s) = g s := by
  unfold enterOff
  rw [applyPending_same h.channels]
  exact h.detectors _ _

theorem detectorOff_same (h : BlindHits g) (hp : ∀ x s, g (pres x s) = g s) (k : CloseCause) (c : Fin 32)
    (s : State) : g (detectorOff pres k c s) = g s := by
  unfold detectorOff
  split
  · rfl
  · exact enterOff_same h _ _
  · exact enterOff_same h _ _
  · rw [handOff_same h hp, enterOff_same h]

theorem groupTest_same (h : BlindHits g) (m : Tests) (s : State) : g (groupTest m s) = g s := by
  unfold groupTest
  split
  · exact closeTest_same h.toGroup _
  · rfl

theorem decideHeld_same (h : BlindHits g) (hp : ∀ x s, g (pres x s) = g s) (x : HitRecord) (s : State) :
    g (decideHeld pres x s) = g s := by
  unfold decideHeld
  repeat' split
  all_goals first | exact releaseHit_same hp _ _ | exact makeTest_same h _ _ _

theorem emptyHold_same (h : BlindHits g) (hp : ∀ x s, g (pres x s) = g s) (m : Tests) (n : Nat) (s : State) :
    g (emptyHold pres m n s) = g s := by
  induction n generalizing s with
  | zero => rfl
  | succ n ih =>
    unfold emptyHold
    split
    · rfl
    · rw [ih, groupTest_same h, decideHeld_same h hp]
      exact h.pulse _ _

theorem concludeTest_same (h : BlindHits g) (k : EndCause) (s : State) : g (concludeTest k s) = g s := by
  unfold concludeTest
  split
  · rfl
  · rw [offer_same h.toLink]
    exact h.pulse _ _
  · rw [offer_same h.toLink]
    exact h.pulse _ _

theorem endTest_same (h : BlindHits g) (hp : ∀ x s, g (pres x s) = g s) (m : Tests) (k : EndCause) (s : State) :
    g (endTest pres m k s) = g s := by
  unfold endTest
  split
  · dsimp only
    rw [concludeTest_same h, emptyHold_same h hp]
    split
    · exact forEach_same g _ _ (fun c t => detectorOff_same h hp _ c t) s
    · rfl
  · rfl

/-! ## Declarations and presentations -/

theorem makeMark_same (h : BlindLink g) (m : Mark) (s : State) : g (makeMark m s) = g s := by
  unfold makeMark
  split
  · exact h.link _ _
  · rfl

theorem presentQuietly_same (h : BlindHits g) (x : HitRecord) (s : State) : g (presentQuietly x s) = g s := by
  unfold presentQuietly
  rw [reportSaturation_same h.tracker, placeHit_same h.toGroup]

theorem tailEnd_same (h : BlindHits g) (s : State) : g (tailEnd s) = g s := by
  unfold tailEnd
  dsimp only
  rw [startDump_same h.toCapture, notify_same h.toLink, freeSegments_same h.toCapture, h.run,
    haltGroups_same h.toGroup]
  exact forEach_same g _ _ (fun c t => detectorOff_same h (presentQuietly_same h) _ c t) s

theorem declareFirst_same (h : BlindHits g) (k : BurstCause) (s : State) : g (declareFirst k s) = g s := by
  unfold declareFirst
  dsimp only
  rw [makeMark_same h.toLink, notify_same h.toLink, h.cells, h.tracker, h.run]

theorem startTail_same (h : BlindHits g) (b : Tick) (s : State) : g (startTail b s) = g s := by
  unfold startTail
  dsimp only
  split
  · rw [tailEnd_same h]
    exact h.run _ _
  · exact h.run _ _

theorem declareBurst_same (h : BlindHits g) (e : EndCause) (k : BurstCause) (s : State) :
    g (declareBurst e k s) = g s := by
  unfold declareBurst
  split
  · rw [startTail_same h, endTest_same h (presentQuietly_same h), declareFirst_same h]
  · rfl

theorem presentWith_same (h : BlindHits g) (e : EndCause) (x : HitRecord) (s : State) :
    g (presentWith e x s) = g s := by
  unfold presentWith
  dsimp only
  split
  · rw [declareBurst_same h, presentQuietly_same h]
  · exact presentQuietly_same h _ _

theorem present_same (h : BlindHits g) (x : HitRecord) (s : State) : g (present x s) = g s := presentWith_same h _ _ _

theorem doneTest_same (h : BlindHits g) (s : State) : g (doneTest s) = g s := by
  unfold doneTest
  repeat' split
  all_goals first | rfl | exact endTest_same h (presentWith_same h _) _ _ _

theorem unitTests_same (h : BlindHits g) (s : State) : g (unitTests s) = g s := by
  unfold unitTests
  rw [doneTest_same h, closeTest_same h.toGroup]

theorem processSample_same (h : BlindHits g) (c : Fin 32) (t : Tick) (x : FeedSample) (s : State) :
    g (processSample c t x s) = g s := by
  unfold processSample
  split
  · rfl
  · exact quietSample_same h _ _ _ _
  · unfold openSample
    dsimp only
    split
    · exact h.detectors _ _
    · rw [unitTests_same h, handOff_same h (present_same h), enterState_same h]
  · split
    · rw [quietSample_same h, enterState_same h]
    · rfl

theorem frameDealt_same (h : BlindHits g) (c : Fin 32) (t : Tick) (s : State) : g (frameDealt c t s) = g s := by
  unfold frameDealt
  rw [unitTests_same h]
  exact h.detectors _ _

theorem feedStep_same (h : BlindHits g) (c : Fin 32) (s : State) : g (feedStep c s) = g s := by
  unfold feedStep
  split
  · rfl
  · split
    · exact frameDealt_same h _ _ _
    · dsimp only
      split
      · rw [frameDealt_same h, processSample_same h]
        exact h.detectors _ _
      · rw [processSample_same h]
        exact h.detectors _ _

/-- What every repetition of a step keeps. -/
theorem repeat_same (f : State → State) (hf : ∀ s, g (f s) = g s) (n : Nat) (s : State) : g (Nat.repeat f n s) = g s := by
  induction n with
  | zero => rfl
  | succ n ih => rw [Nat.repeat, hf, ih]

theorem drainFeed_same (h : BlindHits g) (c : Fin 32) (s : State) : g (drainFeed c s) = g s := by
  unfold drainFeed
  split
  · rfl
  · exact repeat_same _ (feedStep_same h c) _ _

theorem pressureSample_same (h : BlindHits g) (p : Nat) (s : State) : g (pressureSample p s) = g s := by
  unfold pressureSample
  dsimp only
  split
  · rw [declareBurst_same h, trackSample_same h.toTrack]
  · exact trackSample_same h.toTrack _ _

/-! ## The lanes -/

/-- `g` reads neither the lanes nor what the processing of hits changes. -/
structure BlindLanes (g : State → β) : Prop extends BlindHits g where
  lanes : ∀ s x, g (s.setLanes x) = g s

theorem tryAlign_same (h : BlindLanes g) (l : Fin 4) (s : State) : g (tryAlign l s) = g s := by
  unfold tryAlign
  dsimp only
  split
  · rw [notify_same h.toLink]
    exact h.lanes _ _
  · rfl

theorem channelLost_same (h : BlindHits g) (b : Bool) (c : Fin 32) (s : State) : g (channelLost b c s) = g s := by
  unfold channelLost offTests
  dsimp only
  repeat' split
  all_goals simp only [unitTests_same h, closeTest_same h.toGroup, sealChannel_same h.toCapture,
    State.setDetector_eq, h.detectors, detectorOff_same h (present_same h)]

theorem podLost_same (h : BlindHits g) (l : Fin 4) (s : State) : g (podLost l s) = g s := by
  unfold podLost
  dsimp only
  split
  · rw [endTest_same h (presentWith_same h _)]
    exact forEach_same g _ _ (fun c t => channelLost_same h _ c t) s
  · exact forEach_same g _ _ (fun c t => channelLost_same h _ c t) s

theorem laneLeft_same (h : BlindHits g) (l : Fin 4) (r : LaneRole) (s : State) : g (laneLeft l r s) = g s := by
  unfold laneLeft
  split
  · exact podLost_same h _ _
  · exact gaugeGone_same h.toTrack _
  · rfl

theorem laneDown_same (h : BlindLanes g) (l : Fin 4) (k : LaneCause) (s : State) : g (laneDown l k s) = g s := by
  unfold laneDown
  dsimp only
  split
  · rw [laneLeft_same h.toBlindHits, notify_same h.toLink]
    exact h.lanes _ _
  · rw [notify_same h.toLink]
    exact h.lanes _ _

theorem changeRole_same (h : BlindLanes g) (l : Fin 4) (r : LaneRole) (s : State) : g (changeRole l r s) = g s := by
  unfold changeRole
  dsimp only
  rw [tryAlign_same h, laneLeft_same h.toBlindHits, notify_same h.toLink]
  exact h.lanes _ _

theorem channelUp_same (h : BlindHits g) (t : Tick) (c : Fin 32) (s : State) : g (channelUp t c s) = g s := by
  unfold channelUp
  split
  · rw [makeLive_same h.channels h.detectors]
    exact h.detectors _ _
  · rfl

theorem laneUp_same (h : BlindLanes g) (l : Fin 4) (q : Byte) (s : State) : g (laneUp l q s) = g s := by
  unfold laneUp
  dsimp only
  split
  · rw [forEach_same g _ _ (fun c t => channelUp_same h.toBlindHits _ c t), notify_same h.toLink]
    exact h.lanes _ _
  · rw [notify_same h.toLink]
    exact h.lanes _ _

theorem alignLane_same (h : BlindLanes g) (l : Fin 4) (f : List Byte) (s : State) : g (alignLane l f s) = g s := by
  unfold alignLane
  dsimp only
  repeat' split
  all_goals first | exact laneUp_same h _ _ _ | exact h.lanes _ _

theorem breakHit_same (h : BlindHits g) (c : Fin 32) (s : State) : g (breakHit c s) = g s := by
  unfold breakHit
  split
  · rw [unitTests_same h, handOff_same h (present_same h), enterState_same h]
  all_goals rfl

theorem stretchChannel_same (h : BlindHits g) (n : Nat) (e : Tick) (c : Fin 32) (s : State) :
    g (stretchChannel n e c s) = g s := by
  unfold stretchChannel
  split
  · dsimp only
    rw [missingLines_same h.toCapture, sealChannel_same h.toCapture, State.setDetector_eq, h.detectors,
      breakHit_same h]
  · rfl

theorem missingStretch_same (h : BlindLanes g) (l : Fin 4) (n : Nat) (s : State) : g (missingStretch l n s) = g s := by
  unfold missingStretch
  dsimp only
  split
  · rfl
  · rw [unitTests_same h.toBlindHits, forEach_same g _ _ (fun c t => stretchChannel_same h.toBlindHits _ _ c t)]
    exact h.lanes _ _

theorem podStretch_same (h : BlindLanes g) (l : Fin 4) (n : Nat) (s : State) : g (podStretch l n s) = g s := by
  unfold podStretch
  split
  · exact missingStretch_same h _ _ _
  all_goals rfl

theorem deliverSlot_same (h : BlindHits g) (l : Fin 4) (t : Tick) (f : SampleFrame) (j : Fin 8) (s : State) :
    g (deliverSlot l t f j s) = g s := by
  unfold deliverSlot deliverSamples
  dsimp only
  repeat' split
  all_goals simp only [frameDealt_same h, State.setDetector_eq, h.detectors, ringLine_same h.toCapture]

theorem testFrame_same (h : BlindHits g) (l : Fin 4) (t : Tick) (k : Option Nat) (s : State) :
    g (testFrame l t k s) = g s := by
  have hc : ∀ i n u, g (countFrame i n u) = g u := by
    intro i n u
    unfold countFrame
    dsimp only
    split
    · rw [endTest_same h (presentWith_same h _)]
      exact h.pulse _ _
    · exact h.pulse _ _
  have hw : ∀ i f u, g (enterWindow i f u) = g u := by
    intro i f u
    unfold enterWindow
    dsimp only
    rw [doneTest_same h, emptyHold_same h (present_same h)]
    exact h.pulse _ _
  unfold testFrame
  repeat' split
  all_goals first | rfl | exact hc _ _ _ | exact hw _ _ _

theorem deliverFrame_same (h : BlindLanes g) (l : Fin 4) (f : LaneFrame) (s : State) : g (deliverFrame l f s) = g s := by
  unfold deliverFrame
  dsimp only
  split
  · rw [testFrame_same h.toBlindHits, forEach_same g _ _ (fun j t => deliverSlot_same h.toBlindHits _ _ _ j t)]
    exact h.lanes _ _
  · rw [pressureSample_same h.toBlindHits]
    exact h.lanes _ _

theorem failFrame_same (h : BlindLanes g) (l : Fin 4) (s : State) : g (failFrame l s) = g s := by
  unfold failFrame
  dsimp only
  split
  · rw [tryAlign_same h, laneDown_same h]
    exact h.lanes _ _
  · rw [podStretch_same h]
    exact h.lanes _ _

theorem classifyFrame_same (h : BlindLanes g) (l : Fin 4) (f : LaneFrame) (s : State) :
    g (classifyFrame l f s) = g s := by
  unfold classifyFrame skipFrame
  dsimp only
  repeat' split
  · exact deliverFrame_same h _ _ _
  · rw [deliverFrame_same h, State.setLane_eq, h.lanes, podStretch_same h]
    exact h.lanes _ _
  · exact failFrame_same h _ _

theorem drainLane_same (h : BlindHits g) (l : Fin 4) (s : State) : g (drainLane l s) = g s := by
  unfold drainLane
  split
  · exact forEach_same g _ _ (fun c t => drainFeed_same h c t) s
  all_goals rfl

theorem laneArrival_same (h : BlindLanes g) (l : Fin 4) (f : List Byte) (s : State) : g (laneArrival l f s) = g s := by
  unfold laneArrival upFrame
  repeat' split
  · rfl
  · rfl
  · exact alignLane_same h _ _ _
  · dsimp only
    split
    · rw [failFrame_same h, drainLane_same h.toBlindHits]
    · rw [classifyFrame_same h, drainLane_same h.toBlindHits]

theorem laneSignalLost_same (h : BlindLanes g) (l : Fin 4) (s : State) : g (laneSignalLost l s) = g s := by
  unfold laneSignalLost
  dsimp only
  split
  · exact h.lanes _ _
  · exact h.lanes _ _
  · rw [laneDown_same h]
    exact h.lanes _ _
  · rw [laneDown_same h]
    exact h.lanes _ _

/-! ## The record link -/

theorem countBad_same (h : BlindLink g) (p : Port) (s : State) : g (countBad p s) = g s := by
  unfold countBad
  split <;> exact h.link _ _

theorem pauseIfFull_same (h : BlindLink g) (s : State) : g (pauseIfFull s) = g s := by
  unfold pauseIfFull
  split
  · dsimp only
    rw [h.link, makeMark_same h]
  · rfl

theorem resumeIfDrained_same (h : BlindLink g) (s : State) : g (resumeIfDrained s) = g s := by
  unfold resumeIfDrained
  split
  · dsimp only
    rw [h.link, makeMark_same h]
  · rfl

theorem portUp_same (h : BlindLink g) (p : Port) (q : Byte) (s : State) : g (portUp p q s) = g s := by
  unfold portUp
  dsimp only
  split
  · exact h.link _ _
  · rw [pauseIfFull_same h]
    exact h.link _ _

theorem alignPort_same (h : BlindLink g) (p : Port) (f : List Byte) (s : State) : g (alignPort p f s) = g s := by
  unfold alignPort
  dsimp only
  repeat' split
  · rw [countBad_same h]
    exact h.link _ _
  · exact portUp_same h _ _ _
  · exact h.link _ _
  · rfl

theorem failPortFrame_same (h : BlindLink g) (p : Port) (s : State) : g (failPortFrame p s) = g s := by
  unfold failPortFrame portDown
  dsimp only
  split
  · rw [h.link, countBad_same h]
    exact h.link _ _
  · rw [countBad_same h]
    exact h.link _ _

theorem placeOrder_same (h : BlindLink g) (o : Order) (b : Bool) (s : State) : g (placeOrder o b s) = g s := by
  unfold placeOrder
  split <;> exact h.link _ _

theorem forwardEntry_same (h : BlindLink g) (e : Forward) (s : State) : g (forwardEntry e s) = g s := by
  unfold forwardEntry
  repeat' split
  all_goals first | rfl | exact h.link _ _

theorem orderArrives_same (h : BlindLink g) (o : Order) (s : State) : g (orderArrives o s) = g s := by
  unfold orderArrives passOrder
  dsimp only
  repeat' split
  all_goals simp only [placeOrder_same h, forwardEntry_same h]

theorem chained_same (h : BlindHits g) (s : State) : g (chained s) = g s := by
  unfold chained
  split
  · rfl
  · exact declareBurst_same h _ _ _

theorem burstArrives_same (h : BlindHits g) (s : State) : g (burstArrives s) = g s := by
  unfold burstArrives
  rw [chained_same h]
  split
  · exact forwardEntry_same h.toLink _ _
  · rfl

theorem recordArrives_same (h : BlindHits g) (b : List Byte) (s : State) : g (recordArrives b s) = g s := by
  unfold recordArrives
  dsimp only
  repeat' split
  all_goals simp only [chained_same h, pauseIfFull_same h.toLink, State.setCounts_eq, h.link]

theorem beginNear_same (h : BlindLink g) (s : State) : g (beginNear s) = g s := by
  unfold beginNear
  split
  · rfl
  · exact h.link _ _

theorem beginFar_same (h : BlindLink g) (s : State) : g (beginFar s) = g s := by
  unfold beginFar
  split
  · rfl
  · exact h.link _ _

theorem endNear_same (h : BlindLink g) (s : State) : g (endNear s) = g s := by
  unfold endNear
  split
  · rfl
  · dsimp only
    rw [beginNear_same h]
    split
    · rw [resumeIfDrained_same h]
      exact h.link _ _
    · exact h.link _ _

theorem endFar_same (h : BlindLink g) (s : State) : g (endFar s) = g s := by
  unfold endFar
  split
  · rfl
  · rw [beginFar_same h]
    exact h.link _ _

theorem portArrival_same (h : BlindHits g) (p : Port) (f : List Byte) (s : State) : g (portArrival p f s) = g s := by
  unfold portArrival upPortFrame takeFrame
  repeat' split
  all_goals simp only [alignPort_same h.toLink, failPortFrame_same h.toLink, orderArrives_same h.toLink,
    setNearPause, beginNear_same h.toLink, burstArrives_same h, recordArrives_same h, State.setPort, h.link]

theorem portSignalLost_same (h : BlindLink g) (p : Port) (s : State) : g (portSignalLost p s) = g s := by
  unfold portSignalLost portDown
  dsimp only
  split <;> simp only [State.setPort, h.link]

end Sys2Proof.Machine
end

