-- ==== Sys2Proof/Laws/Frames.lean ====
section
/-! SUPPORT. Bytes and the check code: the length of a field, and a frame with its check code passes the check. The check code of
a long frame need never be computed. A field read back from where it was written. -/

namespace Sys2Proof.Machine

@[simp] theorem be_length (n v : Nat) : (be n v).length = n := by
  induction n with
  | zero => rfl
  | succ n ih => simp [be, ih]

@[simp] theorem checkCode_length (l : List Byte) : (checkCode l).length = 4 := be_length _ _

@[simp] theorem withCheck_length (l : List Byte) : (withCheck l).length = l.length + 4 := by simp [withCheck]

/-- A frame with its check code passes the check. -/
@[simp] theorem checked_withCheck (l : List Byte) : checked (withCheck l) = some l := by
  simp [checked, withCheck]

/-- A frame that passes the check is its bytes with their check code. -/
theorem withCheck_of_checked {f l : List Byte} (h : checked f = some l) : f = withCheck l := by
  unfold checked at h
  split at h
  · simp at h
  · simp only [Option.ite_none_right_eq_some, Option.some.injEq] at h
    obtain ⟨h1, h2⟩ := h
    rw [← h2, withCheck, ← h1, List.take_append_drop]

/-- Samples sent are the samples read. -/
theorem samplesOf_bytes (l : List Sample) : samplesOf (l.flatMap (fun x => be 2 x.toNat)) = l := by
  induction l with
  | nil => rfl
  | cons x l ih =>
    have h : ((BitVec.ofNat 8 (x.toNat / 256) : Byte) ++ (BitVec.ofNat 8 x.toNat : Byte)) = x := by
      apply BitVec.eq_of_toNat_eq
      have hx := x.isLt
      rw [BitVec.toNat_append, BitVec.toNat_ofNat, BitVec.toNat_ofNat, Nat.shiftLeft_eq, Nat.mul_comm,
        ← Nat.two_pow_add_eq_or_of_lt (by omega)]
      omega
    have h1 : x.toNat / 256 ^ 1 = x.toNat / 256 := by rw [Nat.pow_one]
    have h0 : x.toNat / 256 ^ 0 = x.toNat := by rw [Nat.pow_zero, Nat.div_one]
    rw [List.flatMap_cons]
    show ((BitVec.ofNat 8 (x.toNat / 256 ^ 1) : Byte) ++ (BitVec.ofNat 8 (x.toNat / 256 ^ 0) : Byte)) ::
      samplesOf (l.flatMap (fun x => be 2 x.toNat)) = x :: l
    rw [h1, h0, h, ih]

theorem withCheck_head (k : Byte) (l : List Byte) : byteAt (withCheck (k :: l)) 0 = k := rfl

theorem withCheck_second (k q : Byte) (l : List Byte) : frameSeq (withCheck (k :: q :: l)) = q := rfl

/-! ## Fields by their offset -/

/-- A field's bytes carry its number, modulo what they can hold. -/
theorem number_be (n v : Nat) : number (be n v) = v % 256 ^ n := by
  have h : ∀ (n a : Nat), (be n v).foldl (fun x b => x * 256 + b.toNat) a = a * 256 ^ n + v % 256 ^ n := by
    intro n
    induction n with
    | zero => intro a; simp [be, Nat.mod_one]
    | succ n ih =>
      intro a
      rw [be, List.foldl_cons, ih, BitVec.toNat_ofNat, Nat.pow_succ 256 n, Nat.mod_mul (a := 256 ^ n) (b := 256) (x := v)]
      ring
  rw [number, h n 0, Nat.zero_mul, Nat.zero_add]

/-- A field that lies in the first part. -/
theorem fieldAt_append_left {a : List Byte} (b : List Byte) {i n : Nat} (h : i + n ≤ a.length) :
    fieldAt (a ++ b) i n = fieldAt a i n := by
  rw [fieldAt, fieldAt, List.drop_append_of_le_length (by omega),
    List.take_append_of_le_length (by rw [List.length_drop]; omega)]

/-- A field that lies in the second part. -/
theorem fieldAt_append_right {a : List Byte} (b : List Byte) {i : Nat} (n : Nat) (h : a.length ≤ i) :
    fieldAt (a ++ b) i n = fieldAt b (i - a.length) n := by
  rw [fieldAt, fieldAt, List.drop_append, List.drop_eq_nil_of_le h, List.nil_append]

/-- The field that a string of bytes begins with. -/
theorem fieldAt_be (n v : Nat) (b : List Byte) : fieldAt (be n v ++ b) 0 n = v % 256 ^ n := by
  rw [fieldAt, List.drop_zero, List.take_append_of_le_length (by rw [be_length]),
    List.take_of_length_le (by rw [be_length]), number_be]

theorem byteAt_append_left {a : List Byte} (b : List Byte) {i : Nat} (h : i < a.length) :
    byteAt (a ++ b) i = byteAt a i := List.getD_append _ _ _ _ h

theorem byteAt_append_right {a : List Byte} (b : List Byte) {i : Nat} (h : a.length ≤ i) :
    byteAt (a ++ b) i = byteAt b (i - a.length) := List.getD_append_right _ _ _ _ h

/-- Padding reads as zero. -/
theorem byteAt_zeros (n i : Nat) : byteAt (List.replicate n 0) i = 0 := by
  rw [byteAt, List.getD_eq_getElem?_getD, List.getElem?_replicate]
  split <;> rfl

end Sys2Proof.Machine
end

