-- ==== Sys2Proof/Laws/Grouping.lean ====
section
/-! SUPPORT. What the ordered insertions do (a hit into a member list or the hold list, a group into the open group list), what
closing a group leaves in the grouping unit, and that a test's end leaves no test. -/

namespace Sys2Proof.Machine

/-! ## Ordered insertion -/

theorem memberBefore_iff (a b : HitRecord) : memberBefore a b = true ↔ hitBefore a b := by
  unfold memberBefore hitBefore
  split <;> simp_all

theorem insertHit_inserted (h : HitRecord) (l : List HitRecord) : Inserted hitBefore h l (insertHit h l) := by
  induction l with
  | nil => exact ⟨[], [], rfl, rfl, by simp, by simp⟩
  | cons m ms ih =>
    unfold insertHit
    by_cases hm : memberBefore h m = true
    · rw [if_pos hm]
      exact ⟨[], m :: ms, rfl, rfl, by simp, by simpa using (memberBefore_iff h m).mp hm⟩
    · rw [if_neg hm]
      obtain ⟨a, b, e, e', ha, hb⟩ := ih
      refine ⟨m :: a, b, by rw [e, List.cons_append], by rw [e', List.cons_append], fun y hy => ?_, hb⟩
      rcases List.mem_cons.mp hy with rfl | hy
      · exact fun c => hm ((memberBefore_iff h y).mpr c)
      · exact ha y hy

theorem insertGroup_inserted (x : Group) (l : List Group) : Inserted groupBefore x l (insertGroup x l) := by
  induction l with
  | nil => exact ⟨[], [], rfl, rfl, by simp, by simp⟩
  | cons m ms ih =>
    unfold insertGroup
    by_cases hm : earlier x.anchor m.anchor = true
    · rw [if_pos hm]
      exact ⟨[], m :: ms, rfl, rfl, by simp, by simpa [groupBefore] using hm⟩
    · rw [if_neg hm]
      obtain ⟨a, b, e, e', ha, hb⟩ := ih
      refine ⟨m :: a, b, by rw [e, List.cons_append], by rw [e', List.cons_append], fun y hy => ?_, hb⟩
      rcases List.mem_cons.mp hy with rfl | hy
      · exact hm
      · exact ha y hy

/-- An insertion adds the entry and keeps the others. -/
theorem Inserted.perm {α : Type} {before : α → α → Prop} {x : α} {l l' : List α} (h : Inserted before x l l') :
    l'.Perm (x :: l) := by
  obtain ⟨a, b, rfl, rfl, _, _⟩ := h
  exact List.perm_middle

theorem insertHit_perm (h : HitRecord) (l : List HitRecord) : (insertHit h l).Perm (h :: l) :=
  (insertHit_inserted h l).perm

theorem insertGroup_perm (x : Group) (l : List Group) : (insertGroup x l).Perm (x :: l) :=
  (insertGroup_inserted x l).perm

@[simp] theorem insertHit_length (h : HitRecord) (l : List HitRecord) : (insertHit h l).length = l.length + 1 :=
  (insertHit_perm h l).length_eq

@[simp] theorem insertGroup_length (x : Group) (l : List Group) : (insertGroup x l).length = l.length + 1 :=
  (insertGroup_perm x l).length_eq

/-- A member list with no sensor twice has at most 32 members (R79, R81). -/
theorem members_le (l : List HitRecord) (h : (l.map (fun m => m.sensor)).Nodup) : l.length ≤ 32 := by
  simpa using h.length_le_card

/-- A hit of a sensor that the list does not hold keeps the sensors of the list apart. -/
theorem insertHit_sensors (h : HitRecord) (l : List HitRecord) (hl : (l.map (fun m => m.sensor)).Nodup)
    (hn : ∀ m ∈ l, m.sensor ≠ h.sensor) : ((insertHit h l).map (fun m => m.sensor)).Nodup := by
  rw [((insertHit_perm h l).map _).nodup_iff, List.map_cons, List.nodup_cons]
  refine ⟨fun hm => ?_, hl⟩
  obtain ⟨m, hm, e⟩ := List.mem_map.mp hm
  exact hn m hm e

/-! ## The grouping unit -/

theorem offerGroup_grouping (e : EventRecord) (l : List HitRecord) (s : State) :
    (offerGroup e l s).grouping = s.grouping := by
  unfold offerGroup
  rw [forEach_same State.grouping _ _ (fun _ t => offer_same ⟨fun _ _ => rfl⟩ _ _ t)]
  exact offer_same ⟨fun _ _ => rfl⟩ _ _ s

theorem accountEvent_grouping (e : EventRecord) (s : State) : (accountEvent e s).grouping = s.grouping :=
  accountEvent_same ⟨⟨fun _ _ => rfl⟩, fun _ _ => rfl⟩ e s

/-- A group that closes leaves the list, and its anchor is the last closed anchor (R92). -/
theorem closeGroup_grouping (how : GroupClose) (x : Group) (s : State) :
    (closeGroup how x s).grouping =
      { s.grouping with
        groups := s.grouping.groups.filter (fun y => !(y.number == x.number)), lastClosed := some x.anchor } := by
  unfold closeGroup
  dsimp only
  rw [offerGroup_grouping, accountEvent_grouping]
  rfl

/-! ## Declarations and test ends -/

/-- A burst is declared in RUN alone (R163). -/
theorem declareBurst_outside (e : EndCause) (k : BurstCause) (s : State) (h : s.run.state ≠ .run) :
    declareBurst e k s = s := if_neg h

theorem concludeTest_test (k : EndCause) (s : State) : (concludeTest k s).pulse.test = .none := by
  unfold concludeTest
  split
  · assumption
  · rw [offer_same (g := State.pulse) ⟨fun _ _ => rfl⟩]
    rfl
  · rw [offer_same (g := State.pulse) ⟨fun _ _ => rfl⟩]
    rfl

/-- No test is in flight after a test's end (R156). -/
theorem endTest_test (pres : Presenter) (m : Tests) (k : EndCause) (s : State) :
    (endTest pres m k s).pulse.test = .none := by
  unfold endTest
  split
  · exact concludeTest_test _ _
  · rename_i h
    unfold TestState.inFlight at h
    split at h <;> simp_all

end Sys2Proof.Machine
end

