-- ==== Sys2Proof/Laws/Memory.lean ====
section
/-! SUPPORT. The capture memory: its operations keep the canonical form, and what is read after them. -/

namespace Sys2Proof.Machine

theorem Memory.wf_nil : Memory.wf [] := List.Pairwise.nil

/-- A line number of the memory after a write is the one written or one that was there. -/
theorem Memory.mem_write (m : Memory) (a b : Nat) (x : Line) (h : b ∈ (Memory.write m a x).map Prod.fst) :
    b = a ∨ b ∈ m.map Prod.fst := by
  induction m with
  | nil => simpa [Memory.write] using h
  | cons p m ih =>
    obtain ⟨c, y⟩ := p
    simp only [Memory.write] at h
    split at h
    · simpa using h
    · split at h
      · rename_i hac
        subst hac
        simp only [List.map_cons, List.mem_cons] at h ⊢
        tauto
      · simp only [List.map_cons, List.mem_cons] at h ⊢
        rcases h with h | h
        · exact Or.inr (Or.inl h)
        · rcases ih h with h | h
          · exact Or.inl h
          · exact Or.inr (Or.inr h)

/-- A write keeps the canonical form. -/
theorem Memory.wf_write (m : Memory) (a : Nat) (x : Line) (h : Memory.wf m) : Memory.wf (Memory.write m a x) := by
  induction m with
  | nil => simp [Memory.write, Memory.wf]
  | cons p m ih =>
    obtain ⟨c, y⟩ := p
    simp only [Memory.wf, List.map_cons, List.pairwise_cons] at h ih
    simp only [Memory.write]
    split
    · rename_i hac
      simp only [Memory.wf, List.map_cons, List.pairwise_cons, List.mem_cons]
      refine ⟨?_, h⟩
      rintro b (rfl | hb)
      · exact hac
      · exact lt_trans hac (h.1 b hb)
    · split
      · rename_i hac
        subst hac
        simpa only [Memory.wf, List.map_cons, List.pairwise_cons] using h
      · simp only [Memory.wf, List.map_cons, List.pairwise_cons]
        refine ⟨fun b hb => ?_, ih h.2⟩
        rcases Memory.mem_write m a b x hb with rfl | hb
        · omega
        · exact h.1 b hb

/-- Forgetting a line keeps the canonical form. -/
theorem Memory.wf_forget (m : Memory) (a : Nat) (h : Memory.wf m) : Memory.wf (Memory.forget m a) :=
  h.sublist ((List.filter_sublist).map Prod.fst)

/-- The line written is read back. -/
theorem Memory.read_write_same (m : Memory) (a : Nat) (x : Line) :
    Memory.read (Memory.write m a x) a = some x := by
  induction m with
  | nil => simp [Memory.write, Memory.read]
  | cons p m ih =>
    obtain ⟨c, y⟩ := p
    simp only [Memory.write]
    split
    · simp [Memory.read]
    · split
      · simp [Memory.read]
      · rename_i h1 h2
        have h3 : ¬ c = a := fun e => h2 e.symm
        simpa [Memory.read, h3] using ih

/-- Every other line reads as before a write. -/
theorem Memory.read_write_other (m : Memory) (a b : Nat) (x : Line) (h : b ≠ a) :
    Memory.read (Memory.write m a x) b = Memory.read m b := by
  have hab : ¬ a = b := fun e => h e.symm
  induction m with
  | nil => simp [Memory.write, Memory.read, hab]
  | cons p m ih =>
    obtain ⟨c, y⟩ := p
    simp only [Memory.write]
    split
    · simp [Memory.read, hab]
    · split
      · rename_i hac
        subst hac
        simp [Memory.read, hab]
      · by_cases hcb : c = b
        · simp [Memory.read, hcb]
        · simpa [Memory.read, hcb] using ih

/-- A forgotten line is not known. -/
theorem Memory.read_forget_same (m : Memory) (a : Nat) : Memory.read (Memory.forget m a) a = none := by
  simp [Memory.read, Memory.forget]

/-- Every other line reads as before one is forgotten. -/
theorem Memory.read_forget_other (m : Memory) (a b : Nat) (h : b ≠ a) :
    Memory.read (Memory.forget m a) b = Memory.read m b := by
  induction m with
  | nil => rfl
  | cons p m ih =>
    obtain ⟨c, y⟩ := p
    simp only [Memory.read, Memory.forget] at ih
    by_cases hca : c = a
    · subst hca
      have hcb : ¬ c = b := fun e => h e.symm
      simpa [Memory.read, Memory.forget, hcb] using ih
    · by_cases hcb : c = b
      · subst hcb
        simp [Memory.read, Memory.forget, h]
      · simpa [Memory.read, Memory.forget, hca, hcb] using ih

/-- The memory of the reset state. -/
theorem State.reset_memory : State.reset.capture.memory = [] := rfl

theorem State.reset_memory_wf : Memory.wf State.reset.capture.memory := Memory.wf_nil

end Sys2Proof.Machine
end

