-- ==== Sys2Proof/Laws/Orders.lean ====
section
/-! SUPPORT. The execution of an order, said once: what is served, the two ends of an execution, and the refusal list. A proof about
an order's row cites these and never unfolds `execute`. -/

namespace Sys2Proof.Machine

/-! ## The head of the intake -/

theorem executable_of_serves {s : State} {e : IntakeEntry} {rest : List IntakeEntry} (h : Serves s e rest) :
    executable s = some (e, rest) := by
  obtain ⟨h1, h2, h3⟩ := h
  simp [executable, h1, h2, h3]

theorem serves_of_executable {s : State} {e : IntakeEntry} {rest : List IntakeEntry}
    (h : executable s = some (e, rest)) : Serves s e rest := by
  unfold executable at h
  split at h
  · rename_i hr
    simp only [Bool.and_eq_true, decide_eq_true_eq] at hr
    split at h
    · simp at h
    · rename_i f r hi
      simp only [Option.some.injEq, Prod.mk.injEq] at h
      obtain ⟨rfl, rfl⟩ := h
      exact ⟨hr.1, hr.2, hi⟩
  · simp at h

theorem taken_iff (k : Byte) (e : IntakeEntry) : taken k e = true ↔ TakenAs k e := by simp [taken, TakenAs]

theorem writes_iff (n : Nat) (e : IntakeEntry) : writes n e = true ↔ WritesItem n e := by
  simp only [writes, WritesItem, Bool.and_eq_true, Bool.not_eq_true', Order.short, decide_eq_false_iff_not, not_lt,
    beq_iff_eq, taken_iff]
  tauto

/-! ## The refusal list -/

@[simp] theorem firstReason_nil : firstReason [] = none := rfl

theorem firstReason_holds {b : Bool} (r : Reason) (l : List (Bool × Reason)) (h : b = true) :
    firstReason ((b, r) :: l) = some r := by simp [firstReason, h]

theorem firstReason_skips {b : Bool} (r : Reason) (l : List (Bool × Reason)) (h : b = false) :
    firstReason ((b, r) :: l) = firstReason l := by simp [firstReason, h]

theorem firstReason_none_iff (l : List (Bool × Reason)) : firstReason l = none ↔ ∀ p ∈ l, p.1 = false := by
  induction l with
  | nil => simp
  | cons p l ih =>
    obtain ⟨b, r⟩ := p
    cases b <;> simp [firstReason, ih]

/-! ## The two ends of an execution -/

section
variable {want : IntakeEntry → Bool} {check : IntakeEntry → State → Option Reason}
  {effect : IntakeEntry → State → State} {contents : IntakeEntry → State → List Byte}
  {s : State} {e : IntakeEntry} {rest : List IntakeEntry}

theorem execute_refused (h : Serves s e rest) (hw : want e = true) {r : Reason}
    (hc : check e (s.headTaken rest) = some r) :
    execute want check effect contents s = refusedState s e rest r := by
  simp only [State.headTaken] at hc
  simp [execute, executable_of_serves h, hw, hc, refusedState, State.headTaken]

theorem execute_done (h : Serves s e rest) (hw : want e = true) (hc : check e (s.headTaken rest) = none) :
    execute want check effect contents s =
      placeAnswer e.order none (contents e (s.headTaken rest)) (effect e (s.headTaken rest)) := by
  simp only [State.headTaken] at hc
  simp [execute, executable_of_serves h, hw, hc, State.headTaken]

theorem executeOrder_refused (h : Serves s e rest) (hw : want e = true) {r : Reason}
    (hc : check e (s.headTaken rest) = some r) :
    executeOrder want check effect s = refusedState s e rest r := execute_refused h hw hc

theorem executeOrder_done (h : Serves s e rest) (hw : want e = true) (hc : check e (s.headTaken rest) = none) :
    executeOrder want check effect s = doneState e (effect e (s.headTaken rest)) := execute_done h hw hc

/-- An execution that is not enabled, or whose row is another, changes nothing. -/
theorem execute_other (h : ∀ f r, Serves s f r → want f = false) : execute want check effect contents s = s := by
  unfold execute
  split
  · rfl
  · rename_i f r hx
    simp [h f r (serves_of_executable hx)]

/-- Everything an execution can do: nothing, a refusal, or its effect. -/
theorem execute_cases (s : State) :
    execute want check effect contents s = s ∨
    ∃ e rest, Serves s e rest ∧ want e = true ∧
      ((∃ r, execute want check effect contents s = refusedState s e rest r) ∨
       execute want check effect contents s =
         placeAnswer e.order none (contents e (s.headTaken rest)) (effect e (s.headTaken rest))) := by
  cases hx : executable s with
  | none => exact Or.inl (by simp [execute, hx])
  | some p =>
    obtain ⟨e, rest⟩ := p
    have hs := serves_of_executable hx
    cases hw : want e with
    | false => exact Or.inl (by simp [execute, hx, hw])
    | true =>
      refine Or.inr ⟨e, rest, hs, hw, ?_⟩
      cases hc : check e (s.headTaken rest) with
      | none => exact Or.inr (execute_done hs hw hc)
      | some r => exact Or.inl ⟨r, execute_refused hs hw hc⟩

end

/-! ## What a refusal and an answer leave alone -/

/-- An answer changes the record link's answer queue alone. -/
theorem placeAnswer_link (o : Order) (r : Option Reason) (l : List Byte) (s : State) :
    ∃ a : Answer, a.tag = o.tag ∧ a.kind = o.kind ∧ a.reason = r ∧ a.contents = l ∧ a.part = s.run.address ∧
      placeAnswer o r l s = s.setLink { s.link with answers := s.link.answers ++ [a] } :=
  ⟨answerOf s o r l, rfl, rfl, rfl, rfl, rfl, rfl⟩

/-- A refusal takes the order from the intake and places one answer; nothing else changes. -/
theorem refusedState_link (s : State) (e : IntakeEntry) (rest : List IntakeEntry) (r : Reason) :
    ∃ a : Answer, a.tag = e.order.tag ∧ a.kind = e.order.kind ∧ a.reason = some r ∧ a.contents = [] ∧
      refusedState s e rest r = s.setLink { s.link with intake := rest, answers := s.link.answers ++ [a] } :=
  ⟨_, rfl, rfl, rfl, rfl, rfl⟩

end Sys2Proof.Machine
end

