-- ==== Sys2Proof/Laws/Queue.lean ====
section
/-! SUPPORT. What an offer to the own record queue can do: it changes the record link alone, and keeps the fill within 4,096 units
(R177, R178). -/

namespace Sys2Proof.Machine

theorem Link.fill_append (k : Link) (l : List Record) : ((k.own ++ l).map Record.units).sum = k.fill + (l.map Record.units).sum := by
  simp [Link.fill]

/-- The fill after an admission. -/
theorem Link.fill_enqueue (k : Link) (r : Record) : (k.enqueue r).fill = k.fill + r.units := by
  simp [Link.enqueue, Link.fill]

/-- The fill after a record is shed. -/
theorem Link.fill_shed (k : Link) (r : Record) : (k.shed r).fill = k.fill := rfl

/-- Only a record that fits is admitted. -/
theorem admitted_fits {f : Nat} {r : Record} {b : Bool} (h : admitted f r b = true) : f + r.units ≤ 4096 := by
  unfold admitted at h
  simp only [Bool.and_eq_true, decide_eq_true_eq] at h
  exact h.1

/-- An offer keeps the fill within the queue's length. -/
theorem Link.fill_offer (k : Link) (r : Record) (b : Bool) (h : k.fill ≤ 4096) : (k.offer r b).fill ≤ 4096 := by
  unfold Link.offer
  split
  · rename_i ha
    rw [Link.fill_enqueue]
    exact admitted_fits ha
  · exact h

/-- Everything an offer outside bypass can do to the record link. -/
theorem Link.offer_cases (k : Link) (r : Record) (b : Bool) :
    (admitted k.fill r b = true ∧ k.offer r b = k.enqueue r) ∨ (admitted k.fill r b = false ∧ k.offer r b = k.shed r) := by
  cases h : admitted k.fill r b with
  | true => exact Or.inl ⟨rfl, by simp [Link.offer, h]⟩
  | false => exact Or.inr ⟨rfl, by simp [Link.offer, h]⟩

/-- In bypass no record is offered. -/
theorem offer_bypass (r : Record) (b : Bool) (s : State) (h : s.run.bypass = true) : offer r b s = s := by
  simp [offer, h]

/-- Outside bypass an offer changes the record link alone. -/
theorem offer_link (r : Record) (b : Bool) (s : State) (h : s.run.bypass = false) :
    offer r b s = s.setLink (s.link.offer r b) := by simp [offer, h]

/-- An offer leaves every queue but the own record queue as it was. -/
theorem offer_queues (r : Record) (b : Bool) (s : State) :
    (offer r b s).link.answers = s.link.answers ∧ (offer r b s).link.intake = s.link.intake ∧
    (offer r b s).link.pass = s.link.pass ∧ (offer r b s).link.forward = s.link.forward ∧
    (offer r b s).link.marks = s.link.marks ∧ (offer r b s).link.near = s.link.near ∧
    (offer r b s).link.far = s.link.far := by
  cases h : s.run.bypass with
  | true => simp [offer_bypass _ _ _ h]
  | false =>
    rw [offer_link _ _ _ h]
    rcases Link.offer_cases s.link r b with ⟨_, hk⟩ | ⟨_, hk⟩ <;> rw [hk] <;>
      exact ⟨rfl, rfl, rfl, rfl, rfl, rfl, rfl⟩

/-- An offer keeps the fill within the queue's length. -/
theorem offer_fill (r : Record) (b : Bool) (s : State) (h : s.link.fill ≤ 4096) : (offer r b s).link.fill ≤ 4096 := by
  cases hb : s.run.bypass with
  | true => simpa [offer_bypass _ _ _ hb] using h
  | false =>
    rw [offer_link _ _ _ hb]
    exact Link.fill_offer s.link r b h

theorem notify_fill (x : NoticeBody) (s : State) (h : s.link.fill ≤ 4096) : (notify x s).link.fill ≤ 4096 :=
  offer_fill _ _ _ h

end Sys2Proof.Machine
end

