-- ==== Sys2Proof/Tests/Slice0.lean ====
section
/-! SUPPORT. The model's own tests: each well-formedness check with a command it refuses; one step of each command on a small
state; and, for every statement with hypotheses, states and operands that meet them (test_reach_...), clause by clause. -/

namespace Sys2Proof.Tests

set_option Elab.async false

open Sys2Proof Sys2Proof.Machine

/-! ## Small states -/

/-- A running part in IDLE. -/
def idle : State := State.reset.setPower { resetLine := true, supplyGood := true, settling := false }

/-- The part at a tick of its timebase. -/
def onTick (n : Nat) (s : State) : State :=
  s.setTimebase { s.timebase with counter := BitVec.ofNat 48 n, uptime := n }

/-- The part with its timebase SET. -/
def clocked (s : State) : State := s.setTimebase { s.timebase with set := true }

/-- The part in a run state. -/
def inState (r : RunState) (s : State) : State := s.setRun { s.run with state := r }

/-- The part in bypass. -/
def aside (s : State) : State := s.setRun { s.run with bypass := true }

/-- A lane in a state, signal present, expecting sequence 5 at tick 116. -/
def withLane (l : Fin 4) (x : LaneState) (s : State) : State :=
  s.setLane l
    { s.lanes[l] with state := x, signal := true, expSeq := some 5, expTick := some 116, prevSeq := some 4 }

/-- A channel mapped to a sensor. -/
def mapped (c n : Fin 32) (s : State) : State := s.setSensorMap (put s.sensorMap c (some n))

/-- A channel's detector in a state. -/
def withDetector (c : Fin 32) (x : DetState) (s : State) : State :=
  s.setDetector c { s.detectors[c] with state := x }

/-- A sample waiting at a channel's detector. -/
def sampleAt (t : Tick) (v : Sample) : FeedSample := { tick := t, value := v, saturated := false }

def fed (c : Fin 32) (l : List FeedSample) (s : State) : State :=
  s.setDetector c { s.detectors[c] with feed := some { stamp := 100, samples := l } }

/-- A test in flight. -/
def testInfo : TestInfo := { tag := 7, source := 3, channel := 3, window := 1000, sendTick := 50 }

def waitingTest (s : State) : State := s.setPulse { s.pulse with test := .waiting testInfo 0 }

def windowTest (s : State) : State := s.setPulse { s.pulse with test := .window testInfo 60 }

/-- A port in UP. -/
def portUp' (p : Port) (s : State) : State :=
  s.setLink (s.link.setPort p { s.link.port p with state := .up, signal := true, alignCount := 8 })

/-- The state a command leaves. -/
def after (c : Instr) (s : State) : State :=
  match exec c s with
  | .next t => t
  | .fault _ => s
  | .refused _ => s

/-- An order in the intake, taken. -/
def order (k : Byte) (l : List Byte) : IntakeEntry :=
  { order := { address := 0, kind := k, tag := 7, args := l }, take := true, arrived := 0 }

/-- A WRITE in the intake. -/
def writing (code idx : Nat) (l : List Byte) : IntakeEntry :=
  order writeKind (be 1 code ++ [0#8] ++ be 2 idx ++ l)

/-- The part with one order waiting. -/
def serve (e : IntakeEntry) (s : State) : State := s.setLink { s.link with intake := [e] }

/-- What the last answer said: OK or the reason of the refusal. -/
def verdict (s : State) : Option (Option Reason) := s.link.answers.getLast?.map (fun a => a.reason)

/-! ## Well-formed commands -/

theorem test_refuses_gauge_kind_as_sample_frame :
    (Instr.sampleFrame 0 [gaugeKind]).wellFormed = false ∧ (Instr.sampleFrame 0 [sampleKind]).wellFormed = true := by
  decide +kernel

theorem test_refuses_sample_kind_as_gauge_frame :
    (Instr.gaugeFrame 3 [sampleKind]).wellFormed = false ∧ (Instr.gaugeFrame 3 [gaugeKind]).wellFormed = true := by
  decide +kernel

theorem test_refuses_order_kind_as_near_idle_frame :
    (Instr.idleFrame .near [orderKind]).wellFormed = false ∧ (Instr.idleFrame .near [idleKind]).wellFormed = true := by
  decide +kernel

theorem test_refuses_record_kind_as_far_idle_frame :
    (Instr.idleFrame .far [recordKind]).wellFormed = false ∧ (Instr.idleFrame .far []).wellFormed = true := by
  decide +kernel

theorem test_refuses_idle_kind_as_order_frame :
    (Instr.orderFrame [idleKind]).wellFormed = false ∧ (Instr.orderFrame [orderKind]).wellFormed = true := by
  decide +kernel

theorem test_refuses_resume_kind_as_pause_mark :
    (Instr.pauseMark [resumeKind]).wellFormed = false ∧ (Instr.pauseMark [pauseKind]).wellFormed = true := by
  decide +kernel

theorem test_refuses_pause_kind_as_resume_mark :
    (Instr.resumeMark [pauseKind]).wellFormed = false ∧ (Instr.resumeMark [resumeKind]).wellFormed = true := by
  decide +kernel

theorem test_refuses_pause_kind_as_burst_mark :
    (Instr.burstMark [pauseKind]).wellFormed = false ∧ (Instr.burstMark [burstKind]).wellFormed = true := by
  decide +kernel

theorem test_refuses_idle_kind_as_record_frame :
    (Instr.recordFrame [idleKind]).wellFormed = false ∧ (Instr.recordFrame [recordKind]).wellFormed = true := by
  decide +kernel

/-- A kind byte that is no kind of the port at all is a frame of any row: it arrives and fails the check. -/
theorem test_accepts_corrupted_kind : (Instr.sampleFrame 0 [0#8]).wellFormed = true := by decide +kernel

/-! ## Words -/

/-- No row of the table gives bits, so no word spells a command. -/
theorem test_no_word_spells_a_command (n w : Nat) (s : State) :
    decodeTableWord n w = none ∧ s.withFetchWord n w = s := ⟨rfl, rfl⟩

/-- The check code of the digits 1 to 9 is the one spec/12 gives (R191). -/
theorem test_check_code_of_digits :
    checkCode [0x31#8, 0x32#8, 0x33#8, 0x34#8, 0x35#8, 0x36#8, 0x37#8, 0x38#8, 0x39#8]
      = [0xFC#8, 0x89#8, 0x19#8, 0x18#8] := by decide +kernel

/-! ## The queue and time -/

theorem test_step_takes_the_front :
    (match step (idle.setPending [.resetAssert .resetLine, .settleEnd]) with
     | .next t => decide (t.pending = [.settleEnd] ∧ t.inReset = true)
     | .fault _ => false
     | .refused _ => false) = true := by decide +kernel

theorem test_empty_queue_counts :
    (match step (onTick 7 idle) with
     | .next t => decide (t.timebase.counter = 8 ∧ t.pending = [])
     | .fault _ => false
     | .refused _ => false) = true := by decide +kernel

/-- The settle period's end falls due at 100,000 ticks. -/
theorem test_settle_end_falls_due :
    (tick (onTick 99999 State.reset)).pending = [.settleEnd] ∧ (tick (onTick 99998 State.reset)).pending = [] := by
  decide +kernel

theorem test_reach_EmptyQueueTicks :
    (State.reset.pending = [] ∧ State.reset.inReset = false) ∧
    ((after (.resetAssert .resetLine) State.reset).pending = [] ∧
      (after (.resetAssert .resetLine) State.reset).inReset = true) := by decide +kernel

/-! ## Reset -/

theorem test_reset_assert : (after (.resetAssert .supplyGood) (inState .run idle)).run.state = .idle := by decide +kernel

theorem test_reset_release :
    (after .resetRelease (after (.resetAssert .resetLine) (onTick 5 idle))).power
      = { resetLine := true, supplyGood := true, settling := true } := by decide +kernel

/-- A lane with signal at the end of the settle period. -/
def settled : State :=
  onTick 100000 (State.reset.setLane 0 { State.reset.lanes[0] with signal := true })

theorem test_settle_end :
    (after .settleEnd settled).running = true ∧ (after .settleEnd settled).lanes[0].state = .aligning ∧
    (after .settleEnd (onTick 99999 settled)).running = false := by decide +kernel

theorem test_reach_ResetAssertedThenReleased :
    (after (.resetAssert .resetLine) idle).inReset = true ∧
    (settled.inReset = false ∧ settled.power.settling = true ∧ 100000 ≤ settled.timebase.counter.toNat) := by
  decide +kernel

theorem test_reach_CommandsComplete :
    (State.reset.running = false ∧ needsRunning .start = true) ∧
    ((after (.resetAssert .resetLine) idle).running = false ∧ needsRunning .start = true) := by decide +kernel

/-! ## Lanes -/

theorem test_signal_detect : (after (.signalDetect 0) idle).lanes[0].state = .aligning := by decide +kernel

theorem test_loss_of_signal :
    (after (.lossOfSignal 3) (withLane 3 .up idle)).lanes[3].state = .down ∧
    (after (.lossOfSignal 3) (withLane 3 .up idle)).tracker.phase = .nogauge := by decide +kernel

theorem test_reach_LaneSignalChanges :
    (idle.running = true ∧ idle.lanes[(0 : Fin 4)].state = .down) ∧
    ((withLane 0 .aligning idle).running = true ∧ (withLane 0 .aligning idle).lanes[(0 : Fin 4)].state = .aligning) ∧
    ((withLane 0 .up idle).running = true ∧ (withLane 0 .up idle).lanes[(0 : Fin 4)].state = .up ∧
      (withLane 0 .up idle).lanes[(0 : Fin 4)].role = .pod) ∧
    ((withLane 3 .up idle).running = true ∧ (withLane 3 .up idle).lanes[(3 : Fin 4)].state = .up ∧
      (withLane 3 .up idle).lanes[(3 : Fin 4)].role = .gauge) ∧
    (withLane 0 .off idle).lanes[(0 : Fin 4)].state = .off := by decide +kernel

/-- A gauge frame with sequence 5 and pressure 600. -/
def gauge5 : List Byte := GaugeFrame.bytes { seq := 5, pressure := 600 }

theorem test_reads_gauge_frame : readGaugeFrame gauge5 = some { seq := 5, pressure := 600 } := by decide +kernel

/-- A sample frame with sequence 5 and all samples `v`. -/
def sample5 (v : Sample) : SampleFrame := { seq := 5, marks := 0, fire := 0, samples := List.replicate 128 v }

theorem test_reads_sample_frame (v : Sample) : readSampleFrame (sample5 v).bytes = some (sample5 v) := by
  have key : ∀ l : List Byte, l.length = 256 → samplesOf l = List.replicate 128 v →
      readSampleFrame (withCheck ([sampleKind, 5, 0, 0] ++ l)) = some (sample5 v) := by
    intro l hl hs
    have h : ([sampleKind, 5, 0, 0] ++ l).length + 4 = 264 := by simp [hl]
    simp only [readSampleFrame, checked_withCheck, withCheck_length]
    rw [if_pos ⟨rfl, h⟩]
    show some { seq := 5, marks := 0, fire := 0, samples := samplesOf l } = some (sample5 v)
    rw [hs]
    rfl
  exact key _ (by simp [sample5]) (samplesOf_bytes _)

/-- One aligned frame short of UP. -/
def nearlyUp : State :=
  idle.setLane 3
    { idle.lanes[3] with state := .aligning, signal := true, alignCount := 7, prevSeq := some 4 }

theorem test_eighth_aligned_frame :
    (after (.gaugeFrame 3 gauge5) nearlyUp).lanes[3].state = .up ∧
    (after (.gaugeFrame 3 gauge5) nearlyUp).lanes[3].expSeq = some 6 := by decide +kernel

theorem test_reach_AligningLaneCounts :
    (nearlyUp.running = true ∧ nearlyUp.lanes[(3 : Fin 4)].state = .aligning) ∧
    readLaneFrame nearlyUp.lanes[(3 : Fin 4)].role [] = none ∧
    (readLaneFrame nearlyUp.lanes[(3 : Fin 4)].role gauge5 = some (.gauge { seq := 5, pressure := 600 }) ∧
      countAfter nearlyUp.lanes[(3 : Fin 4)] 5 = 8) := by decide +kernel

/-- LP0 one aligned frame short of UP in a run state, channels 0 and 1 mapped, channel 1 live already. -/
def podNearlyUp (r : RunState) : State :=
  let s := withDetector 1 .quiet (mapped 1 1 (mapped 0 0 (onTick 100 (inState r idle))))
  s.setLane 0 { s.lanes[0] with state := .aligning, signal := true, alignCount := 7, prevSeq := some 4 }

/-- The mapped channels' horizons are set at the entry into UP, and a detector that was OFF is live in RUN. -/
theorem test_channels_enter_live_set :
    (laneUp 0 5 (podNearlyUp .run)).detectors[(0 : Fin 32)] = { state := .quiet, horizon := some 115, feed := none } ∧
    (laneUp 0 5 (podNearlyUp .idle)).detectors[(0 : Fin 32)] = { state := .off, horizon := some 115, feed := none } ∧
    (laneUp 0 5 (podNearlyUp .run)).detectors[(2 : Fin 32)].horizon = none := by decide +kernel

/-- The eighth frame on a POD lane, in RUN, in TAILING, in IDLE with and without a test; a channel that is OFF, one that is live,
one that is unmapped, one of another lane. -/
theorem test_reach_AligningLaneCounts_pod :
    (∀ r ∈ [RunState.run, .tailing, .idle],
      let s := podNearlyUp r
      s.running = true ∧ s.lanes[(0 : Fin 4)].state = .aligning ∧ s.lanes[(0 : Fin 4)].role = .pod ∧
      countAfter s.lanes[(0 : Fin 4)] (sample5 0).seq = 8 ∧ s.run.state = r ∧
      s.sensorMap[(0 : Fin 32)] ≠ none ∧ s.detectors[(0 : Fin 32)].state = .off ∧ s.detectors[(1 : Fin 32)].state = .quiet ∧
      s.sensorMap[(2 : Fin 32)] = none ∧ laneOf 0 = 0 ∧ laneOf 8 ≠ 0) ∧
    (podNearlyUp .idle).pulse.test = .none ∧ (waitingTest (podNearlyUp .idle)).pulse.test ≠ .none ∧
    readLaneFrame .pod (sample5 0).bytes = some (.sample (sample5 0)) :=
  ⟨by decide +kernel, rfl, by decide +kernel, by
    show (readSampleFrame (sample5 0).bytes).map LaneFrame.sample = _
    rw [test_reads_sample_frame]
    rfl⟩

theorem test_gauge_frame :
    (after (.gaugeFrame 3 gauge5) (withLane 3 .up idle)).tracker.pressure = some 600 := by decide +kernel

theorem test_reach_GaugeFrameDelivered :
    let s := withLane 3 .up idle
    s.running = true ∧ s.lanes[(3 : Fin 4)].state = .up ∧ s.lanes[(3 : Fin 4)].role = .gauge ∧
      readGaugeFrame gauge5 = some { seq := 5, pressure := 600 } ∧ s.lanes[(3 : Fin 4)].expSeq = some 5 := by
  decide +kernel

/-- The GAUGE lane UP, the eight newest samples of the history alike. -/
def steadyAt (p : Nat) (x : Phase) (n : Nat) : State :=
  let s := withLane 3 .up idle
  s.setTracker { s.tracker with phase := x, steady := n, pressure := some p, history := List.replicate 8 p }

/-- The slope to the sample that lies the slope window back, at each threshold; the steady count at its bound. -/
theorem test_phase_decided :
    (after (.gaugeFrame 3 gauge5) (steadyAt 605 .ramp 3)).tracker.phase = .fall ∧
    (after (.gaugeFrame 3 gauge5) (steadyAt 604 .ramp 3)).tracker.steady = 4 ∧
    (after (.gaugeFrame 3 gauge5) (steadyAt 595 .hold 3)).tracker.phase = .ramp ∧
    (after (.gaugeFrame 3 gauge5) (steadyAt 600 .ramp 19)).tracker.phase = .hold ∧
    (after (.gaugeFrame 3 gauge5) (steadyAt 600 .ramp 18)).tracker.phase = .ramp := by decide +kernel

/-- A follow channel takes the map's bank; an entry into HOLD in RUN, and no other, zeroes a hold count. -/
theorem test_phase_effects :
    (let s := (steadyAt 600 .hold 0).setPhaseMap #v[0, 1, 2, 3, 0, 1]
     (phaseEffects .ramp .hold (s.setChannel 0 { s.channels[0] with follow := true })).channels[(0 : Fin 32)].pending) = 2 ∧
    (let s := steadyAt 600 .hold 0
     let u := s.setCell 5 { s.cells.cells[(5 : Fin 1024)] with holdCount := 9 }
     ((phaseEffects .ramp .hold (inState .run u)).cells.cells[(5 : Fin 1024)].holdCount,
       (phaseEffects .ramp .hold u).cells.cells[(5 : Fin 1024)].holdCount,
       (phaseEffects .ramp .fall (inState .run u)).cells.cells[(5 : Fin 1024)].holdCount)) = (0, 9, 9) ∧
    (gaugeGone (steadyAt 600 .hold 0)).link.own.length = 1 := by decide +kernel

/-- A history shorter than the slope window, and one as long. -/
theorem test_reach_GaugeFrameDelivered_slope :
    (withLane 3 .up idle).tracker.history.length < (withLane 3 .up idle).tracker.params.slopeWindow ∧
    (let s := steadyAt 600 .ramp 3
     s.running = true ∧ s.lanes[(3 : Fin 4)].state = .up ∧ s.lanes[(3 : Fin 4)].role = .gauge ∧
       s.lanes[(3 : Fin 4)].expSeq = some 5 ∧ s.tracker.history[8 - s.tracker.params.slopeWindow]? = some 600) := by
  decide +kernel

/-- LP0 UP, channel 0 mapped with its detector live, channel 1 mapped with its detector OFF. -/
def podReady : State := withDetector 0 .quiet (mapped 1 1 (mapped 0 0 (onTick 100 (withLane 0 .up idle))))

/-- The samples of a slot reach a live detector as a feed, and an OFF one passes them over. -/
theorem test_samples_delivered :
    ((deliverSamples 0 100 [1, 2] false podReady).detectors[(0 : Fin 32)].feed).isSome = true ∧
    (deliverSamples 1 100 [1, 2] false podReady).detectors[(1 : Fin 32)].horizon = some 115 := by decide +kernel

theorem test_reach_SampleFrameDelivered :
    (podReady.running = true ∧ podReady.lanes[(0 : Fin 4)].state = .up ∧ podReady.lanes[(0 : Fin 4)].role = .pod ∧
      readSampleFrame (sample5 0).bytes = some (sample5 0) ∧
      podReady.lanes[(0 : Fin 4)].expSeq = some (sample5 0).seq) ∧
    (podReady.pulse.test = .none ∧ ∀ j : Fin 8, podReady.detectors[channelOf 0 j].feed = none) ∧
    ((podReady.sensorMap[channelOf 0 1]).isSome = true ∧ podReady.detectors[channelOf 0 1].state = .off) ∧
    ((podReady.sensorMap[channelOf 0 0]).isSome = true ∧ podReady.detectors[channelOf 0 0].state ≠ .off ∧
      (slotSamples (podReady.timebase.counter - BitVec.ofNat 48 podReady.lanes[(0 : Fin 4)].latency)
        ((sample5 0).slot 0) ((sample5 0).mark 0)).filter
          (FeedSample.unheard podReady.detectors[channelOf 0 0].horizon) ≠ []) :=
  ⟨⟨by decide +kernel, by decide +kernel, by decide +kernel, test_reads_sample_frame 0, by decide +kernel⟩,
   by decide +kernel, by decide +kernel, by decide +kernel⟩

/-- The ring writer takes lines in RUN and TAILING with the port READY. -/
theorem test_reach_SampleFrameDelivered_ring :
    ∀ r ∈ [RunState.run, .tailing],
      (inState r podReady).run.state = r ∧ (inState r podReady).capture.port = .ready ∧
      (inState r podReady).running = true ∧ (inState r podReady).lanes[(0 : Fin 4)].state = .up ∧
      (inState r podReady).pulse.test = .none ∧ (inState r podReady).sensorMap[channelOf 0 2] = none ∧
      ∀ j : Fin 8, (inState r podReady).detectors[channelOf 0 j].feed = none := by decide +kernel

/-- The GAUGE lane UP with consecutive failures. -/
def failing (n : Nat) : State :=
  let s := withLane 3 .up idle
  s.setLane 3 { s.lanes[3] with failures := n }

theorem test_third_failure :
    (after (.gaugeFrame 3 []) (failing 1)).lanes[3].state = .up ∧
    (after (.gaugeFrame 3 []) (failing 2)).lanes[3].state = .aligning := by decide +kernel

/-- A frame behind by the smallest distance, and frames ahead by 1 and by 127. -/
theorem test_reach_BrokenStretchCounted :
    ((failing 2).running = true ∧ (failing 2).lanes[(3 : Fin 4)].state = .up ∧
      readLaneFrame (failing 2).lanes[(3 : Fin 4)].role [] = none) ∧
    ((failing 0).running = true ∧ (failing 0).lanes[(3 : Fin 4)].state = .up ∧
      readLaneFrame (failing 0).lanes[(3 : Fin 4)].role (GaugeFrame.bytes { seq := 133, pressure := 0 })
        = some (.gauge { seq := 133, pressure := 0 }) ∧
      ((133#8 : Byte) - (failing 0).lanes[(3 : Fin 4)].expSeq.getD 133).toNat = 128) ∧
    (readLaneFrame (failing 0).lanes[(3 : Fin 4)].role (GaugeFrame.bytes { seq := 6, pressure := 0 })
        = some (.gauge { seq := 6, pressure := 0 }) ∧
      (failing 0).lanes[(3 : Fin 4)].expSeq = some 5 ∧ ((6#8 : Byte) - 5).toNat = 1) ∧
    (readLaneFrame (failing 0).lanes[(3 : Fin 4)].role (GaugeFrame.bytes { seq := 132, pressure := 0 })
        = some (.gauge { seq := 132, pressure := 0 }) ∧ ((132#8 : Byte) - 5).toNat = 127) := by decide +kernel

/-- LP0 UP after `n` failures in a row, expecting sequence `q`. -/
def podFailing (n : Nat) (q : Byte) : State :=
  podReady.setLane 0 { podReady.lanes[0] with failures := n, expSeq := some q }

/-- An open hit. -/
def someOpen : OpenHit :=
  { arrival := 90, peak := 32767, peakTick := 90, crossings := 1, energy := 0, lastAbove := 90, prevAbove := true,
    sat := false, sensor := 0, bank := 0, phase := .nogauge, pressure := none, capture := .nothing }

/-- A POD lane at its first, second and third failure; a frame of it ahead by 1, and one in order; the GAUGE lane at each; a
channel that is unmapped, and mapped ones whose detector is OPEN and is not. -/
theorem test_reach_BrokenStretchCounted_pod :
    (∀ n ∈ [0, 1, 2],
      let s := podFailing n 4
      s.running = true ∧ s.lanes[(0 : Fin 4)].state = .up ∧ s.lanes[(0 : Fin 4)].role = .pod ∧
      readLaneFrame .pod [] = none ∧ s.lanes[(0 : Fin 4)].failures = n ∧ s.lanes[(0 : Fin 4)].expTick = some 116 ∧
      s.lanes[(0 : Fin 4)].expSeq = some 4 ∧ (∀ j : Fin 8, s.detectors[channelOf 0 j].feed = none) ∧
      (failing n).lanes[(3 : Fin 4)].failures = n ∧ (failing n).lanes[(3 : Fin 4)].role = .gauge) ∧
    ((sample5 0).seq - 4).toNat = 1 ∧ (podFailing 0 5).lanes[(0 : Fin 4)].expSeq = some (sample5 0).seq ∧
    (failing 0).lanes[(3 : Fin 4)].expSeq = some 5 ∧
    (podReady.sensorMap[(2 : Fin 32)] = none ∧ podReady.sensorMap[(0 : Fin 32)] ≠ none ∧
      podReady.detectors[(0 : Fin 32)].state = .quiet ∧
      (withDetector 0 (.opened someOpen) podReady).detectors[(0 : Fin 32)].state = .opened someOpen) := by decide +kernel

/-! ## Detectors, groups and cells -/

/-- A detector in QUIET with one sample to take; the threshold is 32767. -/
def quietWith (v : Sample) : State := fed 0 [sampleAt 100 v] (withDetector 0 .quiet (mapped 0 0 idle))

theorem test_sample_opens_hit :
    ((after (.sampleProcessed 0) (quietWith 32767#16)).detectors[0].state.mayswitch = false) ∧
    ((after (.sampleProcessed 0) (quietWith 32766#16)).detectors[0].state = .quiet) := by decide +kernel

theorem test_reach_SampleOpensHit :
    (let s := quietWith 32766#16
     s.running = true ∧ s.detectors[(0 : Fin 32)].state = .quiet ∧
     s.detectors[(0 : Fin 32)].feed = some { stamp := 100, samples := [sampleAt 100 32766#16] } ∧
     s.sensorMap[(0 : Fin 32)] = some 0 ∧ s.pulse.test = .none ∧
     magnitude 32766#16 < (s.activeBank 0).threshold) ∧
    (let s := quietWith 32767#16
     s.running = true ∧ s.detectors[(0 : Fin 32)].state = .quiet ∧
     s.detectors[(0 : Fin 32)].feed = some { stamp := 100, samples := [sampleAt 100 32767#16] } ∧
     s.sensorMap[(0 : Fin 32)] = some 0 ∧ s.pulse.test = .none ∧
     (s.activeBank 0).threshold ≤ magnitude 32767#16) := by decide +kernel

/-- The part in RUN with capture mode ON at channel 0, whose ring next takes the line of tick `t`, and a sample that opens a hit. -/
def opening (t : Option Nat) (post : Nat) : State :=
  let s := inState .run (quietWith 32767#16)
  let u := s.setChannel 0 { s.channels[0] with postLines := post, captureOn := true }
  u.setCapture { u.capture with rings := put u.capture.rings 0 { u.capture.rings[0] with ringTick := t.map (BitVec.ofNat 48) } }

/-- A FILLING segment of channel 0. -/
def filling : Segment :=
  { stage := .filling, channel := 0, sensor := 0, arrival := 90, trigger := 0, pre := 0, post := 4, written := 1,
    nextPos := 0, lost := [], lostReported := 0, damaged := false }

/-- The part with every descriptor reserved for channel 1. -/
def reserved (s : State) : State :=
  s.setCapture { s.capture with segments := Vector.replicate 64 (some { filling with channel := 1 }) }

/-- The lowest FREE descriptor is reserved; a line placed already is its trigger; a place ahead; no descriptor; shared. -/
theorem test_hit_reserves_segment :
    ((after (.sampleProcessed 0) ((reserved (opening none 1)).setSegment 5 none)).capture.segments[(5 : Fin 64)]).isSome = true ∧
    (((after (.sampleProcessed 0) (opening (some 116) 1)).capture.segments[(0 : Fin 64)]).map (fun g => g.trigger))
      = some 255 ∧
    (((after (.sampleProcessed 0) (opening (some 84) 1)).capture.segments[(0 : Fin 64)]).map (fun g => g.trigger))
      = some 1 ∧
    (after (.sampleProcessed 0) ((opening none 1).setSegment 9 (some filling))).capture.segments[(0 : Fin 64)] = none := by
  decide +kernel

theorem test_reach_SampleOpensHit_capture :
    (∀ t ∈ [none, some 116, some 100, some 84, some 99],
      let s := opening t 0
      s.running = true ∧ s.detectors[(0 : Fin 32)].state = .quiet ∧ s.sensorMap[(0 : Fin 32)] = some 0 ∧
      s.pulse.test = .none ∧ s.channels[(0 : Fin 32)].captureOn = true ∧ s.run.state = .run ∧
      s.capture.port = .ready ∧ s.capture.rings[(0 : Fin 32)].ringTick = t.map (BitVec.ofNat 48) ∧
      s.capture.segments = Vector.replicate 64 none) ∧
    ((opening none 0).activeBank 0).threshold ≤ magnitude 32767#16 := by decide +kernel

/-- A FILLING segment of the channel and no other; no FREE descriptor; descriptor 0 the only FREE one; the port FAILED. -/
theorem test_reach_SampleOpensHit_descriptors :
    ((opening none 1).setSegment 9 (some filling)).capture.segments
      = put (Vector.replicate 64 none) 9 (some filling) ∧ filling.channel = 0 ∧ filling.stage = .filling ∧
    (reserved (opening none 1)).capture.segments = Vector.replicate 64 (some { filling with channel := 1 }) ∧
    ((reserved (opening none 1)).setSegment 0 none).capture.segments[(0 : Fin 64)] = none ∧
    (let s := opening none 1
     (s.setCapture { s.capture with port := .failed }).capture.port = .failed) := by decide +kernel

/-- An open hit that arrived at tick 100. -/
def openHit : OpenHit :=
  { arrival := 100, peak := 32766, peakTick := 100, crossings := 1, energy := 0, lastAbove := 100, prevAbove := true,
    sat := false, sensor := 0, bank := 0, phase := .nogauge, pressure := none, capture := .nothing }

/-- The part with that hit open and one sample to take. -/
def openWith (t : Tick) (v : Sample) : State :=
  fed 0 [sampleAt t v] (withDetector 0 (.opened openHit) (mapped 0 0 idle))

theorem test_sample_measured :
    (after (.sampleProcessed 0) (openWith 101 0x8000#16)).detectors[0].state
      = .opened { openHit with energy := 4194304, lastAbove := 101, peak := 32767, peakTick := 101 } := by
  decide +kernel

/-- A sample above the threshold, and the last one below it before the quiet span of 1000 ends the hit. -/
theorem test_reach_SampleMeasured :
    (let s := openWith 101 0x8000#16
     let b := s.channels[(0 : Fin 32)].banks[openHit.bank]
     s.running = true ∧ s.detectors[(0 : Fin 32)].state = .opened openHit ∧
     s.detectors[(0 : Fin 32)].feed = some { stamp := 100, samples := [sampleAt 101 0x8000#16] } ∧
     s.pulse.test = .none ∧ b.threshold ≤ magnitude 0x8000#16 ∧ 1 ≤ b.quietSpan ∧
     ticksFrom openHit.arrival 101 + 1 < b.durationLimit) ∧
    (let s := openWith 1099 0
     let b := s.channels[(0 : Fin 32)].banks[openHit.bank]
     s.running = true ∧ s.detectors[(0 : Fin 32)].state = .opened openHit ∧
     s.detectors[(0 : Fin 32)].feed = some { stamp := 100, samples := [sampleAt 1099 0] } ∧
     s.pulse.test = .none ∧ ¬ b.threshold ≤ magnitude 0 ∧ ticksFrom openHit.lastAbove 1099 < b.quietSpan ∧
     ticksFrom openHit.arrival 1099 + 1 < b.durationLimit) := by decide +kernel

/-- The hit that a lane's departure closes is grouped, and its group closes once no detector is live. -/
theorem test_departure_closes_hit :
    ((podLost 0 (inState .run (openWith 101 0))).link.own.map (fun r => match r with
      | .hit h => some (h.cause, h.duration)
      | _ => none)) = [none, some (.lost, 1)] ∧
    (podLost 0 (inState .idle (openWith 101 0))).link.own = [] ∧
    (detectorOff presentQuietly .halt 0 (inState .run (openWith 101 0))).grouping.groups.length = 1 := by decide +kernel

/-- The hit closed by a missing stretch, and the horizon after it. -/
theorem test_stretch_closes_hit :
    (stretchChannel 1 132 0 (inState .run (openWith 101 0))).detectors[(0 : Fin 32)].state = .quiet ∧
    (stretchChannel 1 132 0 (inState .run (openWith 101 0))).detectors[(0 : Fin 32)].horizon = some 131 ∧
    (stretchChannel 1 132 0 (inState .run (openWith 101 0))).link.own.length = 2 := by decide +kernel

/-- A detector in each state; no test, a test that waits with its source on LP0; a FILLING segment alone, and one whose lines are
all lost; no FILLING segment. -/
theorem test_reach_DeparturesCloseHits :
    (idle.detectors[(0 : Fin 32)].state = .off ∧ podReady.detectors[(0 : Fin 32)].state = .quiet ∧
      (withDetector 0 (.rearm 150) idle).detectors[(0 : Fin 32)].state = .rearm 150 ∧
      (openWith 101 0).detectors[(0 : Fin 32)].state = .opened openHit) ∧
    (idle.pulse.test = .none ∧ (waitingTest idle).pulse.test ≠ .none) ∧
    (∀ g ∈ [filling, { filling with lost := [0] }],
      let s := idle.setSegment 9 (some g)
      s.capture.segments[(9 : Fin 64)] = some g ∧ g.channel = 0 ∧ g.stage = .filling ∧
        ∀ j : Fin 64, j ≠ 9 → s.capture.segments[j] = none) ∧
    filling.lost = [] ∧ ({ filling with lost := [0] } : Segment).unread = [] ∧ filling.unread ≠ [] ∧
    idle.capture.segments = Vector.replicate 64 none := by decide +kernel

/-- The source lane of the test that waits is LP0. -/
theorem test_reach_DeparturesCloseHits_source :
    InFlight (waitingTest idle) testInfo none ∧ laneOf testInfo.channel = 0 ∧
    ∀ i fire, InFlight (waitingTest idle) i fire → laneOf i.channel ≠ 1 := by
  refine ⟨.inr ⟨0, rfl, rfl⟩, by decide +kernel, fun i fire h => ?_⟩
  rcases h with ⟨f, h, -⟩ | ⟨n, h, -⟩
  · cases h
  · cases h
    decide +kernel

/-- The hit ends at the first sample a quiet span after the last above the threshold, or at its duration limit; REARM waits. -/
theorem test_hit_closes :
    (after (.sampleProcessed 0) (openWith 1100 0)).detectors[0].state = .quiet ∧
    (after (.sampleProcessed 0) (openWith 1099 0)).detectors[0].state = .opened { openHit with prevAbove := false } ∧
    (after (.sampleProcessed 0) (openWith 500099 0x7FFF#16)).detectors[0].state = .quiet ∧
    (after (.sampleProcessed 0) (fed 0 [sampleAt 149 0x7FFF#16] (withDetector 0 (.rearm 150) (mapped 0 0 idle)))
      ).detectors[0].state = .rearm 150 := by decide +kernel

/-- A bank with a rearm span for channel 0. -/
def rearming (s : State) : State :=
  s.setChannel 0
    { s.channels[0] with
      banks := Vector.replicate 4
        { threshold := 100, riseWindow := 1000, quietSpan := 1000, rearmSpan := 50, durationLimit := 500000 } }

/-- The QUIET test at its bound and the LIMIT test at its bound. -/
theorem test_reach_SampleClosesHit :
    (let s := openWith 1100 0
     let b := s.channels[(0 : Fin 32)].banks[openHit.bank]
     let m := openHit.measure b (sampleAt 1100 0)
     s.running = true ∧ s.detectors[(0 : Fin 32)].state = .opened openHit ∧
     s.detectors[(0 : Fin 32)].feed = some { stamp := 100, samples := [sampleAt 1100 0] } ∧ b.rearmSpan = 0 ∧
     s.pulse.test = .none ∧ m.sat = false ∧ s.tracker.armed = false ∧ b.quietSpan ≤ ticksFrom m.lastAbove 1100) ∧
    (let s := openWith 500099 0x7FFF#16
     let b := s.channels[(0 : Fin 32)].banks[openHit.bank]
     let m := openHit.measure b (sampleAt 500099 0x7FFF#16)
     s.running = true ∧ s.detectors[(0 : Fin 32)].state = .opened openHit ∧
     s.detectors[(0 : Fin 32)].feed = some { stamp := 100, samples := [sampleAt 500099 0x7FFF#16] } ∧
     ¬ b.quietSpan ≤ ticksFrom m.lastAbove 500099 ∧ b.durationLimit ≤ ticksFrom openHit.arrival 500099 + 1) := by
  decide +kernel

/-- A span to rearm; then a sample at the rearm end, and one just before it. -/
theorem test_reach_SampleClosesHit_rearm :
    ((rearming (openWith 1100 0)).channels[(0 : Fin 32)].banks[openHit.bank]).rearmSpan = 50 ∧
    (∀ n ∈ [150, 149],
      let t : Tick := BitVec.ofNat 48 n
      let s := fed 0 [sampleAt t 0x7FFF#16] (withDetector 0 (.rearm 150) (rearming (mapped 0 0 idle)))
      s.running = true ∧ s.detectors[(0 : Fin 32)].state = .rearm 150 ∧ s.sensorMap[(0 : Fin 32)] = some 0 ∧
      s.detectors[(0 : Fin 32)].feed = some { stamp := 100, samples := [sampleAt t 0x7FFF#16] } ∧
      s.pulse.test = .none) ∧
    atOrAfter (150 : Tick) 150 = true ∧ atOrAfter (149 : Tick) 150 = false ∧ 100 ≤ magnitude 0x7FFF#16 ∧
    magnitude 99#16 < 100 := by decide +kernel

/-- A hit record of sensor `n` arriving at `t`. -/
def hitAt (n : Fin 32) (t : Tick) : HitRecord :=
  { part := 0, channel := n, sensor := n, arrival := t, rise := 0, duration := 1, crossings := 1, peak := 40000,
    energy := 10, pressure := none, phase := .hold, bank := 0, cause := .quiet, sat := false, test := false,
    nocap := false, shared := false, segment := none, group := none }

/-- A group of two hits, its hold deadline at 50200. -/
def pairGroup : Group :=
  { number := 1, anchor := 100, latest := 130, members := [hitAt 1 100, hitAt 2 130], deadline := 50200,
    behind := false }

/-- The part in RUN with eight groups open; the first is of sensor 0 at tick 0, the next 3000 ticks later, and so on. -/
def eightGroups : State :=
  let s := inState .run idle
  s.setGrouping
    { s.grouping with
      counter := 8,
      groups := (List.range 8).map (fun i =>
        { number := BitVec.ofNat 32 i, anchor := BitVec.ofNat 48 (3000 * i), latest := BitVec.ofNat 48 (3000 * i),
          members := [hitAt 0 (BitVec.ofNat 48 (3000 * i))], deadline := BitVec.ofNat 48 (3000 * i + 52500),
          behind := false }) }

/-- A hit joins the first group whose span stays below the window, opens a ninth group, or moves a group's anchor. -/
theorem test_hits_group :
    ((placeHit (hitAt 1 2499) eightGroups).grouping.groups.map (fun g => g.members.length)) = [2, 1, 1, 1, 1, 1, 1, 1] ∧
    ((placeHit (hitAt 0 2499) eightGroups).grouping.groups.map (fun g => g.number)) = [8, 1, 2, 3, 4, 5, 6, 7] ∧
    ((placeHit (hitAt 1 2500) eightGroups).grouping.groups.map (fun g => g.anchor.toNat))
      = [0, 2500, 6000, 9000, 12000, 15000, 18000, 21000] := by decide +kernel

/-- A candidate whose anchor stays, at the last tick of its window; one whose anchor moves; none in an empty list; none with
eight groups open. -/
theorem test_reach_HitsGrouped :
    (eightGroups.grouping.groups.map (fun g => g.number)).Nodup ∧ eightGroups.grouping.groups.length = 8 ∧
    (firstCandidate eightGroups.grouping (hitAt 1 2499)).map (fun g => g.anchor) = some 0 ∧
    earlier (2499 : Tick) 0 = false ∧
    (firstCandidate eightGroups.grouping (hitAt 1 2500)).map (fun g => g.anchor) = some 3000 ∧
    earlier (2500 : Tick) 3000 = true ∧
    firstCandidate eightGroups.grouping (hitAt 0 2499) = none ∧ firstCandidate idle.grouping (hitAt 0 2499) = none ∧
    idle.grouping.groups.length = 0 ∧ (hitAt 1 2499).sat = false := by decide +kernel

/-- The GAUGE lane UP in RUN, burst armed in a phase, the newest delivered sample `p`. -/
def watching (x : Phase) (p : Nat) : State :=
  let s := inState .run (withLane 3 .up idle)
  s.setTracker { s.tracker with armed := true, phase := x, pressure := some p, pmax := p, history := [p] }

/-- A fall of the drop limit declares, one of less does not. -/
theorem test_pressure_declares :
    (after (.gaugeFrame 3 gauge5) (watching .hold 1600)).run.cause = some .pressure ∧
    (after (.gaugeFrame 3 gauge5) (watching .hold 1599)).run.cause = none ∧
    (after (.gaugeFrame 3 gauge5) (watching .fall 1600)).run.cause = none := by decide +kernel

/-- The part in RUN and NOGAUGE, burst armed, two saturated sensors of the two asked for (or of the three) within 2500 ticks. -/
def saturating (count : Nat) : State :=
  let s := inState .run idle
  s.setTracker
    { s.tracker with
      armed := true, satList := put s.tracker.satList 1 (some 2601),
      params := { s.tracker.params with satCount := count } }

def satHit (n : Fin 32) (t : Tick) : HitRecord := { hitAt n t with sat := true }

theorem test_saturation_declares :
    (present (satHit 2 5100) (saturating 2)).run.cause = some .saturation ∧
    (present (satHit 2 5101) (saturating 2)).run.cause = none ∧
    (present (satHit 2 5100) (saturating 3)).run.cause = none := by decide +kernel

theorem test_reach_TrackerDeclares :
    (∀ p ∈ [1600, 1599],
      let s := watching .hold p
      s.running = true ∧ s.lanes[(3 : Fin 4)].state = .up ∧ s.lanes[(3 : Fin 4)].role = .gauge ∧
      readGaugeFrame gauge5 = some { seq := 5, pressure := 600 } ∧ s.lanes[(3 : Fin 4)].expSeq = some 5 ∧
      s.run.state = .run ∧ s.tracker.armed = true ∧ s.tracker.phase = .hold ∧ s.tracker.history = [p] ∧
      (600 + s.tracker.params.dropLimit ≤ p ↔ p = 1600)) ∧
    (let s := saturating 2
     s.run.state = .run ∧ s.tracker.armed = true ∧ s.tracker.phase = .nogauge ∧
     (hitAt 2 5100).sat = false ∧ (satHit 2 5100).sat = true ∧
     (s.tracker.satList[(1 : Fin 32)]).any (fun e => earlier (2600 : Tick) e) = true ∧
     put s.tracker.satList 2 (some 5100) ≠ s.tracker.satList ∧
     (List.finRange 32).countP (fun n : Fin 32 => ((put s.tracker.satList 2 (some 5100))[n]).any
       (fun e => decide ((5100 - e).toNat < s.tracker.params.satWindow))) = 2 ∧
     (List.finRange 32).countP (fun n : Fin 32 => ((put s.tracker.satList 2 (some 5101))[n]).any
       (fun e => decide ((5101 - e).toNat < s.tracker.params.satWindow))) = 1) := by decide +kernel

/-- The BURST notice follows the PHASE notice of the sample; that of the saturation fallback has no pressure. -/
theorem test_burst_notices :
    ((after (.gaugeFrame 3 gauge5) (watching .ramp 1600)).link.own.map (fun r => match r with
      | .notice n => (match n.body with
        | .burst c _ p m => some (c, p, m)
        | _ => none)
      | _ => none)) = [some (.pressure, some 600, 1600)] ∧
    ((present (satHit 2 5100) (saturating 2)).link.own) = [burstNotice (saturating 2) .saturation none 0] := by
  decide +kernel

/-- The own record queue has room for the notices. -/
theorem test_reach_TrackerDeclares_notices :
    ((watching .hold 1600).run.bypass = false ∧ (watching .hold 1600).link.fill + 4 ≤ 4096) ∧
    ((saturating 2).run.bypass = false ∧ (placeHit (satHit 2 5100) (saturating 2)).link.fill + 2 ≤ 4096) := by
  decide +kernel

/-- The part in RUN with that group open. -/
def grouped (t : Nat) : State :=
  let s := onTick t (inState .run idle)
  s.setGrouping { s.grouping with groups := [pairGroup] }

theorem test_hold_timer :
    (after (.holdTimerExpiry 1) (grouped 50200)).grouping.groups = [] ∧
    (after (.holdTimerExpiry 1) (grouped 50199)).grouping.groups = [pairGroup] := by decide +kernel

/-- The part with that group open, and a live detector of sensor 3 heard to tick `h`. -/
def groupHeard (t h : Nat) (x : DetState) : State :=
  let s := mapped 3 3 (grouped t)
  s.setDetector 3 { s.detectors[(3 : Fin 32)] with state := x, horizon := some (BitVec.ofNat 48 h) }

/-- The window is heard to its end, or not; an open hit joins at its last tick, and does not at the next. -/
theorem test_close_condition :
    closeCondition (groupHeard 0 2599 .quiet) pairGroup = true ∧ closeCondition (groupHeard 0 2598 .quiet) pairGroup = false ∧
    closeCondition (groupHeard 0 2599 (.opened { openHit with arrival := 2599, sensor := 3 })) pairGroup = false ∧
    closeCondition (groupHeard 0 2599 (.opened { openHit with arrival := 2600, sensor := 3 })) pairGroup = true := by
  decide +kernel

/-- A group that is not heard to the end closes at its deadline, with LATE, and its hits follow its event. -/
theorem test_close_late :
    ((after (.holdTimerExpiry 1) (groupHeard 50200 2598 .quiet)).link.own.map (fun r => match r with
      | .event e => [e.late, e.crowded]
      | .hit h => [h.group.isSome]
      | _ => [])) = [[true, false], [true], [true]] := by decide +kernel

/-- A group that closes normally, with LATE, or not; two members; numbers that differ. -/
theorem test_reach_HoldTimerClosesGroup :
    ((grouped 50200).running = true ∧ pairGroup ∈ (grouped 50200).grouping.groups ∧ pairGroup.number = 1 ∧
      atOrAfter (grouped 50200).timebase.counter pairGroup.deadline = true) ∧
    (let s := groupHeard 50200 2598 .quiet
     closeCondition s pairGroup = false ∧ atOrAfter s.timebase.counter pairGroup.deadline = true ∧
       (s.grouping.groups.map (fun g => g.number)).Nodup) ∧
    (let s := groupHeard 50199 2598 .quiet
     closeCondition s pairGroup = false ∧ atOrAfter s.timebase.counter pairGroup.deadline = false) ∧
    pairGroup.members = [hitAt 1 100, hitAt 2 130] := by decide +kernel

/-- An event in cell 5 with phase at anchor HOLD. -/
def event5 : EventRecord :=
  { part := 0, group := 1, anchor := 100, members := [], energy := 20, method := .pair, cell := some 5,
    pressure := none, phase := .hold, crowded := false, late := false, halted := false, behind := false,
    afterburst := false, splitvote := false }

theorem test_event_accounted :
    ((accountEvent event5 (inState .run idle)).cells.cells[(5 : Fin 1024)]).holdCount = 1 ∧
    ((accountEvent event5 idle).cells.cells[(5 : Fin 1024)]).events = 0 := by decide +kernel

/-- The part in RUN, cell 5 with two HOLD events, its class with a HOLD limit and a watch rate. -/
def limited (hold watch : Nat) : State :=
  let s := inState .run (idle.setCell 5 { idle.cells.cells[(5 : Fin 1024)] with holdCount := 2, events := 2 })
  s.setCells
    { s.cells with
      classes := put s.cells.classes 0 { watchRate := watch, holdLimit := hold, reloadLimit := 0, energyLimit := 0 } }

theorem test_alarm_evaluated :
    ((accountEvent event5 (limited 3 1)).cells.cells[(5 : Fin 1024)]).alarm = .alarm .hold ∧
    ((accountEvent event5 (limited 4 1)).cells.cells[(5 : Fin 1024)]).alarm = .watch ∧
    ((accountEvent event5 (limited 4 2)).cells.cells[(5 : Fin 1024)]).alarm = .quiet := by decide +kernel

/-- The HOLD limit reached and just not, the watch rate reached and just not: a change offers a notice, no change offers none. -/
theorem test_reach_EventAccounted :
    idle.run.state ≠ .run ∧ { event5 with halted := true }.halted = true ∧ { event5 with cell := none }.cell = none ∧
    (event5.cell = some 5 ∧ (inState .run idle).run.state = .run ∧ event5.halted = false) ∧
    (∀ p ∈ [(3, 1, true), (4, 1, true), (4, 2, false)],
      let s := limited p.1 p.2.1
      s.run.state = .run ∧ s.run.bypass = false ∧ s.link.fill + 2 ≤ 4096 ∧
      (decide (((accountEvent event5 s).cells.cells[(5 : Fin 1024)]).alarm ≠ (s.cells.cells[(5 : Fin 1024)]).alarm))
        = p.2.2) := by decide +kernel

/-- An entry for sensors 1 and 2: two bins of 30 ticks, the first NONE, the second cell 5. -/
def entry12 : PairEntry := { first := 1, second := 2, binWidth := 30, binCount := 2, cells := [none, some 5] }

/-- The part with that entry in slot 0. -/
def tabled : State := idle.setPairs (put idle.pairs 0 (some entry12))

theorem tabled_pairs (i : Fin 512) (x : PairEntry) (h : tabled.pairs[i] = some x) : i = 0 ∧ x = entry12 := by
  have h' : (put idle.pairs 0 (some entry12))[i.val] = some x := h
  rw [put_get] at h'
  split at h'
  · rename_i hi
    exact ⟨hi, (Option.some.inj h').symm⟩
  · simp [idle, State.reset, State.setPower] at h'

theorem tabled_lawful : TablesLawful tabled where
  oneGauge := by decide +kernel
  sensors := fun c d n h _ => by
    have : (idle.sensorMap[c]) = some n := h
    simp [idle, State.reset, State.setPower] at this
  keys := fun i j x y hx hy _ _ => by
    rw [(tabled_pairs i x hx).1, (tabled_pairs j y hy).1]

theorem test_pair_lookup :
    (locate tabled pairGroup).method = .pair ∧ (locate tabled pairGroup).cell = some 5 ∧
    (locate tabled { pairGroup with members := [hitAt 1 100, hitAt 2 129] }).method = .none := by decide +kernel

theorem test_reach_PairLookupFindsCell :
    TablesLawful tabled ∧
    (pairGroup.members = hitAt 1 100 :: hitAt 2 130 :: [] ∧ tabled.grouping.minMembers ≤ pairGroup.members.length) ∧
    (locate tabled { pairGroup with members := [hitAt 1 100, hitAt 2 129] }).method ≠ .pair :=
  ⟨tabled_lawful, by decide +kernel, by decide +kernel⟩

/-- An entry for sensors 1 and 3, whose second bin holds another cell. -/
def entry13 : PairEntry := { entry12 with second := 3, cells := [none, some 6] }

/-- The part with both entries. -/
def voting : State := idle.setPairs (put (put idle.pairs 0 (some entry12)) 1 (some entry13))

theorem voting_pairs (i : Fin 512) (x : PairEntry) (h : voting.pairs[i] = some x) :
    (i = 0 ∧ x = entry12) ∨ (i = 1 ∧ x = entry13) := by
  have h' : (put (put idle.pairs 0 (some entry12)) 1 (some entry13))[i.val] = some x := h
  rw [put_get, put_get] at h'
  split at h'
  · rename_i hi
    exact .inr ⟨hi, (Option.some.inj h').symm⟩
  · split at h'
    · rename_i hi
      exact .inl ⟨hi, (Option.some.inj h').symm⟩
    · simp [idle, State.reset, State.setPower] at h'

theorem voting_lawful : TablesLawful voting where
  oneGauge := by decide +kernel
  sensors := fun c d n h _ => by
    have : (idle.sensorMap[c]) = some n := h
    simp [idle, State.reset, State.setPower] at this
  keys := fun i j x y hx hy _ hs => by
    rcases voting_pairs i x hx with ⟨rfl, rfl⟩ | ⟨rfl, rfl⟩ <;> rcases voting_pairs j y hy with ⟨rfl, rfl⟩ | ⟨rfl, rfl⟩
    · rfl
    · exact absurd hs (by decide)
    · exact absurd hs (by decide)
    · rfl

/-- A third arrival in a bin that gives another cell, and in one that gives none. -/
theorem test_third_arrival :
    locate voting { pairGroup with members := [hitAt 1 100, hitAt 2 130, hitAt 3 130] }
      = { method := .pair, cell := some 5, splitvote := true } ∧
    (locate voting { pairGroup with members := [hitAt 1 100, hitAt 2 130, hitAt 3 129] }).splitvote = false := by
  decide +kernel

/-- Three members of a lawful table; a group of fewer than M. -/
theorem test_reach_PairLookupFindsCell_members :
    TablesLawful voting ∧
    (let g : Group := { pairGroup with members := [hitAt 1 100, hitAt 2 130, hitAt 3 130] }
     g.members = hitAt 1 100 :: hitAt 2 130 :: [hitAt 3 130] ∧ voting.grouping.minMembers ≤ g.members.length) ∧
    ({ pairGroup with members := [hitAt 1 100] } : Group).members.length < voting.grouping.minMembers :=
  ⟨voting_lawful, by decide +kernel, by decide +kernel⟩

/-! ## Timers -/

/-- The part in RUN with a slot boundary at tick 5000. -/
def bounded (t : Nat) : State :=
  let s := onTick t (inState .run idle)
  s.setCells { s.cells with boundary := some 5000 }

/-- Before the boundary nothing happens; at it, each cell's slots shift. -/
theorem test_slot_boundary :
    (after .rateSlotBoundary (bounded 4999)).cells.boundary = some 5000 ∧
    (Cell.shifted { Cell.reset with slots := #v[1, 2, 3, 4, 5, 6, 7, 8] }).slots = #v[0, 1, 2, 3, 4, 5, 6, 7] := by
  decide +kernel

theorem test_reach_SlotBoundaryShifts :
    (bounded 5000).running = true ∧ (bounded 5000).cells.boundary = some 5000 ∧
    atOrAfter (bounded 5000).timebase.counter 5000 = true := by decide +kernel

/-- The part in TAILING, the tail timer to expire at tick 900. -/
def tailing (t : Nat) : State :=
  let s := onTick t idle
  s.setRun { s.run with state := .tailing, tailExpiry := some 900, cause := some .manual, burstTick := some 100 }

theorem test_tail_end :
    (after .tailEnd (tailing 900)).run.state = .frozen ∧ (after .tailEnd (tailing 899)).run.state = .tailing := by
  decide +kernel

theorem test_reach_TailEndFreezes :
    (tailing 900).running = true ∧ (tailing 900).run.state = .tailing ∧ (tailing 900).run.tailExpiry = some 900 ∧
    atOrAfter (tailing 900).timebase.counter 900 = true := by decide +kernel

/-- The notice of the freeze is the first record made, and the dump starts when its depth is not 0. -/
theorem test_tail_end_notice :
    ((after .tailEnd ((tailing 900).setSegment 9 (some filling))).link.own.map (fun r => match r with
      | .notice n => decide (n.body = .frozen (some .manual) (some 100) 1)
      | _ => false)) = [true] ∧
    (let s := tailing 900
     (after .tailEnd (s.setCapture { s.capture with dumpDepth := 4 })).capture.dump)
      = some { channels := [], line := 0, sent := 0, damaged := 0 } := by decide +kernel

theorem test_reach_TailEndFreezes_notice :
    (let s := tailing 900
     (∀ c : Fin 32, s.detectors[c].state = .off) ∧ s.grouping.groups = [] ∧ s.run.bypass = false ∧
       s.link.fill + 2 ≤ 4096) ∧
    (let s := (tailing 900).setCapture { (tailing 900).capture with dumpDepth := 4 }
     s.running = true ∧ s.run.state = .tailing ∧ s.run.tailExpiry = some 900 ∧ s.capture.dumpDepth ≠ 0 ∧
       s.capture.port = .ready) := by decide +kernel

/-- A trace record, three units long. -/
def someTrace : Record :=
  .trace
    { part := 0, segment := none, sensor := 0, tick := 0, offset := none, cut := 0, samples := none, gap := true,
      damaged := false, lost := false, isEnd := false, dump := true }

/-- A notice, two units long. -/
def someNotice : Record := .notice { part := 0, tick := 0, body := .dump 0 0 false }

/-- The tally timer to expire at tick 700, with `l` in the own record queue. -/
def tallying (l : List Record) : State :=
  let s := onTick 700 idle
  s.setLink { s.link with tallyExpiry := some 700, own := l }

theorem test_tally_timer :
    (after .tallyTimerExpiry (tallying [])).link.tallyExpiry = some 25000700 ∧
    (after .tallyTimerExpiry (tallying [])).link.own.length = 1 := by decide +kernel

theorem fill_notices (n : Nat) (l : List Record) :
    (tallying (l ++ List.replicate n someNotice)).link.fill = (l.map Record.units).sum + 2 * n := by
  show ((l ++ List.replicate n someNotice).map Record.units).sum = _
  rw [List.map_append, List.sum_append, List.map_replicate, List.sum_replicate]
  simp [someNotice, Record.units, Nat.mul_comm]

/-- In bypass; at a fill of 4092, where the record still fits; and at 4093, where it does not. -/
theorem test_reach_TallyExpiryReports :
    ((tallying []).running = true ∧ (tallying []).link.tallyExpiry = some 700 ∧
      atOrAfter (tallying []).timebase.counter 700 = true) ∧
    (aside (tallying [])).run.bypass = true ∧
    (let s := tallying ([] ++ List.replicate 2046 someNotice)
     s.link.fill + 4 ≤ 4096 ∧ s.run.bypass = false) ∧
    (let s := tallying ([someTrace] ++ List.replicate 2045 someNotice)
     4096 < s.link.fill + 4 ∧ s.run.bypass = false) :=
  ⟨by decide +kernel, rfl, ⟨by rw [fill_notices]; simp, rfl⟩, by rw [fill_notices]; simp [someTrace, Record.units], rfl⟩

/-! ## Orders -/

/-- The order stands at the head of the intake of a running part and is marked TAKE: the premises of a statement about it. -/
theorem served (e : IntakeEntry) (s : State) (h : (s.running && decide (s.link.answers.length < 4)) = true) :
    Serves (serve e s) e [] := by
  simp only [Bool.and_eq_true, decide_eq_true_eq] at h
  exact ⟨h.1, h.2, rfl⟩

/-- A WRITE built by `writing` names its item. -/
theorem test_write_names_item :
    WritesItem bankItem (writing bankItem 0 []) ∧ (writing bankItem 127 []).order.index = 127 := by decide +kernel

theorem test_reach_EveryOrderAnsweredOnce :
    Serves (serve (order startKind []) idle) (order startKind []) [] ∧
    Serves (serve (order restartKind []) (aside idle)) (order restartKind []) [] ∧
    rowOf (order startKind []) ≠ .restart ∧ rowOf (order restartKind []) = .restart ∧
    (let e := order readKind (be 1 rateSlotItem ++ [0#8] ++ be 2 0)
     Serves (serve e idle) e [] ∧ e.order.kind = readKind ∧ 4 ≤ e.order.args.length) := by decide +kernel

/-- An answer names the part, the item and its index as the order gave them. -/
theorem test_answer_fields :
    ((after .channelBankWrite (serve (writing bankItem 130 []) (idle.setRun { idle.run with address := 2 }))).link.answers.map
      (fun a => (a.part, a.reason, a.item.toNat, a.index))) = [(2, some .noItem, bankItem, 130)] ∧
    ((after .start (serve (order startKind [1, 0, 0, 5]) (idle.setRun { idle.run with address := 2 }))).link.answers.map
      (fun a => (a.part, a.item.toNat, a.index))) = [(2, 0, 0)] := by decide +kernel

theorem test_assign :
    (after .assign (serve (order assignKind [15]) idle)).run.address = 15 ∧
    verdict (after .assign (serve (order assignKind [16]) idle)) = some (some .range) := by decide +kernel

theorem test_sync :
    (after .sync (serve (order syncKind (be 6 1000)) (onTick 20 idle))).timebase.counter = 1020 ∧
    verdict (after .sync (serve (order syncKind (be 6 1000)) (inState .run idle))) = some (some .state) := by
  decide +kernel

theorem test_reach_AssignAndSyncSet :
    (Serves (serve (order assignKind [1]) idle) (order assignKind [1]) [] ∧ TakenAs assignKind (order assignKind [1])) ∧
    (Serves (serve (order syncKind (be 6 0)) idle) (order syncKind (be 6 0)) [] ∧
      TakenAs syncKind (order syncKind (be 6 0))) := by decide +kernel

theorem test_read :
    ((after .read (serve (order readKind (be 1 rateSlotItem ++ [0#8] ++ be 2 0)) (aside idle))).link.answers.map
      (fun a => (a.reason, number a.contents))) = [(none, 5000000)] := by decide +kernel

theorem test_write_of_nothing :
    verdict (after .write (serve (writing 99 0 []) idle)) = some (some .noItem) ∧
    verdict (after .write (serve (writing statusItem 0 []) idle)) = some (some .readonly) := by decide +kernel

theorem test_unclaimed_and_unknown :
    verdict (after .unclaimed (serve { order startKind [] with take := false } idle)) = some (some .unclaimed) ∧
    verdict (after .unknownOrder (serve (order 15 []) idle)) = some (some .range) := by decide +kernel

/-- Kinds 0 and 15 are the nearest that are no kind; item 0 and item 17 no item. -/
theorem test_reach_ReadsAnsweredOthersRefused :
    (Serves (serve (order readKind [9, 0, 0, 0]) idle) (order readKind [9, 0, 0, 0]) [] ∧
      TakenAs readKind (order readKind [9, 0, 0, 0])) ∧
    (∀ code ∈ [0, 17],
      let e := writing code 0 []
      Serves (serve e idle) e [] ∧ TakenAs writeKind e ∧ 4 ≤ e.order.args.length ∧
        noItem e.order.item e.order.index = true) ∧
    (let e := writing statusItem 0 []
     Serves (serve e idle) e [] ∧ TakenAs writeKind e ∧ 4 ≤ e.order.args.length ∧ e.order.item = 16 ∧
       e.order.index = 0) ∧
    (let e := order writeKind [1, 0, 0]
     Serves (serve e idle) e [] ∧ TakenAs writeKind e ∧ e.order.args.length < 4) ∧
    (let e : IntakeEntry := { order startKind [] with take := false }
     Serves (serve e idle) e [] ∧ e.take = false) ∧
    (let e := order 0 []
     Serves (serve e idle) e [] ∧ e.take = true ∧ e.order.kind.toNat = 0) ∧
    (let e := order 15 []
     Serves (serve e idle) e [] ∧ e.take = true ∧ 14 < e.order.kind.toNat) := by decide +kernel

/-! ### Item writes -/

/-- A bank in range; the active-bank field and the other read-only fields unchanged (all ones). -/
def bankBytes : List Byte := be 2 100 ++ be 2 1000 ++ be 2 1000 ++ be 2 0 ++ be 3 500000 ++ [255, 255, 255]

theorem test_bank_write :
    ((after .channelBankWrite (serve (writing bankItem 5 bankBytes) idle)).channels[(1 : Fin 32)].banks[(1 : Fin 4)]
      ).threshold = 100 ∧
    verdict (after .channelBankWrite (serve (writing bankItem 4 bankBytes) (inState .run idle))) = some (some .inUse) := by
  decide +kernel

theorem test_capture_write :
    (after .channelCaptureWrite (serve (writing captureItem 31 [1, 63, 64]) idle)).channels[(31 : Fin 32)].captureOn
      = true ∧
    verdict (after .channelCaptureWrite (serve (writing captureItem 31 [1, 63, 65]) idle)) = some (some .range) := by
  decide +kernel

theorem test_reach_ChannelItemsAndCaptureSetupWritten_channels :
    (let e := writing bankItem 128 bankBytes
     Serves (serve e idle) e [] ∧ WritesItem bankItem e ∧ 128 ≤ e.order.index) ∧
    (let e := writing bankItem 127 bankBytes
     Serves (serve e idle) e [] ∧ WritesItem bankItem e ∧
       e.order.index = (31 : Fin 32).val * 4 + (3 : Fin 4).val) ∧
    (let e := writing captureItem 32 [1, 0, 0]
     Serves (serve e idle) e [] ∧ WritesItem captureItem e ∧ 32 ≤ e.order.index) ∧
    (let e := writing captureItem 31 [1, 0, 0]
     Serves (serve e idle) e [] ∧ WritesItem captureItem e ∧ e.order.index = (31 : Fin 32).val) := by decide +kernel

theorem test_sensor_map_write :
    (after .sensorMapWrite (serve (writing sensorItem 2 ([5] ++ be 2 1023)) idle)).sensorMap[(2 : Fin 32)] = some 5 ∧
    verdict (after .sensorMapWrite (serve (writing sensorItem 2 ([5] ++ be 2 0)) (mapped 3 5 idle)))
      = some (some .duplicate) := by decide +kernel

/-- Index 32; bypass; RUN; a test; too short; sensor 32; cell 1024; a sensor taken; sensor 31, and NONE for both. -/
theorem test_reach_SensorAndPhaseMapsWritten_sensor :
    (let e := writing sensorItem 32 ([5] ++ be 2 0)
     Serves (serve e idle) e [] ∧ WritesItem sensorItem e ∧ 32 ≤ e.order.index) ∧
    (let e := writing sensorItem 31 ([5] ++ be 2 0)
     Serves (serve e (aside idle)) e [] ∧ WritesItem sensorItem e ∧ e.order.index = (31 : Fin 32).val ∧
       (serve e (aside idle)).run.bypass = true ∧ (serve e (inState .run idle)).run.state ≠ .idle ∧
       (serve e (waitingTest idle)).run.state = .idle ∧ (serve e (waitingTest idle)).pulse.test ≠ .none ∧
       (serve e idle).pulse.test = .none) ∧
    (writing sensorItem 31 [5, 0]).order.args.length < 7 ∧
    (let l := (writing sensorItem 31 ([32] ++ be 2 0)).order.contents
     32 ≤ fieldAt l 0 1 ∧ fieldAt l 0 1 ≠ 255) ∧
    (let l := (writing sensorItem 31 ([31] ++ be 2 1024)).order.contents
     ¬ (32 ≤ fieldAt l 0 1) ∧ 1024 ≤ fieldAt l 1 2 ∧ fieldAt l 1 2 ≠ 65535) ∧
    (let e := writing sensorItem 31 ([5] ++ be 2 1023)
     (3 : Fin 32) ≠ 31 ∧ (5 : Fin 32).val = fieldAt e.order.contents 0 1 ∧
       (serve e (mapped 3 5 idle)).sensorMap[(3 : Fin 32)] = some 5 ∧
       ∀ d : Fin 32, (serve e idle).sensorMap[d] = none) ∧
    (let l := (writing sensorItem 31 ([255] ++ be 2 65535)).order.contents
     fieldAt l 0 1 = 255 ∧ fieldAt l 1 2 = 65535) := by decide +kernel

theorem test_phase_map_write :
    (after .phaseMapWrite (serve (writing phaseMapItem 0 [0, 1, 2, 3, 0, 1]) idle)).phaseMap[(3 : Fin 6)] = 3 ∧
    verdict (after .phaseMapWrite (serve (writing phaseMapItem 0 [0, 1, 2, 4, 0, 1]) idle)) = some (some .range) := by
  decide +kernel

theorem test_reach_SensorAndPhaseMapsWritten_phase :
    (let e := writing phaseMapItem 1 [0, 0, 0, 0, 0, 0]
     Serves (serve e idle) e [] ∧ WritesItem phaseMapItem e ∧ e.order.index ≠ 0) ∧
    (let e := writing phaseMapItem 0 [0, 0, 0, 0, 0, 3]
     Serves (serve e idle) e [] ∧ WritesItem phaseMapItem e ∧ e.order.index = 0 ∧ (serve e idle).run.bypass = false ∧
       (serve e (aside idle)).run.bypass = true ∧ 10 ≤ e.order.args.length ∧
       ∀ i : Fin 6, fieldAt e.order.contents i.val 1 ≤ 3) ∧
    (writing phaseMapItem 0 [0, 0, 0, 0, 0]).order.args.length < 10 ∧
    3 < fieldAt (writing phaseMapItem 0 [0, 0, 0, 0, 0, 4]).order.contents 5 1 := by decide +kernel

theorem test_header_write :
    (after .locationHeaderWrite (serve (writing headerItem 0 (be 2 1 ++ be 3 1048575 ++ [4])) idle)).grouping.holdLimit
      = 1048575 ∧
    verdict (after .locationHeaderWrite (serve (writing headerItem 0 (be 2 0 ++ be 3 0 ++ [2])) idle))
      = some (some .range) := by decide +kernel

/-- The written contents of a pair entry. -/
def pairBytes (f n : Byte) (width count : Nat) (cell : Nat) : List Byte :=
  [f, n] ++ be 2 width ++ be 1 count ++ (List.replicate 32 (be 2 cell)).flatten

theorem test_pair_write :
    (after .pairWrite (serve (writing pairItem 511 (pairBytes 1 2 30 2 5)) idle)).pairs[(511 : Fin 512)]
      = some { first := 1, second := 2, binWidth := 30, binCount := 2, cells := [some 5, some 5] } ∧
    verdict (after .pairWrite (serve (writing pairItem 1 (pairBytes 1 2 30 2 5)) tabled)) = some (some .duplicate) := by
  decide +kernel

/-- Slot 512; bypass; RUN; too short; FREE; each bound of R98's fourth condition, from both sides; a key held by another slot. -/
theorem test_reach_PairWriteReplacesSlot :
    (let e := writing pairItem 512 (pairBytes 1 2 30 2 5)
     Serves (serve e idle) e [] ∧ WritesItem pairItem e ∧ 512 ≤ e.order.index) ∧
    (let e := writing pairItem 511 (pairBytes 1 2 30 2 5)
     Serves (serve e idle) e [] ∧ WritesItem pairItem e ∧ e.order.index = (511 : Fin 512).val ∧
       (serve e (aside idle)).run.bypass = true ∧ (serve e (inState .frozen idle)).run.state ≠ .idle) ∧
    (writing pairItem 511 [1, 2]).order.args.length < 73 ∧
    (let e := writing pairItem 511 (pairBytes 255 255 0 0 0)
     73 ≤ e.order.args.length ∧ fieldAt e.order.contents 0 1 = 255 ∧ fieldAt e.order.contents 1 1 = 255) ∧
    32 ≤ fieldAt (writing pairItem 0 (pairBytes 32 2 1 1 0)).order.contents 0 1 ∧
    fieldAt (writing pairItem 0 (pairBytes 3 3 1 1 0)).order.contents 0 1 = 3 ∧
    4096 < fieldAt (writing pairItem 0 (pairBytes 1 2 4097 1 0)).order.contents 2 2 ∧
    32 < fieldAt (writing pairItem 0 (pairBytes 1 2 1 33 0)).order.contents 4 1 ∧
    1024 ≤ fieldAt (writing pairItem 0 (pairBytes 1 2 1 1 1024)).order.contents 5 2 ∧
    (let l := (writing pairItem 0 (pairBytes 0 31 4096 32 1023)).order.contents
     fieldAt l 0 1 < 32 ∧ fieldAt l 1 1 < 32 ∧ fieldAt l 0 1 ≠ fieldAt l 1 1 ∧ 1 ≤ fieldAt l 2 2 ∧
       fieldAt l 2 2 ≤ 4096 ∧ 1 ≤ fieldAt l 4 1 ∧ fieldAt l 4 1 ≤ 32 ∧
       ∀ k : Fin 32, fieldAt l (5 + 2 * k.val) 2 < 1024) ∧
    ((0 : Fin 512) ≠ 511 ∧ tabled.pairs[(0 : Fin 512)] = some entry12) := by decide +kernel

/-- The written contents of a cell: class `k`, everything else all ones. -/
def cellBytes (k : Byte) : List Byte := k :: List.replicate 32 255

/-- The written contents of a lane: the latency, everything else all ones. -/
def laneBytes (n : Nat) : List Byte := [255, 255] ++ be 2 n ++ [255, 255, 255, 255]

theorem test_cell_write :
    ((after .cellWrite (serve (writing cellItem 1023 (cellBytes 7)) idle)).cells.cells[(1023 : Fin 1024)]).cls = 7 ∧
    verdict (after .cellWrite (serve (writing cellItem 1023 (cellBytes 8)) idle)) = some (some .range) := by
  decide +kernel

theorem test_lane_write :
    (after .laneWrite (serve (writing laneItem 3 (laneBytes 4095)) idle)).lanes[(3 : Fin 4)].latency = 4095 ∧
    verdict (after .laneWrite (serve (writing laneItem 3 (laneBytes 4096)) idle)) = some (some .range) := by
  decide +kernel

theorem test_reach_CellAndLaneWritten :
    (let e := writing cellItem 1024 (cellBytes 7)
     Serves (serve e idle) e [] ∧ WritesItem cellItem e ∧ 1024 ≤ e.order.index) ∧
    (let e := writing cellItem 1023 (cellBytes 7)
     Serves (serve e idle) e [] ∧ WritesItem cellItem e ∧ e.order.index = (1023 : Fin 1024).val ∧
       namesReadOnly e.order.contents 1 32 = false ∧ (serve e idle).run.state = .idle ∧
       (serve e (aside idle)).run.bypass = true ∧ (serve e (inState .tailing idle)).run.state ≠ .idle ∧
       37 ≤ e.order.args.length ∧ (7 : Fin 8).val = fieldAt e.order.contents 0 1) ∧
    namesReadOnly (writing cellItem 0 (7 :: List.replicate 32 0)).order.contents 1 32 = true ∧
    (writing cellItem 0 [7]).order.args.length < 37 ∧
    7 < fieldAt (writing cellItem 0 (cellBytes 8)).order.contents 0 1 ∧
    (let e := writing laneItem 4 (laneBytes 0)
     Serves (serve e idle) e [] ∧ WritesItem laneItem e ∧ 4 ≤ e.order.index) ∧
    (let e := writing laneItem 3 (laneBytes 0)
     Serves (serve e idle) e [] ∧ WritesItem laneItem e ∧ e.order.index = (3 : Fin 4).val) := by decide +kernel

theorem test_class_write :
    ((after .classWrite (serve (writing classItem 7 (be 2 40 ++ be 2 3 ++ be 2 4 ++ be 6 5)) idle)).cells.classes[
      (7 : Fin 8)]).watchRate = 40 := by decide +kernel

theorem test_tracker_write :
    (after .trackerWrite (serve (writing trackerItem 0
      (be 2 500 ++ be 2 5 ++ be 2 5 ++ [20] ++ be 2 250 ++ [64] ++ be 2 1000 ++ [64, 32] ++ be 2 2500)) idle)
      ).tracker.params.satCount = 32 ∧
    verdict (after .trackerWrite (serve (writing trackerItem 0
      (be 2 500 ++ be 2 5 ++ be 2 5 ++ [20] ++ be 2 250 ++ [64] ++ be 2 1000 ++ [64, 33] ++ be 2 2500)) idle))
      = some (some .range) := by decide +kernel

theorem test_tail_span_and_chain_latency :
    (after .tailSpanWrite (serve (writing tailSpanItem 0 (be 3 5000000)) idle)).run.tailSpan = 5000000 ∧
    (after .chainLatencyWrite (serve (writing chainLatencyItem 0 (be 2 65535)) idle)).timebase.chainLatency = 65535 := by
  decide +kernel

theorem test_tally_interval_write :
    (after .tallyIntervalWrite (serve (writing tallyIntervalItem 0 (be 4 5000000)) (inState .run idle))
      ).link.tallyInterval = 5000000 ∧
    verdict (after .tallyIntervalWrite (serve (writing tallyIntervalItem 0 (be 4 4999999)) idle))
      = some (some .range) := by decide +kernel

theorem test_reach_SettingsWritten :
    (∀ p ∈ [(headerItem, be 2 1 ++ be 3 0 ++ [2#8]), (tailSpanItem, be 3 0), (chainLatencyItem, be 2 0),
        (trackerItem, List.replicate 16 2#8), (tallyIntervalItem, be 4 5000000)],
      let e := writing p.1 0 p.2
      Serves (serve e idle) e [] ∧ WritesItem p.1 e) ∧
    (let e := writing classItem 8 (List.replicate 12 0)
     Serves (serve e idle) e [] ∧ WritesItem classItem e ∧ 8 ≤ e.order.index) ∧
    (let e := writing classItem 7 (List.replicate 12 0)
     Serves (serve e idle) e [] ∧ WritesItem classItem e ∧ e.order.index = (7 : Fin 8).val) := by decide +kernel

theorem test_rate_slot_write :
    (after .rateSlotWrite (serve (writing rateSlotItem 0 (be 4 500000)) idle)).cells.slotLength = 500000 ∧
    verdict (after .rateSlotWrite (serve (writing rateSlotItem 0 (be 4 499999)) idle)) = some (some .range) := by
  decide +kernel

/-- A part ready to START. -/
def ready : State := clocked (mapped 0 0 idle)

theorem test_reach_RateSlotItem :
    (let e := writing rateSlotItem 0 (be 4 50000000)
     Serves (serve e idle) e [] ∧ WritesItem rateSlotItem e) ∧
    (let e := order readKind (be 1 rateSlotItem ++ [0#8] ++ be 2 0)
     Serves (serve e (aside idle)) e [] ∧ TakenAs readKind e ∧ 4 ≤ e.order.args.length ∧ e.order.item = rateSlotItem ∧
       e.order.index = 0) ∧
    (let e := order startKind []
     let s := serve e ready
     Serves s e [] ∧ TakenAs startKind e ∧ s.run.bypass = false ∧ s.run.state = .idle ∧ s.timebase.set = true ∧
       s.sensorMap[(0 : Fin 32)] ≠ none ∧ s.pulse.test = .none) ∧
    (let s := serve (order stopKind []) (bounded 5000)
     Serves s (order stopKind []) [] ∧ s.cells.boundary = some 5000 ∧ atOrAfter s.timebase.counter 5000 = true) := by
  decide +kernel

theorem test_setup_write :
    (after .captureSetupWrite (serve (writing setupItem 0 (be 4 65536 ++ be 2 2048 ++ be 2 2048)) idle)).capture.ringLines
      = 2048 ∧
    verdict (after .captureSetupWrite (serve (writing setupItem 0 (be 4 65536 ++ be 2 4096 ++ be 2 0)) idle))
      = some (some .range) := by decide +kernel

/-- A SEALED segment. -/
def someSegment : Segment :=
  { stage := .sealed, channel := 0, sensor := 0, arrival := 100, trigger := 0, pre := 0, post := 0, written := 1,
    nextPos := 0, lost := [], lostReported := 0, damaged := false }

/-- A ring write of channel 1's line 2. -/
def someWrite : RingWrite := { channel := 1, index := 2, data := List.replicate 16 7, voided := false }

/-- The part with an access in progress since uptime 0. -/
def accessing (op : AccessOp) (s : State) : State :=
  s.setCapture { s.capture with access := some { op := op, started := 0 } }

/-- A channel with capture fields. -/
def capturing (pre post : Nat) (s : State) : State :=
  s.setChannel 0 { s.channels[0] with preLines := pre, postLines := post, captureOn := true }

theorem test_reach_ChannelItemsAndCaptureSetupWritten_setup :
    (let e := writing setupItem 1 (be 4 65536 ++ be 2 256 ++ be 2 0)
     Serves (serve e idle) e [] ∧ WritesItem setupItem e ∧ e.order.index ≠ 0) ∧
    (let e := writing setupItem 0 (be 4 65536 ++ be 2 2048 ++ be 2 2048)
     let m := fieldAt e.order.contents 0 4
     let r := fieldAt e.order.contents 4 2
     let d := fieldAt e.order.contents 6 2
     Serves (serve e idle) e [] ∧ WritesItem setupItem e ∧ e.order.index = 0 ∧
       (serve e (aside idle)).run.bypass = true ∧ (serve e (inState .run idle)).run.state ≠ .idle ∧
       (serve e (idle.setSegment 63 (some someSegment))).capture.segments[(63 : Fin 64)] ≠ none ∧
       (serve e (accessing (.write someWrite) idle)).capture.access = some { op := .write someWrite, started := 0 } ∧
       (serve e idle).capture.segments = Vector.replicate 64 none ∧ (serve e idle).capture.queue = [] ∧
       (serve e idle).capture.access = none ∧
       12 ≤ e.order.args.length ∧ 65536 ≤ m ∧ m ≤ 16777216 ∧ r = 2048 ∧ 32 * r ≤ m ∧ d ≤ r ∧
       ∀ c : Fin 32, (serve e idle).channels[c].preLines + (serve e idle).channels[c].postLines + 1 ≤ r / 2) ∧
    (let l := (writing setupItem 0 (be 4 65536 ++ be 2 4096 ++ be 2 0)).order.contents
     ¬ 32 * fieldAt l 4 2 ≤ fieldAt l 0 4) ∧
    (let s := capturing 63 65 idle
     ¬ s.channels[(0 : Fin 32)].preLines + s.channels[(0 : Fin 32)].postLines + 1 ≤ 256 / 2) := by decide +kernel

/-! ### The other orders -/

theorem test_select_bank :
    (after .selectBank (serve (order selectBankKind (be 4 1 ++ [3])) idle)).channels[(0 : Fin 32)].active = 3 ∧
    (after .selectBank (serve (order selectBankKind (be 4 1 ++ [3])) (withDetector 0 (.opened openHit) idle))
      ).channels[(0 : Fin 32)].active = 0 := by decide +kernel

theorem test_select_bank_follow :
    (after .selectBankFollow (serve (order selectBankKind (be 4 1 ++ [255])) idle)).channels[(0 : Fin 32)].follow
      = true := by decide +kernel

theorem test_reach_SelectBankSetsPending :
    (let e := order selectBankKind (be 4 5 ++ [3])
     Serves (serve e idle) e [] ∧ TakenAs selectBankKind e ∧ fieldAt e.order.args 4 1 ≠ 255 ∧
       (serve e (aside idle)).run.bypass = true ∧ (serve e idle).run.bypass = false ∧ 5 ≤ e.order.args.length ∧
       (3 : Fin 4).val = fieldAt e.order.args 4 1) ∧
    (let e := order selectBankKind (be 4 5 ++ [255])
     Serves (serve e idle) e [] ∧ TakenAs selectBankKind e ∧ fieldAt e.order.args 4 1 = 255 ∧
       (serve e (aside idle)).run.bypass = true ∧ (serve e idle).run.bypass = false) ∧
    3 < fieldAt (order selectBankKind (be 4 5 ++ [4])).order.args 4 1 ∧
    (order selectBankKind (be 4 5)).order.args.length < 5 := by decide +kernel

theorem test_set_role :
    (after .setRole (serve (order setRoleKind [0, 2]) idle)).lanes[(0 : Fin 4)].state = .off ∧
    verdict (after .setRole (serve (order setRoleKind [0, 1]) idle)) = some (some .conflict) := by decide +kernel

theorem test_reach_SetRoleResetsLane :
    (let e := order setRoleKind [3, 1]
     Serves (serve e idle) e [] ∧ TakenAs setRoleKind e ∧ (serve e (aside idle)).run.bypass = true ∧
       (serve e idle).run.bypass = false ∧ 2 ≤ e.order.args.length ∧ (3 : Fin 4).val = fieldAt e.order.args 0 1 ∧
       roleOf (fieldAt e.order.args 1 1) = some .gauge ∧
       (∀ k : Fin 4, k ≠ 3 → (serve e idle).lanes[k].role ≠ .gauge)) ∧
    (let e := order setRoleKind [0, 1]
     (0 : Fin 4).val = fieldAt e.order.args 0 1 ∧ roleOf (fieldAt e.order.args 1 1) = some .gauge ∧
       (3 : Fin 4) ≠ 0 ∧ (serve e idle).lanes[(3 : Fin 4)].role = .gauge) ∧
    (order setRoleKind [0]).order.args.length < 2 ∧ 3 < fieldAt (order setRoleKind [4, 0]).order.args 0 1 ∧
    2 < fieldAt (order setRoleKind [0, 3]).order.args 1 1 := by decide +kernel

/-- START is refused in RUN, with the timebase UNSET, with no sensor mapped, and while a test waits. -/
theorem test_start_refused :
    verdict (after .start (serve (order startKind []) (inState .run idle))) = some (some .state) ∧
    verdict (after .start (serve (order startKind []) (mapped 0 0 idle))) = some (some .time) ∧
    verdict (after .start (serve (order startKind []) (clocked idle))) = some (some .nosensor) ∧
    verdict (after .start (serve (order startKind []) (waitingTest ready))) = some (some .busy) := by decide +kernel

theorem test_reach_StartEntersRun :
    let e := order startKind []
    (Serves (serve e idle) e [] ∧ TakenAs startKind e) ∧ (serve e (aside idle)).run.bypass = true ∧
    (serve e (inState .run idle)).run.state ≠ .idle ∧ (serve e idle).timebase.set = false ∧
    (∀ c : Fin 32, (serve e (clocked idle)).sensorMap[c] = none) ∧
    (serve e (waitingTest ready)).pulse.test = .waiting testInfo 0 ∧
    (let s := serve e (windowTest ready)
     Serves s e [] ∧ s.run.bypass = false ∧ s.run.state = .idle ∧ s.timebase.set = true ∧
       s.sensorMap[(0 : Fin 32)] ≠ none ∧ s.pulse.test = .window testInfo 60) ∧
    (let s := serve e ((ready.setSegment 5 (some someSegment)).setSegment 6 (some filling))
     s.capture.segments[(5 : Fin 64)] = some someSegment ∧ someSegment.stage ≠ .filling ∧ s.link.fill + 3 * 64 ≤ 3584 ∧
       s.capture.segments[(6 : Fin 64)] = some filling ∧ filling.stage = .filling ∧
       s.capture.segments[(7 : Fin 64)] = none) := by decide +kernel

theorem test_stop :
    (after .stop (serve (order stopKind []) (inState .run (withDetector 0 .quiet idle)))).run.state = .idle ∧
    verdict (after .stop (serve (order stopKind []) idle)) = some (some .state) := by decide +kernel

theorem test_freeze :
    (after .freeze (serve (order freezeKind []) (inState .run (onTick 40 idle)))).run.tailExpiry = some 2500040 ∧
    verdict (after .freeze (serve (order freezeKind []) idle)) = some (some .state) := by decide +kernel

theorem test_release :
    (after .release (serve (order releaseKind []) (inState .frozen idle))).run.state = .idle ∧
    verdict (after .release (serve (order releaseKind []) (inState .tailing idle))) = some (some .state) := by
  decide +kernel

/-- A dump with a line of channel 0 to take. -/
def dumping (s : State) : State :=
  (mapped 0 0 s).setCapture
    { s.capture with dumpDepth := 1, dump := some { channels := [0], line := 0, sent := 0, damaged := 0 } }

/-- No FILLING segment, and one for each of two channels. -/
theorem test_reach_StopLeavesRun :
    let e := order stopKind []
    (Serves (serve e (inState .run idle)) e [] ∧ TakenAs stopKind e ∧ (serve e (inState .run idle)).run.bypass = false ∧
      (serve e (inState .run idle)).run.state = .run) ∧
    (serve e (aside idle)).run.bypass = true ∧ (serve e idle).run.state ≠ .run ∧
    (let s := serve e ((inState .run idle).setSegment 9 (some filling))
     s.capture.segments[(9 : Fin 64)] = some filling ∧ filling.stage = .filling ∧
       ∀ i : Fin 64, i ≠ 9 → s.capture.segments[i] = none) := by decide +kernel

theorem test_stop_seals :
    (((after .stop (serve (order stopKind []) ((inState .run idle).setSegment 9 (some filling)))
      ).capture.segments[(9 : Fin 64)]).map (fun g => decide (g.stage = .filling))) ≠ some true := by decide +kernel

theorem test_reach_FreezeAndRelease :
    (let e := order freezeKind []
     Serves (serve e (inState .run idle)) e [] ∧ TakenAs freezeKind e ∧
       (serve e (inState .run idle)).run.bypass = false ∧ (serve e (inState .run idle)).run.state = .run ∧
       (serve e (aside idle)).run.bypass = true ∧ (serve e (inState .run idle)).run.tailSpan ≠ 0 ∧
       (serve e (inState .run idle)).link.fill + 2 ≤ 4096) ∧
    (let s := inState .run idle
     (s.setRun { s.run with tailSpan := 0 }).run.tailSpan = 0) ∧
    (let e := order releaseKind []
     Serves (serve e (inState .frozen idle)) e [] ∧ TakenAs releaseKind e ∧
       (serve e (inState .frozen idle)).run.bypass = false ∧ (serve e (inState .frozen idle)).run.state = .frozen ∧
       (serve e idle).run.state ≠ .frozen ∧ (serve e (inState .frozen idle)).capture.dump = none ∧
       (serve e (dumping (inState .frozen idle))).capture.dump
         = some { channels := [0], line := 0, sent := 0, damaged := 0 } ∧
       (serve e (dumping (inState .frozen idle))).link.fill + 2 ≤ 4096) := by decide +kernel

theorem test_restart :
    (after .restart (serve (order restartKind []) (aside (withLane 0 .up idle)))).run.bypass = false ∧
    (after .restart (serve (order restartKind []) (aside (withLane 0 .up idle)))).lanes[(0 : Fin 4)].state
      = .aligning := by decide +kernel

/-- With a ring write in progress, and with none. -/
theorem test_reach_RestartReturnsToIdle :
    let e := order restartKind []
    Serves (serve e (aside idle)) e [] ∧ TakenAs restartKind e ∧ (serve e (aside idle)).capture.access = none ∧
    (Serves (serve e (accessing (.write someWrite) idle)) e [] ∧
      (serve e (accessing (.write someWrite) idle)).capture.access = some { op := .write someWrite, started := 0 }) := by
  decide +kernel

/-- A cell in ALARM. -/
def alarmed : State :=
  idle.setCell 5 { idle.cells.cells[(5 : Fin 1024)] with holdCount := 9, events := 3, alarm := .alarm .hold }

theorem test_clear_cell :
    ((after .clearCell (serve (order clearCellKind (be 2 5)) alarmed)).cells.cells[(5 : Fin 1024)]).alarm = .quiet ∧
    ((after .clearCell (serve (order clearCellKind (be 2 5)) alarmed)).cells.cells[(5 : Fin 1024)]).events = 3 := by
  decide +kernel

theorem test_reach_ClearCellClears :
    (let e := order clearCellKind (be 2 1023)
     Serves (serve e idle) e [] ∧ TakenAs clearCellKind e ∧ (serve e (aside idle)).run.bypass = true ∧
       (serve e idle).run.bypass = false ∧ 2 ≤ e.order.args.length ∧ fieldAt e.order.args 0 2 < 1024) ∧
    fieldAt (order clearCellKind (be 2 65535)).order.args 0 2 = 65535 ∧
    (1024 ≤ fieldAt (order clearCellKind (be 2 1024)).order.args 0 2 ∧
      fieldAt (order clearCellKind (be 2 1024)).order.args 0 2 ≠ 65535) ∧
    (order clearCellKind [0]).order.args.length < 2 := by decide +kernel

/-- A part ready for a pulse test of sensor 0 on LP0. -/
def pulseReady : State := withLane 0 .up ready

theorem test_pulse :
    (after .pulse (serve (order pulseKind (be 1 0 ++ [0#8] ++ be 2 1000)) pulseReady)).pulse.test
      = .waiting { tag := 7, source := 0, channel := 0, window := 1000, sendTick := 0 } 0 ∧
    verdict (after .pulse (serve (order pulseKind (be 1 0 ++ [0#8] ++ be 2 1000)) ready)) = some (some .lane) := by
  decide +kernel

theorem test_reach_PulseStartsTest :
    (let e := order pulseKind (be 1 0 ++ [0#8] ++ be 2 65535)
     Serves (serve e pulseReady) e [] ∧ TakenAs pulseKind e ∧ (serve e pulseReady).run.bypass = false ∧
       (serve e pulseReady).run.state = .idle ∧ (serve e (aside idle)).run.bypass = true ∧
       (serve e (inState .tailing idle)).run.state = .tailing ∧ (serve e (waitingTest idle)).pulse.test ≠ .none ∧
       (serve e pulseReady).pulse.test = .none ∧ 4 ≤ e.order.args.length ∧ fieldAt e.order.args 2 2 ≠ 0 ∧
       pulseSource e (serve e pulseReady) = some (0, 0) ∧ (serve e pulseReady).podUp (laneOf 0) = true ∧
       (serve e pulseReady).timebase.set = true ∧ (serve e ready).podUp (laneOf 0) = false ∧
       (serve e (withLane 0 .up (mapped 0 0 idle))).timebase.set = false ∧ pulseSource e (serve e idle) = none) ∧
    (order pulseKind [0, 0, 1]).order.args.length < 4 ∧
    fieldAt (order pulseKind (be 1 0 ++ [0#8] ++ be 2 0)).order.args 2 2 = 0 := by decide +kernel

/-- A test in RUN that waits, with hits of the sensors `l` held at ticks 100, 101, ... -/
def holding (l : List (Fin 32)) (s : State) : State :=
  let t := waitingTest s
  t.setPulse { t.pulse with hold := l.mapIdx (fun i n => hitAt n (BitVec.ofNat 48 (100 + i))) }

/-- As many as the hold list takes. -/
def fullHold : State := holding ((List.range 64).map (fun i => Fin.ofNat 32 i)) (inState .run idle)

/-- A hit before the send tick is handed back, one at it is held, and a 65th releases the earliest. -/
theorem test_hits_held :
    (offerToTest present (hitAt 0 49) (waitingTest idle)).2 = true ∧
    (offerToTest present (hitAt 0 50) (waitingTest idle)).1.pulse.hold = [hitAt 0 50] ∧
    (offerToTest present (hitAt 0 200) fullHold).1.pulse.hold.length = 64 ∧
    (offerToTest present (hitAt 0 200) fullHold).1.grouping.counter = 1 := by decide +kernel

/-- At the entry into WINDOW a held hit in the window is made TEST and one past it is released. -/
theorem test_held_hits_decided :
    (let s := (holding [1, 2] (inState .run idle))
     let t := emptyHold present .made 2 (s.setPulse { s.pulse with test := .window { testInfo with window := 1 } 100 })
     t.pulse.hold = [] ∧ (t.pulse.results[(1 : Fin 32)]).isSome = true ∧ (t.pulse.results[(2 : Fin 32)]).isSome = false) := by
  decide +kernel

/-- LP0 UP with a test of channel 3 waiting after `n` frames. -/
def waitingOn (n : Nat) : State :=
  let s := onTick 100 (withLane 0 .up (inState .run idle))
  s.setPulse { s.pulse with test := .waiting testInfo n }

/-- A sample frame with a fire confirmation at its last place. -/
def confirmed5 : SampleFrame := { sample5 0 with fire := 0x8F }

/-- The arrivals at the bounds of the hold and of the window; the hold list below its capacity and full; a frame of the source lane
that confirms, one that does not, at 62 and 63 frames before it; a frame of another lane. -/
theorem test_reach_TestDecidesHits :
    ((waitingTest idle).pulse.test = .waiting testInfo 0 ∧ earlier (49 : Tick) testInfo.sendTick = true ∧
      earlier (50 : Tick) testInfo.sendTick = false ∧ (waitingTest idle).pulse.hold.length < 64 ∧
      fullHold.pulse.hold.length = 64 ∧ fullHold.pulse.test = .waiting testInfo 0) ∧
    ((windowTest idle).pulse.test = .window testInfo 60 ∧ ((1059 : Tick) - 60).toNat < testInfo.window ∧
      testInfo.window ≤ ((1060 : Tick) - 60).toNat) ∧
    (InFlight fullHold testInfo none ∧ InFlight (windowTest idle) testInfo (some 60)) ∧
    (∀ n ∈ [62, 63],
      let s := waitingOn n
      s.running = true ∧ s.lanes[(0 : Fin 4)].state = .up ∧ s.lanes[(0 : Fin 4)].role = .pod ∧
      s.lanes[(0 : Fin 4)].expSeq = some 5 ∧ s.pulse.test = .waiting testInfo n ∧ laneOf testInfo.channel = 0 ∧
      (∀ j : Fin 8, s.detectors[channelOf 0 j].feed = none) ∧ s.timebase.counter = 100) ∧
    ((sample5 0).seq = 5 ∧ confirmed5.seq = 5 ∧ (sample5 0).confirmation = none ∧ confirmed5.confirmation = some 15 ∧
      atOrAfter (115 : Tick) testInfo.sendTick = true) ∧
    (withLane 1 .up (waitingOn 0)).lanes[(1 : Fin 4)].state = .up :=
  ⟨by decide +kernel, by decide +kernel, ⟨.inr ⟨0, rfl, rfl⟩, .inl ⟨60, rfl, rfl⟩⟩, by decide +kernel, by decide +kernel,
   by decide +kernel⟩

/-- A live detector heard to the last tick of the window, and one heard to the tick before it. -/
def heardTo (t : Tick) : State :=
  let s := windowTest (inState .run (withDetector 0 .quiet idle))
  s.setDetector 0 { s.detectors[0] with horizon := some t }

theorem test_test_ends :
    (doneTest (heardTo 1059)).pulse.test = .none ∧ (doneTest (heardTo 1058)).pulse.test = .window testInfo 60 ∧
    (endTest present .made .nofire (holding [1] (inState .run idle))).grouping.counter = 1 := by decide +kernel

/-- A test that is over and one that is not; a test in RUN; a listening test with no group open; the source lane UP. -/
theorem test_reach_TestEnds :
    ((heardTo 1059).pulse.test = .window testInfo 60 ∧
      atOrAfter (1059 : Tick) ((60 : Tick) + BitVec.ofNat 48 (testInfo.window - 1)) = true ∧
      atOrAfter (1058 : Tick) ((60 : Tick) + BitVec.ofNat 48 (testInfo.window - 1)) = false ∧
      (heardTo 1059).detectors[(0 : Fin 32)].state = .quiet ∧
      ∀ c : Fin 32, c ≠ 0 → (heardTo 1059).detectors[c].state = .off) ∧
    (InFlight (heardTo 1059) testInfo (some 60) ∧ (heardTo 1059).run.state ≠ .idle) ∧
    (InFlight (waitingTest idle) testInfo none ∧ (waitingTest idle).run.state = .idle ∧
      (waitingTest idle).grouping.groups = []) ∧
    (InFlight (waitingOn 0) testInfo none ∧ (waitingOn 0).running = true ∧ (waitingOn 0).lanes[(0 : Fin 4)].state = .up ∧
      (waitingOn 0).lanes[(0 : Fin 4)].role = .pod ∧ laneOf testInfo.channel = 0) :=
  ⟨by decide +kernel, ⟨.inl ⟨60, rfl, rfl⟩, by decide +kernel⟩, ⟨.inr ⟨0, rfl, rfl⟩, by decide +kernel, by decide +kernel⟩,
   ⟨.inr ⟨0, rfl, rfl⟩, by decide +kernel, by decide +kernel, by decide +kernel, by decide +kernel⟩⟩

/-- A test in RUN and NOGAUGE with burst armed, whose two held hits are saturated, with a tail span. -/
def declaring (span : Nat) : State :=
  let s := waitingTest (inState .run idle)
  let t := s.setTracker { s.tracker with armed := true, params := { s.tracker.params with satCount := 2 } }
  let u := t.setPulse { t.pulse with hold := [satHit 1 100, satHit 2 101, hitAt 3 102] }
  u.setRun { u.run with tailSpan := span }

/-- The causes of the PULSE-RESULT records in the own record queue. -/
def endCauses (s : State) : List EndCause :=
  s.link.own.filterMap (fun r =>
    match r with
    | .pulse q => some q.cause
    | _ => none)

/-- A hit that an end releases declares: the end keeps its own cause and is complete, with the last held hit presented, before
the tail end (R155, R156, R165). -/
theorem test_declaration_within_an_end :
    (∀ span ∈ [0, 500],
      let t := endTest (presentWith .nofire) .made .nofire (declaring span)
      endCauses t = [.nofire] ∧ t.run.cause = some .saturation ∧ t.pulse.hold = []) ∧
    (endTest (presentWith .nofire) .made .nofire (declaring 500)).grouping.counter = 1 ∧
    ((endTest (presentWith .nofire) .made .nofire (declaring 500)).run.state = .tailing ∧
      (endTest (presentWith .nofire) .made .nofire (declaring 0)).run.state = .frozen) := by decide +kernel

/-- A hit released by the classification declares: the hit behind it that arrived in the window is made TEST (R152, R156). -/
theorem test_declaration_within_the_classification :
    (let s := declaring 500
     let t := emptyHold present .made 3 (s.setPulse { s.pulse with test := .window { testInfo with window := 1 } 102 })
     endCauses t = [.aborted] ∧ t.run.cause = some .saturation ∧
       (t.link.own.any (fun r =>
         match r with
         | .hit h => h.test && h.sensor == 3
         | _ => false)) = true) := by decide +kernel

theorem test_bypass_on :
    (after .bypassOn (serve (order bypassKind [1]) idle)).run.bypass = true ∧
    verdict (after .bypassOn (serve (order bypassKind [2]) idle)) = some (some .range) := by decide +kernel

theorem test_bypass_off :
    (after .bypassOff (serve (order bypassKind [0]) (aside idle))).run.bypass = false := by decide +kernel

theorem test_reach_BypassSetsAndClears :
    (∀ v ∈ [0#8, 1#8],
      let e := order bypassKind [v]
      Serves (serve e idle) e [] ∧ TakenAs bypassKind e ∧ 1 ≤ e.order.args.length ∧
        fieldAt e.order.args 0 1 = v.toNat) ∧
    1 < fieldAt (order bypassKind [2]).order.args 0 1 ∧ (order bypassKind []).order.args.length < 1 ∧
    (Serves (serve (order restartKind []) idle) (order restartKind []) [] ∧
      TakenAs restartKind (order restartKind [])) := by decide +kernel

/-! ## The record link -/

theorem test_link_signal :
    (after (.linkSignalDetect .near) idle).link.near.signal = true ∧
    (after (.linkLossOfSignal .far) (portUp' .far idle)).link.far.state = .down := by decide +kernel

/-- A far port whose order is in transmission, with one more and a mark behind it. -/
def losing : State :=
  let s := portUp' .far idle
  s.setLink
    { s.link with
      forward := [.order (order startKind []).order, .burst, .order (order stopKind []).order],
      farSending := some { source := .forward, queued := true, frame := [] } }

/-- The order in transmission is not counted as lost. -/
theorem test_lost_orders_counted :
    (after (.linkLossOfSignal .far) losing).link.counts.discardedOrders = 1 := by decide +kernel

theorem test_reach_PortStateChanges_signal :
    (losing.link.farSending = some { source := .forward, queued := true, frame := [] } ∧
      (losing.link.port .far).state = .up) ∧
    (portUp' .far idle).link.farSending.isSome = false ∧
    (idle.running = true ∧ (idle.link.port .near).state = .down ∧ (idle.link.port .far).state = .down) ∧
    ((portUp' .near idle).running = true ∧ ((portUp' .near idle).link.port .near).state = .up) ∧
    ((portUp' .far idle).running = true ∧ ((portUp' .far idle).link.port .far).state = .up) := by decide +kernel

/-- A port one aligned frame short of UP, with the pass-through buffer at a fill of `n` units. -/
def portNearlyUp (p : Port) (n : Nat) : State :=
  let k := idle.link.setPort p { idle.link.port p with signal := true, alignCount := 7, prevSeq := some 4 }
  idle.setLink { k with pass := List.replicate n (List.replicate 16 0) }

/-- A port UP with consecutive failures; the far port with an order in transmission and more waiting. -/
def portFailing (p : Port) (n : Nat) : State :=
  let s := portUp' p losing
  s.setLink (s.link.setPort p { s.link.port p with failures := n })

theorem test_idle_frame :
    (after (.idleFrame .near (idleFrame 5)) (portNearlyUp .near 0)).link.near.state = .up ∧
    (after (.idleFrame .near []) (portFailing .near 2)).link.near.state = .down := by decide +kernel

/-- The third failure in a row at the far port is counted, and one waiting order is lost; entry into UP makes a PAUSE mark at a
fill of 48 units. -/
theorem test_far_port_changes :
    (let k := (after (.idleFrame .far []) (portFailing .far 2)).link
     k.counts.badRecords = 1 ∧ k.counts.discardedOrders = 1 ∧ k.forward = []) ∧
    (after (.idleFrame .far (idleFrame 5)) (portNearlyUp .far 48)).link.marks = [.pause] ∧
    (after (.idleFrame .far (idleFrame 5)) (portNearlyUp .far 47)).link.marks = [] := by decide +kernel

theorem test_reach_PortStateChanges_frames :
    (idle.running = true ∧ (idle.link.port .near).signal = false ∧ (idle.link.port .near).state = .down) ∧
    (∀ p ∈ [Port.near, Port.far], (portFailing p 1).running = true ∧ ((portFailing p 1).link.port p).state = .up ∧
      readLinkFrame p (idleFrame 5) = some .idle ∧ readLinkFrame p [] = none ∧
      ((portFailing p 1).link.port p).failures < 2 ∧ 2 ≤ ((portFailing p 2).link.port p).failures ∧
      ((portNearlyUp p 0).link.port p).state = .down ∧ ((portNearlyUp p 0).link.port p).signal = true ∧
      ((portNearlyUp p 0).link.port p).alignCount + 1 = 8) ∧ frameSeq (idleFrame 5) = 5 ∧
    ((portNearlyUp .far 48).link.passFill = 48 ∧ (portNearlyUp .far 47).link.passFill = 47 ∧
      (portNearlyUp .far 48).link.farPause = false) := by decide +kernel

/-- An order on the wire: START to an address, and an ASSIGN. -/
def startTo (a : Byte) : Order := { address := a, kind := startKind, tag := 7, args := [] }

def assignFive : Order := { address := 9, kind := assignKind, tag := 7, args := 5 :: List.replicate 15 0 }

/-- Both ports UP at chain address 2. -/
def chained' : State :=
  let s := portUp' .far (portUp' .near idle)
  s.setRun { s.run with address := 2 }

/-- The intake full. -/
def crowded (s : State) : State := s.setLink { s.link with intake := List.replicate 4 (order startKind []) }

theorem test_order_frame :
    (after (.orderFrame (orderFrame (startTo 2) 0)) chained').link.intake.length = 1 ∧
    (after (.orderFrame (orderFrame (startTo 3) 0)) chained').link.forward = [.order (startTo 3)] := by decide +kernel

/-- Taken at the own address; broadcast; passed on with the far port UP, and left UNCLAIMED with it DOWN; an ASSIGN taken and passed
on; an intake with room and a full one. -/
theorem test_reach_OrderFrameAddressed :
    (∀ a ∈ [2#8, 31#8, 3#8], readLinkFrame .near (orderFrame (startTo a) 0) = some (.order (startTo a))) ∧
    readLinkFrame .near (orderFrame assignFive 0) = some (.order assignFive) ∧
    (chained'.running = true ∧ chained'.link.near.state = .up ∧ chained'.link.far.state = .up ∧
      chained'.run.address = 2 ∧ chained'.run.bypass = false ∧ chained'.link.intake.length < 4) ∧
    ((portUp' .near idle).running = true ∧ (portUp' .near idle).link.near.state = .up ∧
      (portUp' .near idle).link.far.state = .down ∧ (portUp' .near idle).run.address = 0) ∧
    (4 ≤ (crowded chained').link.intake.length ∧ (crowded chained').link.near.state = .up) := by decide +kernel

theorem test_marks :
    (after (.pauseMark (markFrame .pause 0)) (portUp' .near idle)).link.nearPause = true ∧
    (after (.resumeMark (markFrame .resume 0)) (after (.pauseMark (markFrame .pause 0)) (portUp' .near idle))
      ).link.nearPause = false ∧
    (after (.burstMark (markFrame .burst 0)) (inState .run chained')).run.cause = some .chained := by decide +kernel

/-- The forward queue with room for one mark, and full. -/
theorem test_reach_NearMarksTakeEffect_room :
    ∀ n ∈ [7, 8],
      (chained'.setLink { chained'.link with forward := List.replicate n .burst }).link.forward.length = n ∧
      chained'.link.far.state = .up ∧ (portUp' .near idle).link.far.state = .down := by decide +kernel

theorem test_reach_NearMarksTakeEffect :
    ((portUp' .near idle).running = true ∧ (portUp' .near idle).link.near.state = .up ∧
      readLinkFrame .near (markFrame .pause 0) = some (.mark .pause) ∧
      readLinkFrame .near (markFrame .resume 0) = some (.mark .resume) ∧
      readLinkFrame .near (markFrame .burst 0) = some (.mark .burst)) ∧
    ((inState .run chained').run.state = .run ∧ (inState .run chained').run.bypass = false ∧
      (inState .run chained').link.fill + 2 ≤ 4096) ∧
    chained'.run.state ≠ .run := by decide +kernel

/-- A record of one unit that came from a farther part, and a BURST notice. -/
def someBody : List Byte := List.replicate 16 0

def burstBody : List Byte := [4, 1, 0, 3] ++ List.replicate 12 0

/-- The pass-through buffer at a fill of `n` units. -/
def buffered (n : Nat) (s : State) : State := s.setLink { s.link with pass := List.replicate n someBody }

theorem test_record_frame :
    (after (.recordFrame (recordFrame someBody 0)) chained').link.pass = [someBody] ∧
    (after (.recordFrame (recordFrame burstBody 0)) (inState .run chained')).run.cause = some .chained := by
  decide +kernel

/-- The buffer where the record just fits, where it just does not, and where it just makes a PAUSE mark. -/
theorem test_reach_RecordFramePlaced :
    (chained'.running = true ∧ chained'.link.far.state = .up ∧
      readLinkFrame .far (recordFrame someBody 0) = some (.record someBody) ∧
      readLinkFrame .far (recordFrame burstBody 0) = some (.record burstBody)) ∧
    (buffered 63 chained').link.passFill + someBody.length / 16 = 64 ∧
    (buffered 64 chained').link.passFill + someBody.length / 16 = 65 ∧
    ((buffered 47 chained').link.passFill + someBody.length / 16 = 48 ∧ (buffered 47 chained').link.farPause = false) ∧
    (isBurstNotice someBody = false ∧ isBurstNotice burstBody = true ∧ (inState .run chained').run.state = .run ∧
      (inState .run chained').run.bypass = false ∧ (inState .run chained').link.fill + 2 ≤ 4096) := by decide +kernel

/-- An answer. -/
def someAnswer : Answer := { part := 0, tag := 7, kind := startKind, reason := none, item := 0, index := 0, contents := [] }

/-- Both ports UP, an answer in transmission on the near port and a mark on the far port, more waiting. -/
def sending : State :=
  chained'.setLink
    { chained'.link with
      answers := [someAnswer, someAnswer], pass := [someBody], own := [someNotice],
      marks := [.pause, .resume], forward := [.burst],
      nearSending := some { source := .answer, queued := true, frame := [] },
      farSending := some { source := .mark, queued := true, frame := [] } }

theorem test_reach_RestartReturnsToIdle_sending :
    Serves (serve (order restartKind []) { sending with link := { sending.link with answers := [] } })
      (order restartKind []) [] ∧
    ∃ x, sending.link.nearSending = some x ∧ x.source = .answer :=
  ⟨by decide +kernel, _, rfl, rfl⟩

theorem test_transmission_ends :
    (after .nearTransmissionEnd sending).link.answers = [someAnswer] ∧
    (after .farTransmissionEnd sending).link.marks = [.resume] := by decide +kernel

/-- Both ports UP, a record of the pass-through buffer in transmission, the far pause asserted. -/
def passing (n : Nat) : State :=
  let s := buffered n chained'
  s.setLink { s.link with farPause := true, nearSending := some { source := .pass, queued := true, frame := [] } }

/-- A RESUME mark is made when 16 units are left; the next frame carries the answer, or the mark, at the head. -/
theorem test_transmission_frames :
    (after .nearTransmissionEnd (passing 17)).link.marks = [.resume] ∧
    (after .nearTransmissionEnd (passing 18)).link.marks = [] ∧
    (after .nearTransmissionEnd sending).link.nearSending.map (fun x => x.frame)
      = some (recordFrame someAnswer.body sending.link.near.txSeq) ∧
    (after .farTransmissionEnd sending).link.farSending.map (fun x => x.frame)
      = some (markFrame .resume sending.link.far.txSeq) := by decide +kernel

theorem test_reach_TransmissionEndChooses :
    (sending.running = true ∧ sending.link.nearSending = some { source := .answer, queued := true, frame := [] } ∧
      sending.link.farSending = some { source := .mark, queued := true, frame := [] } ∧
      sending.link.near.state = .up ∧ sending.link.far.state = .up ∧ sending.link.nearPause = false) ∧
    ((passing 17).running = true ∧
      (passing 17).link.nearSending = some { source := .pass, queued := true, frame := [] } ∧
      (passing 17).link.farPause = true) ∧
    ((after .nearTransmissionEnd (passing 17)).link.passFill = 16 ∧
      (after .nearTransmissionEnd (passing 18)).link.passFill = 17) := by decide +kernel

/-- Every source of a next frame is met: near, an answer, a record of either queue, or idle; far, a mark, an order, a burst mark
on its way, or idle. -/
theorem test_reach_TransmissionEndChooses_sources :
    (let next := fun (k : Link) =>
       (after .nearTransmissionEnd (sending.setLink { sending.link with answers := [], pass := k.pass, own := k.own })).link
     (next idle.link).nearSending.map (fun x => x.source) = some .idle ∧
     (next { idle.link with own := [someNotice] }).nearSending.map (fun x => x.source) = some .own ∧
     (next { idle.link with pass := [someBody] }).nearSending.map (fun x => x.source) = some .pass) ∧
    (let next := fun (l : List Forward) =>
       (after .farTransmissionEnd (sending.setLink { sending.link with marks := [], forward := l })).link
     (next []).farSending.map (fun x => x.source) = some .idle ∧
     (next [.burst]).farSending.map (fun x => x.source) = some .forward ∧ (next [.burst]).forward = [.burst] ∧
     (next [.order (startTo 3)]).forward = [.order (startTo 3)]) := by decide +kernel

/-- A HIT record of a located event is shed from 3,072 units on; other records are not yet. -/
theorem test_admission :
    admitted 3071 (.hit (hitAt 0 0)) true = true ∧ admitted 3072 (.hit (hitAt 0 0)) true = false ∧
    admitted 3583 someTrace false = true ∧ admitted 3584 someTrace false = false ∧
    admitted 4094 someNotice false = true ∧ admitted 4095 someNotice false = false := by decide +kernel

theorem test_reach_OfferAdmitsByFill :
    (aside idle).run.bypass = true ∧
    (idle.run.bypass = false ∧ idle.link.fill + someNotice.units ≤ 4096 ∧ idle.link.fill < 3072) ∧
    (let s := tallying ([someTrace] ++ List.replicate 2046 someNotice)
     ¬ s.link.fill + someNotice.units ≤ 4096 ∧ s.run.bypass = false) :=
  ⟨rfl, by decide +kernel, by rw [fill_notices]; simp [someTrace, someNotice, Record.units], rfl⟩

/-! ## The capture memory port -/

theorem test_ring_write :
    Memory.read (after (.ringWriteComplete .done) (accessing (.write someWrite) idle)).capture.memory 258
      = some (List.replicate 16 7) ∧
    markAt (after (.ringWriteComplete .fault) (accessing (.write someWrite) idle)) 1 2 = .bad := by decide +kernel

/-- The ring of channel 0 in RUN: write position 3, the line of tick `x` next, `n` writes of its index 3 waiting. -/
def ringing (x : Option Tick) (n : Nat) : State :=
  let s := inState .run idle
  s.setCapture
    { s.capture with
      queue := List.replicate n { channel := 0, index := 3, data := [], voided := false },
      rings := put s.capture.rings 0 { s.capture.rings[0] with writePos := 3, ringTick := x } }

/-- In order; after a gap of two lines; a missing stretch of two lines. -/
theorem test_ring_lines :
    (ringLine 0 100 [7] (ringing (some 100) 0)).capture.access.isSome = true ∧
    ((ringLine 0 100 [7] (ringing (some 68) 0)).capture.rings[(0 : Fin 32)]).writePos = 6 ∧
    ((missingLines 0 2 (ringing (some 100) 0)).capture.rings[(0 : Fin 32)]).ringTick = some 132 := by decide +kernel

/-- The ring of 256 lines at the bounds of each case: no ring tick, in order, 1 and 255 lines ahead, 256 lines ahead, and a tick that
is no whole line away; the write queue below 128 and at it; a SEALED segment whose one line is taken. -/
theorem test_reach_RingLinesPlaced :
    (∀ n ∈ [127, 128],
      let s := ringing (some 100) n
      s.run.state = .run ∧ s.capture.port = .ready ∧ s.capture.queue.length = n ∧
      (s.capture.rings[(0 : Fin 32)]).marks.length = s.capture.ringLines ∧
      (s.capture.rings[(0 : Fin 32)]).writePos < s.capture.ringLines) ∧
    ((ringing none 0).capture.rings[(0 : Fin 32)]).ringTick = none ∧
    (∀ p ∈ [(84, 1), (100 - 16 * 255, 255), (100 - 16 * 256, 256)],
      (100 - (p.1 : Tick)).toNat = 16 * p.2) ∧
    (100 - (99 : Tick)).toNat % 16 = 1 ∧ idle.run.state ≠ .run ∧ idle.run.state ≠ .tailing ∧
    (let g := { someSegment with trigger := 3 }
     let s := (ringing (some 100) 0).setSegment 5 (some g)
     s.capture.segments[(5 : Fin 64)] = some g ∧ g.channel = 0 ∧ g.stage ≠ .filling ∧
     g.unreadAt s.capture.ringLines 3 = some 0 ∧ g.unreadAt s.capture.ringLines 2 = none ∧
     ({ g with lost := g.lost ++ [0] } : Segment).unread = [] ∧
     ({ g with pre := 1, lost := g.lost ++ [0] } : Segment).unread ≠ []) := by decide +kernel

/-- The ring of channel 0, write position 3, with one FILLING segment of trigger line 0, `w` lines written and a post length. -/
def extending (w post : Nat) : State :=
  (ringing (some 100) 0).setSegment 5 (some { filling with written := w, post := post })

/-- A line at trigger + lines written extends the segment, and seals it at post lines + 1; one elsewhere leaves it. -/
theorem test_ring_line_extends :
    ((ringLine 0 100 [7] (extending 3 4)).capture.segments[(5 : Fin 64)]).map (fun g => (g.written, g.stage))
      = some (4, .filling) ∧
    ((ringLine 0 100 [7] (extending 3 3)).capture.segments[(5 : Fin 64)]).map (fun g => (g.written, g.stage))
      = some (4, .sealed) ∧
    (ringLine 0 100 [7] (extending 2 4)).capture.segments[(5 : Fin 64)] = (extending 2 4).capture.segments[(5 : Fin 64)] := by
  decide +kernel

/-- The same states meet what is asked of an extended segment: it is the one that is FILLING at the channel. -/
theorem test_reach_RingLinesPlaced_extends :
    (∀ i : Fin 64, i ≠ 5 → (ringing (some 100) 0).capture.segments[i] = none) ∧
    (∀ p ∈ [(3, 4), (3, 3), (2, 4)],
      (extending p.1 p.2).capture.segments[(5 : Fin 64)] = some { filling with written := p.1, post := p.2 } ∧
      filling.channel = 0 ∧ filling.stage = .filling ∧ p.1 ≤ p.2 ∧
      filling.pre + p.2 + 1 ≤ (extending p.1 p.2).capture.ringLines ∧
      ((extending p.1 p.2).capture.rings[(0 : Fin 32)]).writePos = 3) := by decide +kernel

theorem test_reach_WritesAndTimeoutsEnd_writes :
    (∀ v ∈ [false, true], let s := accessing (.write { someWrite with voided := v }) idle
      s.running = true ∧ s.capture.access = some { op := .write { someWrite with voided := v }, started := 0 } ∧
        s.capture.failures < 3) := by decide +kernel

/-- A segment being read, its trigger line's read in progress. -/
def reading (op : AccessOp) : State :=
  accessing op ((mapped 0 0 (inState .run idle)).setSegment 0 (some { someSegment with stage := .reading, nextPos := 1 }))

theorem test_readout_read :
    (after (.readoutReadComplete .fault) (reading (.readout 0 0 0 true))).link.own.length = 2 ∧
    (after (.readoutReadComplete .done) (reading (.dump 0 true))).link.own = [] := by decide +kernel

theorem test_dump_read :
    (after (.dumpReadComplete .split) (accessing (.dump 0 true) (dumping (inState .frozen idle)))).link.own.length = 2 := by
  decide +kernel

theorem test_reach_ReadCompletes :
    (let s := reading (.readout 0 0 0 true)
     s.running = true ∧ s.capture.failures < 3 ∧ s.run.bypass = false ∧ s.link.fill + 8 ≤ 3584 ∧
       s.capture.queue = [] ∧ s.capture.access = some { op := .readout 0 0 0 true, started := 0 } ∧
       s.capture.segments[(0 : Fin 64)] = some { someSegment with stage := .reading, nextPos := 1 }) ∧
    (let s := accessing (.dump 0 true) (dumping (inState .frozen idle))
     s.running = true ∧ s.capture.failures < 3 ∧ s.run.bypass = false ∧ s.link.fill + 8 ≤ 3584 ∧
       s.capture.queue = [] ∧ s.capture.access = some { op := .dump 0 true, started := 0 } ∧
       s.capture.dump = some { channels := [0], line := 0, sent := 0, damaged := 0 }) := by decide +kernel

/-- SEALED segments with their arrivals. -/
def sealedAt (l : List (Fin 64 × Nat)) : State :=
  l.foldl (fun s p => s.setSegment p.1 (some { someSegment with arrival := BitVec.ofNat 48 p.2 })) (mapped 0 0 idle)

/-- Of two SEALED segments that arrived together the lower is read first; an earlier one goes before both. -/
theorem test_readout_selects :
    (readingSegment (selectReadout (sealedAt [(9, 100), (5, 100)]))).map (fun p => p.1) = some 5 ∧
    (readingSegment (selectReadout (sealedAt [(9, 99), (5, 100)]))).map (fun p => p.1) = some 9 ∧
    readingSegment (selectReadout idle) = none := by decide +kernel

/-- One READING segment; no SEALED one; two SEALED with equal arrivals; a write to begin, and none. -/
theorem test_reach_ReadoutSelectsEarliest :
    (reading (.dump 0 true)).capture.segments
      = put (Vector.replicate 64 none) 0 (some { someSegment with stage := .reading, nextPos := 1 }) ∧
    idle.capture.segments = Vector.replicate 64 none ∧
    ((sealedAt [(9, 100), (5, 100)]).capture.segments
        = put (put (Vector.replicate 64 none) 9 (some someSegment)) 5 (some someSegment) ∧
      someSegment.stage = .sealed ∧ (someSegment.arrival - (100 : Tick)).toNat < 2 ^ 47 ∧ (5 : Fin 64) < 9) ∧
    ((ringing none 1).capture.access = none ∧ (ringing none 1).capture.port = .ready ∧
      (ringing none 1).capture.queue = [{ channel := 0, index := 3, data := [], voided := false }]) ∧
    (accessing (.write someWrite) idle).capture.access ≠ none ∧ idle.capture.queue = [] := by decide +kernel

/-- A segment with a line left, and one that is done; a dump with more lines, more channels, and at its last line. -/
theorem test_reach_ReadCompletes_ends :
    ({ someSegment with stage := .reading, nextPos := 1 } : Segment).unread = [] ∧
    ({ someSegment with stage := .reading, written := 2, nextPos := 1 } : Segment).unread ≠ [] ∧
    (dumping idle).capture.dumpDepth = 1 ∧ ¬ 0 + 1 < (dumping idle).capture.dumpDepth ∧
    (let s := dumping idle
     0 + 1 < (s.setCapture { s.capture with dumpDepth := 2 }).capture.dumpDepth) := by decide +kernel

/-- An access in progress for `n` ticks, after `k` failures in a row. -/
def late (n k : Nat) : State :=
  let s := accessing (.write someWrite) (onTick n idle)
  s.setCapture { s.capture with failures := k }

theorem test_timeout :
    (after .timeout (late 16 3)).capture.port = .failed ∧ (after .timeout (late 15 3)).capture.port = .ready := by
  decide +kernel

theorem test_reach_WritesAndTimeoutsEnd_timeouts :
    (∀ k ∈ [2, 3], (late 16 k).running = true ∧
      (late 16 k).capture.access = some { op := .write someWrite, started := 0 } ∧ (late 16 k).capture.port = .ready ∧
      0 + 16 ≤ (late 16 k).timebase.uptime ∧ (late 16 k).capture.failures = k) := by decide +kernel

/-- A segment to read whose trigger line has a mark. -/
def readable (m : LineMark) : State :=
  setMark 0 0 m ((mapped 0 0 (inState .run idle)).setSegment 0 (some { someSegment with stage := .reading }))

theorem test_readout_line :
    (after .readoutLineStart (readable .held)).capture.access
      = some { op := .readout 0 0 0 true, started := 0 } ∧
    (after .readoutLineStart (readable .void)).link.own.length = 2 := by decide +kernel

/-- A dump whose next line has a mark. -/
def dumpable (m : LineMark) : State := setMark 0 255 m (dumping (inState .frozen idle))

theorem test_dump_line :
    (after .dumpLineStart (dumpable .held)).capture.access = some { op := .dump 255 true, started := 0 } ∧
    (after .dumpLineStart (dumpable .bad)).link.own.length = 2 := by decide +kernel

/-- A segment to read of three lines, the first `n` of which are lost. -/
def losingLines (n : Nat) (m : LineMark) : State :=
  setMark 0 (n % 3) m ((mapped 0 0 (inState .run idle)).setSegment 0 (some
    { someSegment with stage := .reading, written := 3, lost := (List.range n).map Int.ofNat }))

/-- The records a line start makes: offset, cut, END. -/
def traced (s : State) : List (Option Int × Nat × Bool) :=
  s.link.own.map (fun r => match r with
    | .trace x => (x.offset, x.cut, x.isEnd)
    | _ => (none, 0, false))

/-- A lost line is passed over and announced; when all are lost the segment ends at once; a dump's last line ends it. -/
theorem test_lost_lines_passed_over :
    traced (after .readoutLineStart (losingLines 1 .void)) = [(some 1, 1, false)] ∧
    traced (after .readoutLineStart (losingLines 2 .void)) = [(some 2, 2, false), (none, 0, true)] ∧
    traced (after .readoutLineStart (losingLines 3 .held)) = [(none, 3, true)] ∧
    (after .dumpLineStart (dumpable .bad)).capture.dump = none := by decide +kernel

/-- Some lines lost before the one to take, and others after it; all of them lost; a dump with no channel. -/
theorem test_reach_LineStarts_lost :
    (∀ n ∈ [1, 2, 3],
      let g : Segment := { someSegment with stage := .reading, written := 3, lost := (List.range n).map Int.ofNat }
      let s := losingLines n .void
      s.running = true ∧ s.link.fill < 2048 ∧ s.capture.access = none ∧ s.capture.port = .ready ∧
      s.capture.queue = [] ∧ s.run.bypass = false ∧ readingSegment s = some (0, g) ∧
      g.order.drop g.nextPos = (List.range n).map Int.ofNat ++ ([0, 1, 2] : List Int).drop n) ∧
    (let s := dumping (inState .frozen idle)
     (s.setCapture { s.capture with dump := some { channels := [], line := 0, sent := 0, damaged := 0 } }).capture.dump
       = some { channels := [], line := 0, sent := 0, damaged := 0 }) ∧
    (aside idle).run.bypass = true := by decide +kernel

/-- The fill from which no line is started, and the last one below it with each mark. -/
theorem test_reach_LineStarts :
    (2048 ≤ (tallying ([] ++ List.replicate 1024 someNotice)).link.fill ∧ (tallying []).running = true) ∧
    (∀ m ∈ [LineMark.held, .void, .bad], let s := readable m
      s.running = true ∧ s.link.fill < 2048 ∧ s.capture.access = none ∧ s.capture.port = .ready ∧
        s.capture.queue = [] ∧ s.run.bypass = false ∧
        readingSegment s = some (0, { someSegment with stage := .reading }) ∧ someSegment.lost = [] ∧
        ({ someSegment with stage := .reading } : Segment).order[someSegment.nextPos]? = some 0 ∧
        markAt s 0 (lineIndex s.capture.ringLines 0 0) = m) ∧
    (∀ m ∈ [LineMark.held, .void, .bad], let s := dumpable m
      s.running = true ∧ s.link.fill < 2048 ∧ s.capture.access = none ∧ s.capture.port = .ready ∧
        s.capture.queue = [] ∧ s.run.bypass = false ∧
        s.capture.dump = some { channels := [0], line := 0, sent := 0, damaged := 0 } ∧
        markAt s 0 (dumpIndex s 0 0) = m) :=
  ⟨⟨by rw [fill_notices]; simp, by decide +kernel⟩, by decide +kernel, by decide +kernel⟩

/-- The part at uptime 16 with an access since uptime 0 after three failures, a segment READING and a dump in progress. -/
def lastChance (op : AccessOp) : State :=
  let s := accessing op (onTick 16 (dumping (inState .frozen (reading op))))
  s.setCapture { s.capture with failures := 3 }

/-- What the fourth failure tells: the record of the read, the access and the number freed, a closing record, the dump's end. -/
def tellings (s : State) : List Nat :=
  s.link.own.map (fun r => match r with
    | .trace x => if x.isEnd then 2 else 1
    | .notice n => (match n.body with
      | .capture _ _ freed => 10 + freed
      | .dump _ _ stopped => 4 + stopped.toNat
      | _ => 0)
    | _ => 0)

theorem test_fourth_failure :
    tellings (after (.ringWriteComplete .fault) (lastChance (.write someWrite))) = [11, 2, 5] ∧
    tellings (after (.readoutReadComplete .fault) (lastChance (.readout 0 0 0 true))) = [1, 11, 2, 5] ∧
    tellings (after .timeout (lastChance (.dump 0 true))) = [1, 11, 2, 5] := by decide +kernel

theorem test_reach_WritesAndTimeoutsEnd_fourth :
    ∀ op ∈ [AccessOp.write someWrite, .readout 0 0 0 true, .dump 0 true],
      let s := lastChance op
      s.running = true ∧ s.run.bypass = false ∧ s.capture.access = some { op := op, started := 0 } ∧
      s.capture.port = .ready ∧ 3 ≤ s.capture.failures ∧ 0 + 16 ≤ s.timebase.uptime ∧
      s.link.fill + 5 + 3 * 64 ≤ 3584 ∧
      s.capture.segments[(0 : Fin 64)] = some { someSegment with stage := .reading, nextPos := 1 } ∧
      s.capture.dump = some { channels := [0], line := 0, sent := 0, damaged := 0 } := by decide +kernel

/-- What falls due at the next tick: samples, a group's deadline, a slot boundary, the tail end before the order at the head, the
tally timer, and the lines of the readout and the dump. -/
theorem test_commands_fall_due :
    (tick (onTick 5 (quietWith 0))).pending = [.sampleProcessed 0] ∧ (tick (grouped 50199)).pending = [.holdTimerExpiry 1] ∧
    (tick (bounded 4999)).pending = [.rateSlotBoundary] ∧
    (tick (serve (order startKind []) (tailing 899))).pending = [.tailEnd, .start] ∧
    (tick (onTick 699 (tallying []))).pending = [.tallyTimerExpiry] ∧
    (tick (readable .held)).pending = [.readoutLineStart] ∧ (tick (dumpable .held)).pending = [.dumpLineStart] := by
  decide +kernel

/-- A running part with commands due, one with none, and both sides of the end of the settle period. -/
theorem test_reach_EmptyQueueTicks_due :
    (let s := serve (order startKind []) (tailing 899)
     s.pending = [] ∧ s.inReset = false ∧ s.power.settling = false ∧ s.link.intake = [order startKind []] ∧
       s.link.answers.length < 4) ∧
    (idle.pending = [] ∧ idle.inReset = false ∧ idle.power.settling = false ∧ idle.link.intake = []) ∧
    ∀ n ∈ [99998, 99999], (onTick n State.reset).pending = [] ∧ (onTick n State.reset).inReset = false ∧
      (onTick n State.reset).power.settling = true := by decide +kernel

/-! ## Wire formats and invariants -/

/-- The shortest and the longest order and record that a frame carries. -/
theorem test_reach_FramesReadBack :
    ((sample5 0).samples.length = 128) ∧ (65535 < 65536 ∧
      readGaugeFrame (GaugeFrame.bytes { seq := 0, pressure := 65535 }) = some { seq := 0, pressure := 65535 }) ∧
    ((startTo 0).args.length = 16 * 0 ∧ assignFive.args.length = 16 * 1 ∧ (List.replicate 112 0#8).length = 16 * 7) ∧
    (someBody.length = 16 * 1 ∧ (List.replicate (16 * 32) 0#8).length = 16 * 32) := by
  refine ⟨by simp [sample5], by decide +kernel, ⟨rfl, by decide +kernel, by decide +kernel⟩, by decide +kernel, List.length_replicate⟩

/-- A hit's arrival and pressure, the first member of an event and its length with one member, an answer's tag. -/
theorem test_record_layouts :
    fieldAt (Record.body (.hit { hitAt 1 100 with pressure := some 600 })) 6 6 = 100 ∧
    fieldAt (Record.body (.hit { hitAt 1 100 with pressure := some 600 })) 28 2 = 600 ∧
    fieldAt (Record.body (.event { event5 with members := [{ sensor := 2, delay := 30, peak := 40000, sat := true }] })) 50 2
      = 30 ∧
    (Record.body (.event { event5 with members := [{ sensor := 2, delay := 30, peak := 40000, sat := true }] })).length = 64 ∧
    fieldAt someAnswer.body 4 2 = 7 := by decide +kernel

/-- A trace with 16 samples; member and entry lists with a first entry. -/
theorem test_reach_RecordsLaidOut :
    (List.replicate 16 (7#16)).length = 16 ∧
    ([{ sensor := 2, delay := 30, peak := 40000, sat := true }] : List MemberEntry)[0]?
      = some { sensor := 2, delay := 30, peak := 40000, sat := true } ∧
    ([(2, { delay := 30, peak := 40000 })] : List (Fin 32 × TestEntry))[0]? = some (2, { delay := 30, peak := 40000 }) := by
  decide +kernel

theorem idle_within : WithinCapacity idle where
  own := by decide +kernel
  answers := by decide +kernel
  intake := by decide +kernel
  pass := by decide +kernel
  forward := by decide +kernel
  groups := by decide +kernel
  hold := by decide +kernel
  writes := by decide +kernel
  history := by decide +kernel
  members := by decide +kernel
  memberSensors := by decide +kernel

theorem grouped_within : WithinCapacity (grouped 0) where
  own := by decide +kernel
  answers := by decide +kernel
  intake := by decide +kernel
  pass := by decide +kernel
  forward := by decide +kernel
  groups := by decide +kernel
  hold := by decide +kernel
  writes := by decide +kernel
  history := by decide +kernel
  members := by decide +kernel
  memberSensors := by decide +kernel

/-- States with the four invariants, from which a step goes on. -/
theorem test_reach_invariants :
    MemoryCanonical tabled ∧ WithinCapacity idle ∧ TablesLawful tabled ∧ RunLawful (aside idle) ∧
    (aside idle).run.bypass = true ∧ step tabled = .next (tick tabled) ∧ step (aside idle) = .next (tick (aside idle)) ∧
    step idle = .next (tick idle) :=
  ⟨Memory.wf_nil, idle_within, tabled_lawful, ⟨fun _ => ⟨rfl, rfl⟩, fun _ => .inl rfl⟩, rfl, rfl, rfl, rfl⟩

/-- The same with an open group of two members, and with a test in flight. -/
theorem test_reach_invariants_busy :
    WithinCapacity (grouped 0) ∧ (grouped 0).grouping.groups ≠ [] ∧ step (grouped 0) = .next (tick (grouped 0)) ∧
    RunLawful (waitingTest idle) ∧ (waitingTest idle).pulse.test ≠ .none ∧
    step (waitingTest idle) = .next (tick (waitingTest idle)) :=
  ⟨grouped_within, by decide +kernel, rfl, ⟨fun h => absurd h (by decide +kernel), fun _ => .inl rfl⟩, by decide +kernel, rfl⟩

end Sys2Proof.Tests
end

