-- ==== Sys2Proof/Proofs/SourceLocation.lean ====
section
/-! The location unit (chapter 6): what the pair lookup gives, and what `locate` gives in each of its cases. -/

namespace Sys2Proof.Machine

/-! ## The pair lookup (R102) -/

theorem mem_table_iff {α : Type} {n : Nat} (t : Vector α n) (x : α) : x ∈ t.toList ↔ ∃ i : Fin n, t[i] = x := by
  rw [Vector.mem_toList_iff, Vector.mem_iff_getElem]
  exact ⟨fun ⟨i, hi, h⟩ => ⟨⟨i, hi⟩, h⟩, fun ⟨i, h⟩ => ⟨i.val, i.isLt, h⟩⟩

theorem slot_of_pairEntry {t : Vector (Option PairEntry) 512} {f n : Fin 32} {e : PairEntry}
    (h : pairEntry t f n = some e) : ∃ i : Fin 512, t[i] = some e ∧ e.first = f ∧ e.second = n := by
  obtain ⟨slot, hmem, hslot⟩ := List.exists_of_findSome?_eq_some h
  obtain ⟨i, hi⟩ := (mem_table_iff t slot).1 hmem
  simp only [Option.filter_eq_some_iff, Bool.and_eq_true, beq_iff_eq] at hslot
  obtain ⟨rfl, hfirst, hsecond⟩ := hslot
  exact ⟨i, hi, hfirst, hsecond⟩

theorem pairEntry_isSome_of_slot {t : Vector (Option PairEntry) 512} {i : Fin 512} {e : PairEntry}
    (h : t[i] = some e) : (pairEntry t e.first e.second).isSome = true := by
  unfold pairEntry
  rw [List.findSome?_isSome_iff]
  exact ⟨some e, (mem_table_iff t _).2 ⟨i, h⟩, by simp⟩

/-- In a lawful table the slot with a key is the only one, so which slot the search meets first does not matter. -/
theorem pairEntry_eq_some_iff {s : State} (hs : TablesLawful s) (f n : Fin 32) (e : PairEntry) :
    pairEntry s.pairs f n = some e ↔ ∃ i : Fin 512, s.pairs[i] = some e ∧ e.first = f ∧ e.second = n := by
  refine ⟨slot_of_pairEntry, ?_⟩
  rintro ⟨i, hi, rfl, rfl⟩
  obtain ⟨x, hx⟩ := Option.isSome_iff_exists.1 (pairEntry_isSome_of_slot hi)
  obtain ⟨j, hj, hfirst, hsecond⟩ := slot_of_pairEntry hx
  have hji : j = i := hs.keys j i x e hj hi hfirst hsecond
  have hxe : some x = some e := by rw [← hj, ← hi, hji]
  rw [hx, hxe]

theorem PairEntry.cellAt_eq_some_iff (e : PairEntry) (delay : Nat) (cell : Fin 1024) :
    e.cellAt delay = some cell ↔ delay / e.binWidth < e.binCount ∧ e.cells[delay / e.binWidth]? = some (some cell) := by
  unfold PairEntry.cellAt
  split
  · next hbin =>
    rw [List.getD_eq_getElem?_getD]
    cases e.cells[delay / e.binWidth]? <;> simp [hbin]
  · next hbin => simp [hbin]

/-- The three conditions of R102. -/
theorem pairLookup_eq_some_iff {s : State} (hs : TablesLawful s) (f n : Fin 32) (delay : Nat) (cell : Fin 1024) :
    pairLookup s.pairs f n delay = some cell ↔
      ∃ (i : Fin 512) (e : PairEntry), s.pairs[i] = some e ∧ e.first = f ∧ e.second = n ∧
        delay / e.binWidth < e.binCount ∧ e.cells[delay / e.binWidth]? = some (some cell) := by
  simp only [pairLookup, Option.bind_eq_some_iff, pairEntry_eq_some_iff hs, PairEntry.cellAt_eq_some_iff]
  constructor
  · rintro ⟨e, ⟨i, hslot, hfirst, hsecond⟩, hcell⟩
    exact ⟨i, e, hslot, hfirst, hsecond, hcell⟩
  · rintro ⟨i, e, hslot, hfirst, hsecond, hcell⟩
    exact ⟨e, ⟨i, hslot, hfirst, hsecond⟩, hcell⟩

/-! ## The location of a group (R100 to R105) -/

theorem splitVote_iff (t : Vector (Option PairEntry) 512) (anchor : Tick) (f : HitRecord) (third : Option HitRecord)
    (cell : Fin 1024) :
    splitVote t anchor f third cell = true ↔
      ∃ (m : HitRecord) (other : Fin 1024), third = some m ∧
        pairLookup t f.sensor m.sensor (ticksFrom anchor m.arrival) = some other ∧ cell ≠ other := by
  cases third with
  | none => simp [splitVote]
  | some m =>
    cases hother : pairLookup t f.sensor m.sensor (ticksFrom anchor m.arrival) with
    | none => simp [splitVote, hother]
    | some other => simpa [splitVote, hother] using ne_comm

theorem zoneOf_eq (s : State) (c : Fin 32) :
    zoneOf s c =
      { method := if s.channels[c].homeCell.isSome then .zone else .none
        cell := s.channels[c].homeCell
        splitvote := false } := by
  unfold zoneOf
  cases s.channels[c].homeCell <;> rfl

theorem zoneOf_method_ne_pair (s : State) (c : Fin 32) : (zoneOf s c).method ≠ .pair := by
  rw [zoneOf_eq]
  dsimp only
  split <;> simp

theorem zoneOf_splitvote (s : State) (c : Fin 32) : (zoneOf s c).splitvote = false := by rw [zoneOf_eq]

theorem locate_of_few {s : State} {g : Group} (h : g.members.length < s.grouping.minMembers) :
    locate s g = { method := .none, cell := none, splitvote := false } := by
  simp [locate, h]

section
variable {s : State} {g : Group} {f n : HitRecord} {rest : List HitRecord}

theorem locate_of_cell (hg : g.members = f :: n :: rest) (hm : s.grouping.minMembers ≤ g.members.length) {cell : Fin 1024}
    (h : pairLookup s.pairs f.sensor n.sensor (ticksFrom g.anchor n.arrival) = some cell) :
    locate s g =
      { method := .pair, cell := some cell, splitvote := splitVote s.pairs g.anchor f rest.head? cell } := by
  rw [locate, if_neg (Nat.not_lt.2 hm)]
  simp only [hg, h]

theorem locate_of_no_cell (hg : g.members = f :: n :: rest) (hm : s.grouping.minMembers ≤ g.members.length)
    (h : pairLookup s.pairs f.sensor n.sensor (ticksFrom g.anchor n.arrival) = none) :
    locate s g = zoneOf s f.channel := by
  rw [locate, if_neg (Nat.not_lt.2 hm)]
  simp only [hg, h]

theorem locate_pair_iff (hg : g.members = f :: n :: rest) (hm : s.grouping.minMembers ≤ g.members.length)
    (cell : Fin 1024) :
    ((locate s g).method = .pair ∧ (locate s g).cell = some cell) ↔
      pairLookup s.pairs f.sensor n.sensor (ticksFrom g.anchor n.arrival) = some cell := by
  cases h : pairLookup s.pairs f.sensor n.sensor (ticksFrom g.anchor n.arrival) with
  | none => simp [locate_of_no_cell hg hm h, zoneOf_method_ne_pair]
  | some found => simp [locate_of_cell hg hm h]

theorem locate_pair_cell (hg : g.members = f :: n :: rest) (hm : s.grouping.minMembers ≤ g.members.length)
    (hpair : (locate s g).method = .pair) : (locate s g).cell.isSome = true := by
  cases h : pairLookup s.pairs f.sensor n.sensor (ticksFrom g.anchor n.arrival) with
  | none => exact absurd (locate_of_no_cell hg hm h ▸ hpair) (zoneOf_method_ne_pair s f.channel)
  | some found => rw [locate_of_cell hg hm h]; rfl

theorem locate_of_not_pair (hg : g.members = f :: n :: rest) (hm : s.grouping.minMembers ≤ g.members.length)
    (hpair : (locate s g).method ≠ .pair) : locate s g = zoneOf s f.channel := by
  cases h : pairLookup s.pairs f.sensor n.sensor (ticksFrom g.anchor n.arrival) with
  | none => exact locate_of_no_cell hg hm h
  | some found => exact absurd (by rw [locate_of_cell hg hm h]) hpair

theorem locate_splitvote_iff (hg : g.members = f :: n :: rest) (hm : s.grouping.minMembers ≤ g.members.length) :
    (locate s g).splitvote = true ↔ (locate s g).method = .pair ∧
      ∃ (m : HitRecord) (other : Fin 1024), rest.head? = some m ∧
        pairLookup s.pairs f.sensor m.sensor (ticksFrom g.anchor m.arrival) = some other ∧
        (locate s g).cell ≠ some other := by
  cases h : pairLookup s.pairs f.sensor n.sensor (ticksFrom g.anchor n.arrival) with
  | none => simp [locate_of_no_cell hg hm h, zoneOf_method_ne_pair, zoneOf_splitvote]
  | some cell => simp [locate_of_cell hg hm h, splitVote_iff]

end

/-- Settles O19: each lookup of `locate` is replaced by the three conditions of R102. -/
theorem pairLookupFindsCell : Obligations.PairLookupFindsCell := by
  refine ⟨fun s g f n rest cell hs hg hm => ⟨?pair, locate_pair_cell hg hm, ?zone, ?vote⟩, fun s g => locate_of_few⟩
  case pair => rw [locate_pair_iff hg hm, pairLookup_eq_some_iff hs]
  case zone =>
    intro hpair
    rw [locate_of_not_pair hg hm hpair, zoneOf_eq]
    exact ⟨rfl, rfl⟩
  case vote =>
    rw [locate_splitvote_iff hg hm]
    simp only [pairLookup_eq_some_iff hs]
    refine and_congr_right fun _ => exists_congr fun m => ?_
    constructor
    · rintro ⟨other, hthird, ⟨i, e, hslot, hfirst, hsecond, hbin, hcell⟩, hother⟩
      exact ⟨i, e, other, hthird, hslot, hfirst, hsecond, hbin, hcell, hother⟩
    · rintro ⟨i, e, other, hthird, hslot, hfirst, hsecond, hbin, hcell, hother⟩
      exact ⟨other, hthird, ⟨i, e, hslot, hfirst, hsecond, hbin, hcell⟩, hother⟩

end Sys2Proof.Machine
end

