-- ==== Sys2Proof/Proofs/PairWrite.lean ====
section
/-! WRITE of PAIR (R98, R99): the value the contents spell, the refusal list, and the slot that is replaced. -/

namespace Sys2Proof.Machine

/-! ## Reading the written contents (R194) -/

theorem index?_eq_some_iff {n k : Nat} {i : Fin n} : index? n k = some i ↔ k = i.val := by
  unfold index?
  split
  · simp [Fin.ext_iff]
  · next hk => exact ⟨fun h => absurd h (by simp), fun h => absurd (h ▸ i.isLt) hk⟩

theorem index?_eq_none_iff {n k : Nat} : index? n k = none ↔ n ≤ k := by simp [index?]

theorem within_iff (a b v : Nat) : within a b v = true ↔ a ≤ v ∧ v ≤ b := by simp [within]

theorem option_mapM_eq_none_iff {α β : Type} (f : α → Option β) (l : List α) :
    l.mapM f = none ↔ ∃ a ∈ l, f a = none := by
  induction l with
  | nil => simp
  | cons a l ih =>
    cases ha : f a with
    | none => simp [ha]
    | some b => cases hl : l.mapM f <;> simp [ha, hl, ← ih]

theorem option_mapM_eq_some_iff {α β : Type} (f : α → Option β) (l : List α) (l' : List β) :
    l.mapM f = some l' ↔ l.map f = l'.map some := by
  induction l generalizing l' with
  | nil => cases l' <;> simp
  | cons a l ih =>
    cases l' with
    | nil => cases ha : f a <;> cases hl : l.mapM f <;> simp [ha, hl]
    | cons b l' => cases ha : f a <;> simp [ha, ← ih, Option.bind_eq_some_iff, and_comm]

theorem positionOf_eq_none_iff (v : Nat) : positionOf v = none ↔ 1024 ≤ v ∧ v ≠ 65535 := by
  unfold positionOf
  split
  · next h => simp [h]
  · next h => simp [index?_eq_none_iff, h]

theorem positionOf_value {v : Nat} {p : Option (Fin 1024)} (h : positionOf v = some p) :
    p.map Fin.val = if v = 65535 then none else some v := by
  unfold positionOf at h
  split at h
  · next hnone => simp [← Option.some.inj h, hnone]
  · next hcell =>
    obtain ⟨i, hi, rfl⟩ := Option.map_eq_some_iff.1 h
    rw [if_neg hcell, index?_eq_some_iff.1 hi]
    rfl

theorem positionsOf_eq_none_iff (l : List Byte) (n : Nat) :
    positionsOf l n = none ↔ ∃ k : Nat, k < n ∧ 1024 ≤ fieldAt l (5 + 2 * k) 2 ∧ fieldAt l (5 + 2 * k) 2 ≠ 65535 := by
  simp [positionsOf, option_mapM_eq_none_iff, positionOf_eq_none_iff]

theorem positionsOf_length {l : List Byte} {n : Nat} {cells : List (Option (Fin 1024))}
    (h : positionsOf l n = some cells) : cells.length = n := by
  have := congrArg List.length ((option_mapM_eq_some_iff _ _ _).1 h)
  simpa using this.symm

theorem positionsOf_get {l : List Byte} {n k : Nat} {cells : List (Option (Fin 1024))} {p : Option (Fin 1024)}
    (h : positionsOf l n = some cells) (hp : cells[k]? = some p) :
    p.map Fin.val = if fieldAt l (5 + 2 * k) 2 = 65535 then none else some (fieldAt l (5 + 2 * k) 2) := by
  have hk : k < n := positionsOf_length h ▸ (List.getElem?_eq_some_iff.1 hp).1
  have hget := congrArg (·[k]?) ((option_mapM_eq_some_iff _ _ _).1 h)
  simp only [List.getElem?_map, List.getElem?_range hk, hp, Option.map_some, Option.some.injEq] at hget
  exact positionOf_value hget

theorem keyFree_iff (l : List Byte) : keyFree l = true ↔ fieldAt l 0 1 = 255 ∧ fieldAt l 1 1 = 255 := by
  simp [keyFree]

theorem pairOf_eq_none_iff (l : List Byte) :
    pairOf l = none ↔
      32 ≤ fieldAt l 0 1 ∨ 32 ≤ fieldAt l 1 1 ∨ fieldAt l 0 1 = fieldAt l 1 1 ∨ fieldAt l 2 2 < 1 ∨
        4096 < fieldAt l 2 2 ∨ fieldAt l 4 1 < 1 ∨ 32 < fieldAt l 4 1 ∨
        ∃ k : Nat, k < fieldAt l 4 1 ∧ 1024 ≤ fieldAt l (5 + 2 * k) 2 ∧ fieldAt l (5 + 2 * k) 2 ≠ 65535 := by
  rw [← positionsOf_eq_none_iff]
  unfold pairOf
  cases hf : index? 32 (fieldAt l 0 1) with
  | none => simp [index?_eq_none_iff.1 hf]
  | some f =>
    cases hn : index? 32 (fieldAt l 1 1) with
    | none => simp [index?_eq_none_iff.1 hn]
    | some n =>
      rw [index?_eq_some_iff.1 hf, index?_eq_some_iff.1 hn]
      have hlt := f.isLt
      have hlt' := n.isLt
      cases positionsOf l (fieldAt l 4 1) with
      | none => simp
      | some cells =>
        simp only [ne_eq, within_iff, Option.map_some, ite_eq_right_iff, reduceCtorEq, imp_false, or_false, Fin.ext_iff]
        omega

theorem pairOf_of_inRange {l : List Byte} {f n : Fin 32} (hf : f.val = fieldAt l 0 1) (hn : n.val = fieldAt l 1 1)
    (h : pairOf l ≠ none) :
    ∃ cells, positionsOf l (fieldAt l 4 1) = some cells ∧ pairOf l = some
      { first := f, second := n, binWidth := fieldAt l 2 2, binCount := fieldAt l 4 1, cells := cells } := by
  have hf' : index? 32 (fieldAt l 0 1) = some f := index?_eq_some_iff.2 hf.symm
  have hn' : index? 32 (fieldAt l 1 1) = some n := index?_eq_some_iff.2 hn.symm
  simp only [pairOf, hf', hn'] at h ⊢
  split at h
  · next hr =>
    rw [if_pos hr]
    cases hc : positionsOf l (fieldAt l 4 1) with
    | none => simp [hc] at h
    | some cells => exact ⟨cells, rfl, rfl⟩
  · exact absurd rfl h

/-! ## The last two conditions of R98 -/

theorem pairOutOfRange_iff {e : IntakeEntry} (hlen : 73 ≤ e.order.args.length) :
    pairOutOfRange e = true ↔ keyFree e.order.contents = false ∧ pairOf e.order.contents = none := by
  simp [pairOutOfRange, Order.short, hlen]

theorem pairDuplicate_free {e : IntakeEntry} (s : State) (hfree : keyFree e.order.contents = true) :
    pairDuplicate e s = false := by
  simp [pairDuplicate, hfree]

theorem pairDuplicate_iff {e : IntakeEntry} {s : State} {i : Fin 512} {x : PairEntry}
    (hkey : keyFree e.order.contents = false) (hi : e.order.index = i.val) (hx : pairOf e.order.contents = some x) :
    pairDuplicate e s = true ↔
      ∃ j : Fin 512, j ≠ i ∧ ∃ y, s.pairs[j] = some y ∧ y.first = x.first ∧ y.second = x.second := by
  simp only [pairDuplicate, hkey, hx, hi, Bool.false_eq_true, if_false, List.any_eq_true, List.mem_finRange, true_and,
    Bool.and_eq_true, Bool.not_eq_true', beq_eq_false_iff_ne, ← Fin.ext_iff, ne_eq]
  refine exists_congr fun j => and_congr_right fun _ => ?_
  cases s.pairs[j] <;> simp

/-! ## The execution of an item's WRITE -/

section
variable {code : Nat} {conditions : IntakeEntry → State → List (Bool × Reason)} {effect : IntakeEntry → State → State}
  {s : State} {e : IntakeEntry} {rest : List IntakeEntry}

theorem writeItem_refused (h : Serves s e rest) (hw : WritesItem code e) {r : Reason}
    (hr : firstReason ((noItem e.order.item e.order.index, .noItem) :: (s.run.bypass, .state) ::
      conditions e (s.headTaken rest)) = some r) :
    writeItem code conditions effect s = .next (refusedState s e rest r) :=
  congrArg Host.Outcome.next (executeOrder_refused h ((writes_iff code e).2 hw) hr)

theorem writeItem_done (h : Serves s e rest) (hw : WritesItem code e)
    (hr : firstReason ((noItem e.order.item e.order.index, .noItem) :: (s.run.bypass, .state) ::
      conditions e (s.headTaken rest)) = none) :
    writeItem code conditions effect s = .next (doneState e (effect e (s.headTaken rest))) :=
  congrArg Host.Outcome.next (executeOrder_done h ((writes_iff code e).2 hw) hr)

end

/-! ## The row PAIR_WRITE -/

/-- The reason with which R98 refuses a WRITE of PAIR, in the order of its conditions. -/
def pairReason (e : IntakeEntry) (s : State) : Option Reason :=
  firstReason
    [(noItem e.order.item e.order.index, .noItem), (s.run.bypass, .state), (s.notIdle, .state),
     (pairOutOfRange e, .range), (pairDuplicate e s, .duplicate)]

theorem notIdle_iff (s : State) : s.notIdle = true ↔ s.run.state ≠ .idle := by simp [State.notIdle]

section
variable {s : State} {e : IntakeEntry} {rest : List IntakeEntry}

theorem exec_pairWrite_refused (h : Serves s e rest) (hw : WritesItem pairItem e) {r : Reason}
    (hr : pairReason e s = some r) : exec .pairWrite s = .next (refusedState s e rest r) :=
  writeItem_refused h hw hr

theorem exec_pairWrite_done (h : Serves s e rest) (hw : WritesItem pairItem e) (hr : pairReason e s = none) :
    exec .pairWrite s = .next (doneState e (writePair e (s.headTaken rest))) :=
  writeItem_done h hw hr

theorem noItem_pair_iff (hw : WritesItem pairItem e) :
    noItem e.order.item e.order.index = true ↔ 512 ≤ e.order.index := by
  obtain ⟨-, -, hitem⟩ := hw
  simp [hitem, noItem, pairItem, itemSize]

theorem pairReason_noItem (hw : WritesItem pairItem e) (hi : 512 ≤ e.order.index) :
    pairReason e s = some .noItem :=
  firstReason_holds _ _ ((noItem_pair_iff hw).2 hi)

variable {i : Fin 512} {x : PairEntry}

/-- A slot that exists passes order 1. -/
theorem pairReason_of_slot (hw : WritesItem pairItem e) (hi : e.order.index = i.val) :
    pairReason e s = firstReason
      [(s.run.bypass, .state), (s.notIdle, .state), (pairOutOfRange e, .range), (pairDuplicate e s, .duplicate)] :=
  firstReason_skips _ _ (Bool.eq_false_iff.2 fun h => by
    have := (noItem_pair_iff hw).1 h
    omega)

theorem pairReason_state (hw : WritesItem pairItem e) (hi : e.order.index = i.val)
    (h : s.run.bypass = true ∨ s.run.state ≠ .idle) : pairReason e s = some .state := by
  rw [pairReason_of_slot hw hi]
  cases hb : s.run.bypass with
  | true => exact firstReason_holds _ _ rfl
  | false =>
    have hstate : s.run.state ≠ .idle := h.resolve_left (by simp [hb])
    rw [firstReason_skips _ _ rfl]
    exact firstReason_holds _ _ ((notIdle_iff s).2 hstate)

/-- In IDLE outside bypass the contents decide. -/
theorem pairReason_of_idle (hw : WritesItem pairItem e) (hi : e.order.index = i.val) (hb : s.run.bypass = false)
    (hstate : s.run.state = .idle) :
    pairReason e s = firstReason [(pairOutOfRange e, .range), (pairDuplicate e s, .duplicate)] := by
  have hidle : s.notIdle = false := Bool.eq_false_iff.2 fun h => (notIdle_iff s).1 h hstate
  rw [pairReason_of_slot hw hi, firstReason_skips _ _ hb, firstReason_skips _ _ hidle]

theorem contentReason_free (s : State) (hlen : 73 ≤ e.order.args.length) (hfree : keyFree e.order.contents = true) :
    firstReason [(pairOutOfRange e, .range), (pairDuplicate e s, .duplicate)] = none := by
  have hrange : pairOutOfRange e = false := by simp [← Bool.not_eq_true, pairOutOfRange_iff hlen, hfree]
  rw [firstReason_skips _ _ hrange, firstReason_skips _ _ (pairDuplicate_free s hfree), firstReason_nil]

theorem contentReason_range (s : State) (hlen : 73 ≤ e.order.args.length) (hkey : keyFree e.order.contents = false)
    (hx : pairOf e.order.contents = none) :
    firstReason [(pairOutOfRange e, .range), (pairDuplicate e s, .duplicate)] = some .range :=
  firstReason_holds _ _ ((pairOutOfRange_iff hlen).2 ⟨hkey, hx⟩)

theorem contentReason_entry (s : State) (hlen : 73 ≤ e.order.args.length) (hx : pairOf e.order.contents = some x) :
    firstReason [(pairOutOfRange e, .range), (pairDuplicate e s, .duplicate)] =
      if pairDuplicate e s then some .duplicate else none := by
  have hrange : pairOutOfRange e = false := by simp [← Bool.not_eq_true, pairOutOfRange_iff hlen, hx]
  rw [firstReason_skips _ _ hrange, firstReason, firstReason_nil]

theorem writePair_free (hi : e.order.index = i.val) (hfree : keyFree e.order.contents = true) :
    writePair e s = s.setPairs (put s.pairs i none) := by
  simp only [writePair, index?_eq_some_iff.2 hi, hfree, if_true]

theorem writePair_entry (hi : e.order.index = i.val) (hkey : keyFree e.order.contents = false)
    (hx : pairOf e.order.contents = some x) : writePair e s = s.setPairs (put s.pairs i (some x)) := by
  simp only [writePair, index?_eq_some_iff.2 hi, hkey, hx, Bool.false_eq_true, if_false]

theorem exec_pairWrite_duplicate (h : Serves s e rest) (hw : WritesItem pairItem e)
    (hr : pairReason e s = if pairDuplicate e s then some .duplicate else none) (hi : e.order.index = i.val)
    (hkey : keyFree e.order.contents = false) (hx : pairOf e.order.contents = some x)
    (hother : ∃ j : Fin 512, j ≠ i ∧ ∃ y, s.pairs[j] = some y ∧ y.first = x.first ∧ y.second = x.second) :
    exec .pairWrite s = .next (refusedState s e rest .duplicate) :=
  exec_pairWrite_refused h hw (hr.trans (if_pos ((pairDuplicate_iff hkey hi hx).2 hother)))

theorem exec_pairWrite_entry (h : Serves s e rest) (hw : WritesItem pairItem e)
    (hr : pairReason e s = if pairDuplicate e s then some .duplicate else none) (hi : e.order.index = i.val)
    (hkey : keyFree e.order.contents = false) (hx : pairOf e.order.contents = some x)
    (hunique : ∀ j : Fin 512, j ≠ i → ∀ y, s.pairs[j] = some y → ¬ (y.first = x.first ∧ y.second = x.second)) :
    exec .pairWrite s = .next (doneState e ((s.headTaken rest).setPairs (put s.pairs i (some x)))) := by
  have hno : ¬ pairDuplicate e s = true := fun hdup => by
    obtain ⟨j, hj, y, hy, hsame⟩ := (pairDuplicate_iff hkey hi hx).1 hdup
    exact hunique j hj y hy hsame
  rw [exec_pairWrite_done h hw (hr.trans (if_neg hno)), writePair_entry hi hkey hx]
  rfl

end

/-- Settles O28: the refusal list of R98 is read from its front, and a WRITE that passes it leaves the slot of R99. -/
theorem pairWriteReplacesSlot : Obligations.PairWriteReplacesSlot := by
  intro s e rest hs hw hlen l
  refine ⟨fun hi => exec_pairWrite_refused hs hw (pairReason_noItem hw hi), fun i hi => ⟨fun hstate =>
    exec_pairWrite_refused hs hw (pairReason_state hw hi hstate), fun hb hstate => ?idle⟩⟩
  have hreason := pairReason_of_idle hw hi hb hstate
  refine ⟨fun hfirst hsecond => ?free, fun hkey => ?key⟩
  case free =>
    have hfree : keyFree e.order.contents = true := (keyFree_iff l).2 ⟨hfirst, hsecond⟩
    rw [exec_pairWrite_done hs hw (hreason.trans (contentReason_free s hlen hfree)), writePair_free hi hfree]
    rfl
  case key =>
    have hkey' : keyFree e.order.contents = false := Bool.eq_false_iff.2 fun h => hkey ((keyFree_iff l).1 h)
    refine ⟨fun hbad => ?range, fun hgood f n hf hn => ?inRange⟩
    case range =>
      have hnone : pairOf e.order.contents = none := (pairOf_eq_none_iff l).2 hbad
      exact exec_pairWrite_refused hs hw (hreason.trans (contentReason_range s hlen hkey' hnone))
    case inRange =>
      obtain ⟨cells, hcells, hx⟩ := pairOf_of_inRange hf hn fun h => hgood ((pairOf_eq_none_iff l).1 h)
      have hentry := hreason.trans (contentReason_entry s hlen hx)
      exact ⟨exec_pairWrite_duplicate hs hw hentry hi hkey' hx, fun hunique =>
        ⟨cells, exec_pairWrite_entry hs hw hentry hi hkey' hx hunique, positionsOf_length hcells,
          fun _ _ => positionsOf_get hcells⟩⟩

end Sys2Proof.Machine
end

