-- ==== Sys2Proof/Proofs/RateSlot.lean ====
section
/-! The rate slot timer (R113, R118): its length and next boundary, and the WRITE, READ, START and slot boundary that use them. -/

namespace Sys2Proof.Machine

/-! ## The rate slot timer, which the work on cells leaves alone -/

/-- The rate slot length and the tick of the next boundary. -/
def State.slotTimer (s : State) : Nat × Option Tick := (s.cells.slotLength, s.cells.boundary)

theorem slotLength_of_slotTimer {s : State} {n : Nat} {b : Option Tick} (h : s.slotTimer = (n, b)) :
    s.cells.slotLength = n := congrArg Prod.fst h

theorem boundary_of_slotTimer {s : State} {n : Nat} {b : Option Tick} (h : s.slotTimer = (n, b)) :
    s.cells.boundary = b := congrArg Prod.snd h

theorem changeAlarm_slotTimer (n : Fin 1024) (c : Cell) (a : Alarm) (k : Option CellCause) (s : State) :
    (changeAlarm n c a k s).slotTimer = s.slotTimer := by
  cases k with
  | none => rfl
  | some k => exact notify_same (g := State.slotTimer) ⟨fun _ _ => rfl⟩ _ _

theorem startCells_slotTimer (s : State) : (startCells s).slotTimer = s.slotTimer :=
  forEach_same State.slotTimer _ _ (fun _ _ => changeAlarm_slotTimer _ _ _ _ _) s

theorem decayCell_slotTimer (n : Fin 1024) (s : State) : (decayCell n s).slotTimer = s.slotTimer := by
  unfold decayCell
  dsimp only
  split
  · exact changeAlarm_slotTimer _ _ _ _ _
  · rfl

theorem shiftSlots_slotTimer (s : State) : (shiftSlots s).slotTimer = s.slotTimer :=
  forEach_same State.slotTimer _ _ decayCell_slotTimer _

/-- START between its work on the cells and its work on the detectors (R161), the rate slot timer last. -/
def startBlocks (s : State) : State :=
  let s2 := s.setGrouping { s.grouping with counter := 0, lastClosed := none }
  let s3 := s2.setTracker s2.tracker.start
  let s4 := s3.setRun { s3.run with cause := none, burstTick := none, state := .run }
  s4.setCells { s4.cells with boundary := some (tickAdd s4.timebase.counter s4.cells.slotLength) }

theorem startRun_eq (s : State) :
    startRun s = forEach allChannels makeLive (startBlocks (startCells (startCapture s))) := rfl

theorem startBlocks_slotTimer (s : State) :
    (startBlocks s).slotTimer = (s.cells.slotLength, some (tickAdd s.timebase.counter s.cells.slotLength)) := rfl

/-- The capture unit, the cells and the detectors leave the timer to step 6 of R161. -/
theorem startRun_slotTimer (s : State) :
    (startRun s).slotTimer = (s.cells.slotLength, some (tickAdd s.timebase.counter s.cells.slotLength)) := by
  have htimer : (startCells (startCapture s)).slotTimer = s.slotTimer :=
    (startCells_slotTimer _).trans (startCapture_same ⟨⟨fun _ _ => rfl⟩, fun _ _ => rfl⟩ s)
  have hbase : (startCells (startCapture s)).timebase = s.timebase :=
    (startCells_same (g := State.timebase) ⟨⟨fun _ _ => rfl⟩, fun _ _ => rfl⟩ _).trans
      (startCapture_same ⟨⟨fun _ _ => rfl⟩, fun _ _ => rfl⟩ s)
  rw [startRun_eq, forEach_same State.slotTimer _ _ (makeLive_same (fun _ _ => rfl) (fun _ _ => rfl)),
    startBlocks_slotTimer, hbase, slotLength_of_slotTimer htimer]

theorem doneState_slotTimer (e : IntakeEntry) (s : State) : (doneState e s).slotTimer = s.slotTimer := rfl

theorem slotBoundary_boundary {s : State} {b : Tick} (hb : s.cells.boundary = some b) :
    (slotBoundary s).cells.boundary = some (tickAdd b s.cells.slotLength) := by
  have htimer := shiftSlots_slotTimer s
  simp [slotBoundary, boundary_of_slotTimer htimer, slotLength_of_slotTimer htimer, hb]

/-! ## The row RATE_SLOT_BOUNDARY -/

theorem whileRunning_of_running {s : State} (h : s.running = true) (f : State → State) : whileRunning f s = f s :=
  if_pos h

theorem exec_rateSlotBoundary_due {s : State} {b : Tick} (h : s.running = true) (hb : s.cells.boundary = some b)
    (hreached : atOrAfter s.timebase.counter b = true) :
    exec .rateSlotBoundary s = .next (slotBoundary s) := by
  have hdue : s.expired s.cells.boundary = true := by rw [hb]; exact hreached
  exact congrArg Host.Outcome.next ((whileRunning_of_running h _).trans (if_pos hdue))

/-! ## The orders that use the rate slot length -/

theorem notIdle_of_idle {s : State} (h : s.run.state = .idle) : s.notIdle = false :=
  Bool.eq_false_iff.2 fun hn => (notIdle_iff s).1 hn h

theorem unmapped_of_mapped {s : State} (h : ∃ c : Fin 32, s.sensorMap[c] ≠ none) : s.unmapped = false := by
  obtain ⟨c, hc⟩ := h
  refine List.all_eq_false.2 ⟨c, List.mem_finRange c, ?_⟩
  simpa using hc

theorem isWaiting_of_ne_waiting {t : TestState} (h : ∀ i n, t ≠ .waiting i n) : t.isWaiting = false := by
  cases t with
  | none => rfl
  | waiting i n => exact absurd rfl (h i n)
  | window i f => rfl

theorem noItem_rateSlot (idx : Nat) : noItem rateSlotItem idx = decide (idx ≠ 0) := by
  simp [noItem, rateSlotItem, itemSize]

/-- The reason with which a WRITE of RATE-SLOT is refused, in the order of its conditions (R113, R187). -/
def rateSlotReason (e : IntakeEntry) (s : State) : Option Reason :=
  firstReason
    [(noItem e.order.item e.order.index, .noItem), (s.run.bypass, .state), (s.notIdle, .state),
     (e.order.short 8 || !(within 500000 50000000 (fieldAt e.order.contents 0 4)), .range)]

section
variable {s : State} {e : IntakeEntry} {rest : List IntakeEntry}

theorem rateSlotOutOfRange_iff (hlen : 8 ≤ e.order.args.length) :
    (e.order.short 8 || !(within 500000 50000000 (fieldAt e.order.contents 0 4))) = true ↔
      fieldAt e.order.contents 0 4 < 500000 ∨ 50000000 < fieldAt e.order.contents 0 4 := by
  rw [← not_iff_not]
  simp [Order.short, hlen, within_iff]

theorem rateSlotReason_eq (hw : WritesItem rateSlotItem e) (hlen : 8 ≤ e.order.args.length) :
    rateSlotReason e s =
      if e.order.index ≠ 0 then some .noItem
      else if s.run.bypass = true then some .state
      else if s.run.state ≠ .idle then some .state
      else if fieldAt e.order.contents 0 4 < 500000 ∨ 50000000 < fieldAt e.order.contents 0 4 then some .range
      else none := by
  obtain ⟨-, -, hitem⟩ := hw
  simp only [rateSlotReason, firstReason, hitem, noItem_rateSlot, decide_eq_true_eq, notIdle_iff,
    rateSlotOutOfRange_iff hlen]

theorem exec_rateSlotWrite_eq (h : Serves s e rest) (hw : WritesItem rateSlotItem e) :
    exec .rateSlotWrite s = .next ((rateSlotReason e s).elim
      (doneState e ((s.headTaken rest).setCells { s.cells with slotLength := fieldAt e.order.contents 0 4 }))
      (refusedState s e rest)) := by
  cases hr : rateSlotReason e s with
  | none => exact writeItem_done h hw hr
  | some r => exact writeItem_refused h hw hr

theorem exec_read_done (h : Serves s e rest) (hk : TakenAs readKind e) (hlen : 4 ≤ e.order.args.length)
    (hitem : noItem e.order.item e.order.index = false) :
    exec .read s = .next (placeAnswer e.order none
      (itemContents (s.headTaken rest) e.order.item e.order.index) (s.headTaken rest)) := by
  have hshort : e.order.short 4 = false := by simp [Order.short, hlen]
  have hreason : firstReason [(e.order.short 4, .range), (noItem e.order.item e.order.index, .noItem)] = none := by
    rw [firstReason_skips _ _ hshort, firstReason_skips _ _ hitem, firstReason_nil]
  exact congrArg Host.Outcome.next (execute_done h ((taken_iff readKind e).2 hk) hreason)

theorem exec_read_rateSlot (h : Serves s e rest) (hk : TakenAs readKind e) (hlen : 4 ≤ e.order.args.length)
    (hitem : e.order.item = rateSlotItem) (hi : e.order.index = 0) :
    exec .read s = .next (placeAnswer e.order none (be 4 s.cells.slotLength) (s.headTaken rest)) := by
  have hno : noItem e.order.item e.order.index = false := by simp [hitem, hi, noItem_rateSlot]
  rw [exec_read_done h hk hlen hno, hitem, hi]
  rfl

/-- A START that none of the conditions of R160 refuses. -/
theorem exec_start_done (h : Serves s e rest) (hk : TakenAs startKind e) (hb : s.run.bypass = false)
    (hstate : s.run.state = .idle) (hset : s.timebase.set = true) (hmap : ∃ c : Fin 32, s.sensorMap[c] ≠ none)
    (htest : ∀ i n, s.pulse.test ≠ .waiting i n) :
    exec .start s = .next (doneState e (startRun (s.headTaken rest))) := by
  have hunset : (!s.timebase.set) = false := by rw [hset]; rfl
  have hreason : firstReason
      [(s.run.bypass, .state), (s.notIdle, .state), (!s.timebase.set, .time), (s.unmapped, .nosensor),
       (s.pulse.test.isWaiting, .busy)] = none := by
    rw [firstReason_skips _ _ hb, firstReason_skips _ _ (notIdle_of_idle hstate), firstReason_skips _ _ hunset,
      firstReason_skips _ _ (unmapped_of_mapped hmap), firstReason_skips _ _ (isWaiting_of_ne_waiting htest),
      firstReason_nil]
  exact congrArg Host.Outcome.next (executeOrder_done h ((taken_iff startKind e).2 hk) hreason)

end

namespace RateSlot

/-- Settles O31: the refusal list of R113 read from its front, and the timer that START and a slot boundary leave. -/
theorem rateSlotItem : Obligations.RateSlotItem := by
  intro s e rest hs
  refine ⟨fun hw hlen => ?write, exec_read_rateSlot hs, fun hk hb hstate hset hmap htest => ?start,
    fun b hb hreached => ?boundary⟩
  case write =>
    rw [exec_rateSlotWrite_eq hs hw, rateSlotReason_eq hw hlen]
    split_ifs <;> rfl
  case start =>
    have htimer := (doneState_slotTimer e _).trans (startRun_slotTimer (s.headTaken rest))
    exact ⟨_, exec_start_done hs hk hb hstate hset hmap htest, boundary_of_slotTimer htimer,
      slotLength_of_slotTimer htimer⟩
  case boundary =>
    obtain ⟨hrunning, -, -⟩ := hs
    exact ⟨_, exec_rateSlotBoundary_due hrunning hb hreached, slotBoundary_boundary hb⟩

end RateSlot

end Sys2Proof.Machine
end

section
/-! What every command keeps, said once for every predicate `P` on the state: `P` is given by the updates of single blocks
that it survives (`KeepsBlocks P` to `Keeps P`), and each shared operation keeps what these updates keep. The invariants of the statements
(the canonical memory, the capacities, the tables, the run states) and the untouched command queue are such predicates. -/

namespace Sys2Proof.Machine

/-! ## The updates that the model makes of a block -/

/-- No queue or buffer of the record link grows beyond its capacity, and the answer queue does not grow. -/
structure Link.Fits (k x : Link) : Prop where
  own : x.fill ≤ max 4096 k.fill
  answers : x.answers.length ≤ k.answers.length
  intake : x.intake.length ≤ max 4 k.intake.length
  pass : x.passFill ≤ max 64 k.passFill
  forward : x.forward.length ≤ max 8 k.forward.length

/-- A record link after offers alone: records may have joined the own record queue, and the counts may have gone up. -/
structure Link.Grows (k x : Link) : Prop where
  same : x = { k with own := x.own, counts := x.counts, highWater := x.highWater }
  own : k.own <+: x.own
  overflow : x.counts.overflow = k.counts.overflow
  fill : x.fill ≤ max 4096 k.fill

/-- The open group list is short, and no group holds two hits of one sensor. -/
def GroupsLawful (l : List Group) : Prop := l.length ≤ 8 ∧ ∀ g ∈ l, (g.members.map (fun h => h.sensor)).Nodup

/-- A capture unit after work on it: the canonical memory stays so, and the ring write queue stays within its capacity. -/
structure Capture.Fits (u x : Capture) : Prop where
  memory : Memory.wf u.memory → Memory.wf x.memory
  queue : x.queue.length ≤ max 128 u.queue.length

/-- A pulse test unit after work on it: no test begins, and the hold list stays within its capacity. -/
structure Pulse.Fits (u x : Pulse) : Prop where
  test : u.test = .none → x.test = .none
  hold : x.hold.length ≤ max 64 u.hold.length

theorem Link.Fits.refl (k : Link) : k.Fits k :=
  ⟨le_max_right _ _, le_refl _, le_max_right _ _, le_max_right _ _, le_max_right _ _⟩

theorem Link.Grows.refl (k : Link) : k.Grows k := ⟨rfl, ⟨[], List.append_nil _⟩, rfl, le_max_right _ _⟩

theorem Link.Grows.fits {k x : Link} (h : k.Grows x) : k.Fits x := by
  refine { Link.Fits.refl k with own := h.fill, answers := ?_, intake := ?_, pass := ?_, forward := ?_ } <;> rw [h.same]
  · exact le_max_right _ _
  · exact le_max_right _ _
  · exact le_max_right _ _

theorem Capture.Fits.refl (u : Capture) : u.Fits u := ⟨id, le_max_right _ _⟩

theorem Pulse.Fits.refl (u : Pulse) : u.Fits u := ⟨id, le_max_right _ _⟩

/-- A predicate that survives the updates of single blocks that groups, cells, the capture unit and the hold list bring: of
the blocks with bounded lists those that keep the lists within capacity. A predicate that an update leaves as it stands, by
definition, survives it by default; so in the structures below. -/
structure KeepsBlocks (P : State → Prop) : Prop where
  tracker : ∀ s l, s.tracker.armed = true → P s → P (s.setTracker { s.tracker with satList := l }) := by
    intros; assumption
  groups : ∀ s x, (GroupsLawful s.grouping.groups → GroupsLawful x.groups) → P s → P (s.setGrouping x) := by
    intros; assumption
  cells : ∀ s x, x.boundary = s.cells.boundary → P s → P (s.setCells x) := by intros; assumption
  capture : ∀ s x, s.capture.Fits x → P s → P (s.setCapture x) := by intros; assumption
  pulse : ∀ s x, s.pulse.Fits x → P s → P (s.setPulse x) := by intros; assumption
  link : ∀ s x, s.link.Grows x → P s → P (s.setLink x) := by intros; assumption

/-- A predicate that also survives the opening of a group (R82, R83). -/
structure KeepsWork (P : State → Prop) : Prop extends KeepsBlocks P where
  openHit : ∀ x s, P s → P (openGroup x (evictFirst s))

/-- A predicate that also survives a live detector's entry into OFF. -/
structure KeepsTests (P : State → Prop) : Prop extends KeepsWork P where
  channels : ∀ s x, P s → P (s.setChannels x) := by intros; assumption
  off : ∀ s c, s.detectors[c].state ≠ .off → P s → P (s.setDetector c s.detectors[c].switchedOff) := by
    intros; assumption

/-- A predicate that also survives every other update of the tracker, of the cell unit and of the record link. -/
structure KeepsUnits (P : State → Prop) : Prop extends KeepsTests P where
  anyTracker : ∀ s x, x.history.length ≤ max 64 s.tracker.history.length → P s → P (s.setTracker x) := by
    intros; assumption
  anyCells : ∀ s x, P s → P (s.setCells x) := by intros; assumption
  traffic : ∀ s x, s.link.Fits x → P s → P (s.setLink x) := by intros; assumption

/-- A predicate that also survives a declaration (R165). -/
structure KeepsDeclare (P : State → Prop) : Prop extends KeepsUnits P where
  declare : ∀ e k s, P s → P (declareBurst e k s)

/-- A predicate that also survives a tail end (R168), the updates of the other blocks, and those of run control that leave run
state and bypass as they are. -/
structure Keeps (P : State → Prop) : Prop extends KeepsDeclare P where
  run : ∀ s x, x.state = s.run.state → x.bypass = s.run.bypass → P s → P (s.setRun x) := by intros; assumption
  power : ∀ s x, P s → P (s.setPower x) := by intros; assumption
  timebase : ∀ s x, P s → P (s.setTimebase x) := by intros; assumption
  lanes : ∀ s x, (∀ l : Fin 4, x[l].role = s.lanes[l].role) → P s → P (s.setLanes x) := by intros; assumption
  phaseMap : ∀ s x, P s → P (s.setPhaseMap x) := by intros; assumption
  detectors : ∀ s x, P s → P (s.setDetectors x) := by intros; assumption
  fireMark : ∀ s x, P s → P (s.setFireMark x) := by intros; assumption
  tail : ∀ s, s.run.state = .tailing → P s → P (tailEnd s)

variable {P : State → Prop}

/-! ## Offers and marks -/

theorem Link.offer_grows (k : Link) (r : Record) (b : Bool) : k.Grows (k.offer r b) := by
  rcases Link.offer_cases k r b with ⟨ha, hk⟩ | ⟨_, hk⟩ <;> rw [hk]
  · refine ⟨rfl, ⟨_, rfl⟩, rfl, ?_⟩
    rw [Link.fill_enqueue]
    exact le_max_of_le_left (admitted_fits ha)
  · exact { Link.Grows.refl k with same := rfl, overflow := by cases r <;> rfl }

theorem Link.offer_fits (k : Link) (r : Record) (b : Bool) : k.Fits (k.offer r b) := (k.offer_grows r b).fits

theorem offer_keeps (h : KeepsBlocks P) (r : Record) (b : Bool) (s : State) (hs : P s) : P (offer r b s) := by
  unfold offer
  split
  · exact hs
  · exact h.link _ _ (Link.offer_grows _ _ _) hs

theorem notify_keeps (h : KeepsBlocks P) (x : NoticeBody) (s : State) (hs : P s) : P (notify x s) := offer_keeps h _ _ _ hs

theorem makeMark_keeps (h : KeepsUnits P) (m : Mark) (s : State) (hs : P s) : P (makeMark m s) := by
  unfold makeMark
  split
  · exact h.traffic _ _ { Link.Fits.refl s.link with } hs
  · exact hs

theorem setCounts_keeps (h : KeepsUnits P) (x : TallyCounts) (s : State) (hs : P s) : P (s.setCounts x) :=
  h.traffic _ _ { Link.Fits.refl s.link with } hs

/-- The counts of the capture unit leave the overflow count alone. -/
theorem captureCounts_keeps (h : KeepsBlocks P) (x : TallyCounts) (s : State)
    (hx : x.overflow = s.link.counts.overflow) (hs : P s) : P (s.setCounts x) :=
  h.link _ _ { Link.Grows.refl s.link with same := rfl, overflow := hx } hs

/-! ## Channels and detectors -/

theorem setDetector_keeps (h : Keeps P) (c : Fin 32) (x : Detector) (s : State) (hs : P s) : P (s.setDetector c x) :=
  h.detectors _ _ hs

theorem setChannel_keeps (h : KeepsTests P) (c : Fin 32) (x : Channel) (s : State) (hs : P s) : P (s.setChannel c x) :=
  h.channels _ _ hs

theorem applyPending_keeps (h : KeepsTests P) (c : Fin 32) (s : State) (hs : P s) : P (applyPending c s) := by
  unfold applyPending
  split
  · exact h.channels _ _ hs
  · exact hs

theorem setPending_keeps (h : KeepsTests P) (c : Fin 32) (b : Fin 4) (s : State) (hs : P s) : P (setPending c b s) :=
  applyPending_keeps h _ _ (h.channels _ _ hs)

theorem followPhase_keeps (h : KeepsTests P) (s : State) (hs : P s) : P (followPhase s) := by
  refine forEach_keeps P _ _ (fun c _ t ht => ?_) s hs
  unfold followChannel
  split
  · exact setPending_keeps h _ _ _ ht
  · exact ht

theorem makeLive_keeps (h : Keeps P) (c : Fin 32) (s : State) (hs : P s) : P (makeLive c s) := by
  unfold makeLive
  split
  · exact applyPending_keeps h.toKeepsTests _ _ (h.detectors _ _ hs)
  · exact hs

theorem enterState_keeps (h : Keeps P) (c : Fin 32) (x : DetState) (s : State) (hs : P s) : P (enterState c x s) :=
  applyPending_keeps h.toKeepsTests _ _ (h.detectors _ _ hs)

theorem enterOff_keeps (h : KeepsTests P) (c : Fin 32) (s : State) (hd : s.detectors[c].state ≠ .off) (hs : P s) :
    P (enterOff c s) := applyPending_keeps h _ _ (h.off _ _ hd hs)

/-! ## Cells and the closing of groups -/

theorem changeAlarm_keeps (h : KeepsBlocks P) (n : Fin 1024) (c : Cell) (a : Alarm) (k : Option CellCause) (s : State)
    (hs : P s) : P (changeAlarm n c a k s) := by
  unfold changeAlarm
  cases k with
  | none => exact h.cells _ _ rfl hs
  | some k => exact notify_keeps h _ _ (h.cells _ _ rfl hs)

theorem accountEvent_keeps (h : KeepsBlocks P) (e : EventRecord) (s : State) (hs : P s) : P (accountEvent e s) := by
  unfold accountEvent
  split
  · exact hs
  · split
    · exact changeAlarm_keeps h _ _ _ _ _ hs
    · exact hs

theorem shiftSlots_keeps (h : KeepsBlocks P) (s : State) (hs : P s) : P (shiftSlots s) := by
  refine forEach_keeps P _ _ (fun n _ t ht => ?_) _ (h.cells _ _ rfl hs)
  unfold decayCell
  dsimp only
  split
  · exact changeAlarm_keeps h _ _ _ _ _ ht
  · exact ht

theorem startCells_keeps (h : KeepsBlocks P) (s : State) (hs : P s) : P (startCells s) :=
  forEach_keeps P _ _ (fun _ _ _ ht => changeAlarm_keeps h _ _ _ _ _ ht) s hs

/-- Groups that leave the list leave it lawful. -/
theorem GroupsLawful.sublist {l l' : List Group} (h : GroupsLawful l) (hl : l'.Sublist l) : GroupsLawful l' :=
  ⟨hl.length_le.trans h.1, fun g hg => h.2 g (hl.subset hg)⟩

theorem closeGroup_keeps (h : KeepsBlocks P) (k : GroupClose) (x : Group) (s : State) (hs : P s) : P (closeGroup k x s) := by
  have hclosed := h.groups s
    { s.grouping with
      groups := s.grouping.groups.filter (fun y => !(y.number == x.number)), lastClosed := some x.anchor }
    (fun hl => hl.sublist List.filter_sublist) hs
  unfold closeGroup offerGroup
  exact forEach_keeps P _ _ (fun _ _ _ ht => offer_keeps h _ _ _ ht) _
    (offer_keeps h _ _ _ (accountEvent_keeps h _ _ hclosed))

theorem closeTest_keeps (h : KeepsBlocks P) (s : State) (hs : P s) : P (closeTest s) :=
  forEach_keeps P _ _ (fun _ _ _ ht => closeGroup_keeps h _ _ _ ht) s hs

theorem haltGroups_keeps (h : KeepsBlocks P) (s : State) (hs : P s) : P (haltGroups s) :=
  forEach_keeps P _ _ (fun _ _ _ ht => closeGroup_keeps h _ _ _ ht) s hs

theorem evictFirst_keeps (h : KeepsBlocks P) (s : State) (hs : P s) : P (evictFirst s) := by
  unfold evictFirst
  repeat' split
  · exact closeGroup_keeps h _ _ _ hs
  · exact hs
  · exact hs

/-- A predicate that does not read the grouping unit survives the opening of a group. -/
theorem KeepsBlocks.toKeepsWork (h : KeepsBlocks P) (hg : ∀ s x, P s → P (s.setGrouping x)) : KeepsWork P :=
  { h with openHit := fun _ s hs => hg _ _ (evictFirst_keeps h s hs) }

/-! ## The capture unit -/

theorem setRing_keeps (h : KeepsBlocks P) (c : Fin 32) (x : Ring) (s : State) (hs : P s) : P (s.setRing c x) :=
  h.capture _ _ { Capture.Fits.refl s.capture with } hs

theorem setSegment_keeps (h : KeepsBlocks P) (i : Fin 64) (x : Option Segment) (s : State) (hs : P s) :
    P (s.setSegment i x) := h.capture _ _ { Capture.Fits.refl s.capture with } hs

theorem setAccess_keeps (h : KeepsBlocks P) (x : Option Access) (s : State) (hs : P s) :
    P (s.setCapture { s.capture with access := x }) := h.capture _ _ { Capture.Fits.refl s.capture with } hs

theorem setDump_keeps (h : KeepsBlocks P) (x : Option Dump) (s : State) (hs : P s) :
    P (s.setCapture { s.capture with dump := x }) := h.capture _ _ { Capture.Fits.refl s.capture with } hs

theorem endSegment_keeps (h : KeepsBlocks P) (i : Fin 64) (x : Segment) (l d : Bool) (s : State) (hs : P s) :
    P (endSegment i x l d s) :=
  setAccess_keeps h _ _ (setSegment_keeps h _ _ _ (offer_keeps h _ _ _ hs))

theorem keepOrEnd_keeps (h : KeepsBlocks P) (i : Fin 64) (x : Segment) (s : State) (hs : P s) : P (keepOrEnd i x s) := by
  unfold keepOrEnd
  split
  · exact endSegment_keeps h _ _ _ _ _ hs
  · exact setSegment_keeps h _ _ _ hs

theorem takeIndex_keeps (h : KeepsBlocks P) (c : Fin 32) (k : Nat) (s : State) (hs : P s) : P (takeIndex c k s) := by
  refine forEach_keeps P _ _ (fun i _ t ht => ?_) s hs
  unfold loseLine
  repeat' split
  all_goals first | exact ht | exact keepOrEnd_keeps h _ _ _ ht

theorem voidMark_keeps (h : KeepsBlocks P) (c : Fin 32) (k : Nat) (s : State) (hs : P s) : P (voidMark c k s) := by
  unfold voidMark setMark
  refine h.capture _ _ ⟨id, ?_⟩ (setRing_keeps h _ _ _ hs)
  rw [List.length_map]
  exact le_max_right _ _

theorem voidAhead_keeps (h : KeepsBlocks P) (c : Fin 32) (n : Nat) (s : State) (hs : P s) : P (voidAhead c n s) :=
  forEach_keeps P _ _ (fun _ _ _ ht => takeIndex_keeps h _ _ _ (voidMark_keeps h _ _ _ ht)) s hs

theorem sealChannel_keeps (h : KeepsBlocks P) (c : Fin 32) (s : State) (hs : P s) : P (sealChannel c s) := by
  unfold sealChannel
  repeat' split
  all_goals first | exact hs | exact keepOrEnd_keeps h _ _ _ hs

theorem extendSegment_keeps (h : KeepsBlocks P) (c : Fin 32) (k : Nat) (s : State) (hs : P s) :
    P (extendSegment c k s) := by
  unfold extendSegment
  dsimp only
  repeat' split
  all_goals first | exact hs | exact keepOrEnd_keeps h _ _ _ hs | exact setSegment_keeps h _ _ _ hs

theorem beginWrite_keeps (h : KeepsBlocks P) (s : State) (hs : P s) : P (beginWrite s) := by
  unfold beginWrite
  split
  · next w rest _ _ hq =>
    refine h.capture _ _ ⟨id, le_max_of_le_right ?_⟩ hs
    rw [hq, List.length_cons]
    exact Nat.le_succ _
  · exact hs

theorem advanceRing_keeps (h : KeepsBlocks P) (c : Fin 32) (n : Nat) (s : State) (hs : P s) : P (advanceRing c n s) :=
  setRing_keeps h _ _ _ hs

theorem meetLine_keeps (h : KeepsBlocks P) (c : Fin 32) (t : Tick) (s : State) (hs : P s) : P (meetLine c t s) := by
  unfold meetLine
  split
  · exact hs
  · exact advanceRing_keeps h _ _ _ (voidAhead_keeps h _ _ _ (sealChannel_keeps h _ _ hs))
  · exact setRing_keeps h _ _ _ (voidAhead_keeps h _ _ _ (sealChannel_keeps h _ _ hs))

theorem queueLine_keeps (h : KeepsBlocks P) (c : Fin 32) (k : Nat) (x : Line) (s : State) (hs : P s) :
    P (queueLine c k x s) := by
  unfold queueLine
  split
  · next hroom =>
    refine beginWrite_keeps h _ (h.capture _ _ ⟨id, le_max_of_le_left ?_⟩ hs)
    rw [List.length_append]
    exact hroom
  · exact voidMark_keeps h _ _ _ hs

theorem ringLine_keeps (h : KeepsBlocks P) (c : Fin 32) (t : Tick) (x : Line) (s : State) (hs : P s) :
    P (ringLine c t x s) := by
  unfold ringLine placeAtWritePos
  split
  · exact extendSegment_keeps h _ _ _ (setRing_keeps h _ _ _ (queueLine_keeps h _ _ _ _
      (takeIndex_keeps h _ _ _ (meetLine_keeps h _ _ _ hs))))
  · exact hs

theorem missingLines_keeps (h : KeepsBlocks P) (c : Fin 32) (n : Nat) (s : State) (hs : P s) : P (missingLines c n s) := by
  unfold missingLines
  split
  · exact advanceRing_keeps h _ _ _ (voidAhead_keeps h _ _ _ hs)
  · exact hs

theorem captureAnswer_keeps (h : KeepsBlocks P) (c n : Fin 32) (a t : Tick) (s : State) (hs : P s) :
    P (captureAnswer c n a t s).1 := by
  unfold captureAnswer
  repeat' split
  all_goals first | exact hs | exact setSegment_keeps h _ _ _ hs

theorem selectReadout_keeps (h : KeepsBlocks P) (s : State) (hs : P s) : P (selectReadout s) := by
  unfold selectReadout
  repeat' split
  all_goals first | exact hs | exact setSegment_keeps h _ _ _ hs

theorem settleCapture_keeps (h : KeepsBlocks P) (s : State) (hs : P s) : P (settleCapture s) :=
  beginWrite_keeps h _ (selectReadout_keeps h _ hs)

theorem offerLine_keeps (h : KeepsBlocks P) (i : Fin 64) (x : Segment) (o : Int) (l : Option Line) (a b : Bool) (s : State)
    (hs : P s) : P (offerLine i x o l a b s) := offer_keeps h _ _ _ (setSegment_keeps h _ _ _ hs)

theorem endIfRead_keeps (h : KeepsBlocks P) (i : Fin 64) (s : State) (hs : P s) : P (endIfRead i s) := by
  unfold endIfRead
  repeat' split
  all_goals first | exact hs | exact endSegment_keeps h _ _ _ _ _ hs

theorem beginRead_keeps (h : KeepsBlocks P) (op : AccessOp) (s : State) (hs : P s) : P (beginRead op s) :=
  setAccess_keeps h _ _ hs

theorem readoutTake_keeps (h : KeepsBlocks P) (i : Fin 64) (x : Segment) (s : State) (hs : P s) :
    P (readoutTake i x s) := by
  unfold readoutTake takeLine
  dsimp only
  repeat' split
  · exact endIfRead_keeps h _ _ (setSegment_keeps h _ _ _ hs)
  · exact beginRead_keeps h _ _ (setSegment_keeps h _ _ _ hs)
  · exact endIfRead_keeps h _ _ (offerLine_keeps h _ _ _ _ _ _ _ hs)
  · exact endIfRead_keeps h _ _ (offerLine_keeps h _ _ _ _ _ _ _ hs)

theorem startDump_keeps (h : KeepsBlocks P) (s : State) (hs : P s) : P (startDump s) := by
  unfold startDump
  split
  · exact setDump_keeps h _ _ hs
  · exact hs

theorem endDump_keeps (h : KeepsBlocks P) (b : Bool) (s : State) (hs : P s) : P (endDump b s) := by
  unfold endDump
  split
  · exact hs
  · exact notify_keeps h _ _ (setDump_keeps h _ _ hs)

theorem offerDumpLine_keeps (h : KeepsBlocks P) (d : Dump) (c : Fin 32) (l : Option Line) (a b : Bool) (s : State)
    (hs : P s) : P (offerDumpLine d c l a b s) := setDump_keeps h _ _ (offer_keeps h _ _ _ hs)

theorem endDumpIfDone_keeps (h : KeepsBlocks P) (s : State) (hs : P s) : P (endDumpIfDone s) := by
  unfold endDumpIfDone
  repeat' split
  all_goals first | exact hs | exact endDump_keeps h _ _ hs

theorem dumpTake_keeps (h : KeepsBlocks P) (d : Dump) (s : State) (hs : P s) : P (dumpTake d s) := by
  unfold dumpTake
  dsimp only
  repeat' split
  · exact endDump_keeps h _ _ hs
  · exact beginRead_keeps h _ _ hs
  · exact endDumpIfDone_keeps h _ (offerDumpLine_keeps h _ _ _ _ _ _ hs)
  · exact endDumpIfDone_keeps h _ (offerDumpLine_keeps h _ _ _ _ _ _ hs)

theorem countOutcome_keeps (h : KeepsBlocks P) (o : AccessOutcome) (s : State) (hs : P s) : P (countOutcome o s) := by
  have hfree : P (s.setCapture
      { s.capture with access := none, failures := if o.good then 0 else s.capture.failures + 1 }) :=
    h.capture _ _ { Capture.Fits.refl s.capture with } hs
  unfold countOutcome
  cases o with
  | done => exact hfree
  | split => exact captureCounts_keeps h _ _ rfl hfree
  | fault => exact captureCounts_keeps h _ _ rfl hfree
  | timeout => exact captureCounts_keeps h _ _ rfl hfree

theorem markWritten_keeps (h : KeepsBlocks P) (w : RingWrite) (b : Bool) (s : State) (hs : P s) : P (markWritten w b s) := by
  unfold markWritten setMark
  split
  · exact hs
  · split
    · exact setRing_keeps h _ _ _ hs
    · refine forEach_keeps P _ _ (fun i _ t ht => ?_) _ (setRing_keeps h _ _ _ hs)
      unfold damageSegment
      repeat' split
      all_goals first | exact ht | exact setSegment_keeps h _ _ _ ht

theorem writeMemory_keeps (h : KeepsBlocks P) (w : RingWrite) (b : Bool) (s : State) (hs : P s) : P (writeMemory w b s) := by
  refine h.capture _ _ ⟨fun hm => ?_, le_max_right _ _⟩ hs
  dsimp only
  split
  · exact Memory.wf_write _ _ _ hm
  · exact Memory.wf_forget _ _ hm

theorem finishOp_keeps (h : KeepsBlocks P) (op : AccessOp) (o : AccessOutcome) (s : State) (hs : P s) :
    P (finishOp op o s) := by
  have ht := countOutcome_keeps h o s hs
  cases op with
  | write w => exact markWritten_keeps h _ _ _ (writeMemory_keeps h _ _ _ ht)
  | readout i off line live =>
    simp only [finishOp, finishReadout]
    repeat' split
    all_goals first | exact ht | exact offerLine_keeps h _ _ _ _ _ _ _ ht
  | dump line live =>
    simp only [finishOp, finishDump]
    repeat' split
    all_goals first | exact ht | exact offerDumpLine_keeps h _ _ _ _ _ _ ht

theorem failPort_keeps (h : KeepsBlocks P) (k : AccessKind) (o : AccessOutcome) (s : State) (hs : P s) :
    P (failPort k o s) := by
  have hfailed : P (s.setCapture { s.capture with port := .failed, queue := [] }) :=
    h.capture _ _ ⟨id, Nat.zero_le _⟩ hs
  have hfail : ∀ i t, P t → P (failSegment i t) := fun i t ht => by
    unfold failSegment
    split
    · exact ht
    · exact endSegment_keeps h _ _ _ _ _ ht
  unfold failPort
  exact endDump_keeps h _ _ (forEach_keeps P _ _ (fun i _ t ht => hfail i t ht) _ (notify_keeps h _ _ hfailed))

theorem endsAfter_keeps (h : KeepsBlocks P) (op : AccessOp) (s : State) (hs : P s) : P (endsAfter op s) := by
  unfold endsAfter
  repeat' split
  all_goals first | exact hs | exact endIfRead_keeps h _ _ hs | exact endDumpIfDone_keeps h _ hs

theorem endAccess_keeps (h : KeepsBlocks P) (o : AccessOutcome) (a : Access) (s : State) (hs : P s) :
    P (endAccess o a s) := by
  have ht := finishOp_keeps h a.op o s hs
  unfold endAccess
  refine beginWrite_keeps h _ (selectReadout_keeps h _ ?_)
  split
  · exact failPort_keeps h _ _ _ ht
  · exact endsAfter_keeps h _ _ ht

theorem startCapture_keeps (h : KeepsBlocks P) (s : State) (hs : P s) : P (startCapture s) := by
  refine forEach_keeps P _ _ (fun i _ t ht => ?_) _ (h.capture _ _ ⟨id, Nat.zero_le _⟩ hs)
  unfold dropLeftover
  repeat' split
  all_goals first | exact ht | exact endSegment_keeps h _ _ _ _ _ ht

theorem freeSegments_keeps (h : KeepsBlocks P) (s : State) (hs : P s) : P (freeSegments s) :=
  h.capture _ _ { Capture.Fits.refl s.capture with } hs

theorem stopDump_keeps (h : KeepsBlocks P) (s : State) (hs : P s) : P (stopDump s) := by
  unfold stopDump
  split
  · exact hs
  · exact endDump_keeps h _ _ (setAccess_keeps h _ _ hs)

/-! ## The tracker -/

theorem holdEntered_keeps (h : KeepsBlocks P) (s : State) (hs : P s) : P (holdEntered s) := by
  unfold holdEntered
  split
  · exact h.cells _ _ rfl hs
  · exact hs

theorem phaseEffects_keeps (h : KeepsUnits P) (a b : Phase) (s : State) (hs : P s) : P (phaseEffects a b s) := by
  unfold phaseEffects
  dsimp only
  split
  · exact holdEntered_keeps h.toKeepsBlocks _ (followPhase_keeps h.toKeepsTests _ (notify_keeps h.toKeepsBlocks _ _ hs))
  · exact followPhase_keeps h.toKeepsTests _ (notify_keeps h.toKeepsBlocks _ _ hs)

theorem gaugeGone_keeps (h : KeepsUnits P) (s : State) (hs : P s) : P (gaugeGone s) := by
  have ht := h.anyTracker s s.tracker.nogauge (Nat.zero_le _) hs
  unfold gaugeGone
  dsimp only
  split
  · exact ht
  · exact phaseEffects_keeps h _ _ _ ht

theorem pushHistory_length (l : List Nat) (p : Nat) : (pushHistory l p).length ≤ max 64 l.length := by
  unfold pushHistory
  split <;> simp <;> omega

theorem decided_history (t : Tracker) (r : Phase × Nat) : (t.decided r).history = t.history := by
  unfold Tracker.decided
  split <;> rfl

theorem trackSample_keeps (h : KeepsUnits P) (p : Nat) (s : State) (hs : P s) : P (trackSample p s) := by
  have ht : ∀ r, P (s.setTracker ((s.tracker.take p s.measuring).decided r)) := fun r =>
    h.anyTracker _ _ (by rw [decided_history]; exact pushHistory_length _ _) hs
  unfold trackSample
  dsimp only
  split
  · exact ht _
  · exact phaseEffects_keeps h _ _ _ (ht _)

theorem reportSaturation_keeps (h : KeepsBlocks P) (x : HitRecord) (s : State) (hs : P s) : P (reportSaturation x s) := by
  unfold reportSaturation
  split
  · next hw =>
    rw [Tracker.watches, Bool.and_eq_true, Bool.and_eq_true] at hw
    exact h.tracker _ _ hw.1.2 hs
  · exact hs

end Sys2Proof.Machine
end

section
/-! The processing of samples and hits, the pulse test and the lanes keep what the updates of single blocks keep, when the
opening of a group, a declaration and a tail end keep it too. -/

namespace Sys2Proof.Machine

variable {P : State → Prop}

/-! ## Hits and groups -/

theorem join_sensors (u : Grouping) (g : Group) (h : HitRecord) (w : Nat) (hc : g.candidate w h = true)
    (hg : (g.members.map (fun m => m.sensor)).Nodup) : ((g.join u h).members.map (fun m => m.sensor)).Nodup := by
  have hnew : ∀ m ∈ g.members, m.sensor ≠ h.sensor := by
    simp only [Group.candidate, Group.hasSensor, Bool.and_eq_true, Bool.not_eq_true', List.any_eq_false, beq_iff_eq] at hc
    exact hc.1
  have hmembers : (g.join u h).members = insertHit h g.members := by
    unfold Group.join
    dsimp only
    split <;> rfl
  rw [hmembers]
  exact insertHit_sensors h g.members hg hnew

theorem mem_replaceGroup {old new g : Group} {l : List Group} (h : g ∈ replaceGroup old new l) : g = new ∨ g ∈ l := by
  unfold replaceGroup at h
  split at h
  · obtain ⟨x, hx, rfl⟩ := List.mem_map.mp h
    split
    · exact Or.inl rfl
    · exact Or.inr hx
  · rcases List.mem_cons.mp ((insertGroup_perm new _).mem_iff.mp h) with rfl | hg
    · exact Or.inl rfl
    · exact Or.inr (List.mem_of_mem_filter hg)

theorem replaceGroup_length {old new : Group} {l : List Group} (h : old ∈ l) : (replaceGroup old new l).length ≤ l.length := by
  unfold replaceGroup
  split
  · rw [List.length_map]
  · rw [insertGroup_length]
    exact List.length_filter_lt_length_iff_exists.mpr ⟨old, h, by simp⟩

theorem placeHit_keeps (h : KeepsWork P) (x : HitRecord) (s : State) (hs : P s) : P (placeHit x s) := by
  unfold placeHit
  split
  · next g hg =>
    have hcand : g.candidate s.grouping.window x = true := by simpa using List.find?_some hg
    have hmem : g ∈ s.grouping.groups := List.mem_of_find?_eq_some hg
    refine h.groups _ _ (fun hl => ⟨(replaceGroup_length hmem).trans hl.1, fun y hy => ?_⟩) hs
    rcases mem_replaceGroup hy with rfl | hy
    · exact join_sensors _ _ _ _ hcand (hl.2 g hmem)
    · exact hl.2 y hy
  · exact h.openHit _ _ hs

theorem presentQuietly_keeps (h : KeepsWork P) (x : HitRecord) (s : State) (hs : P s) : P (presentQuietly x s) :=
  reportSaturation_keeps h.toKeepsBlocks _ _ (placeHit_keeps h _ _ hs)

theorem quietSample_keeps (h : Keeps P) (c : Fin 32) (t : Tick) (x : FeedSample) (s : State) (hs : P s) :
    P (quietSample c t x s) := by
  unfold quietSample
  split
  · exact hs
  · split
    · refine setDetector_keeps h _ _ _ ?_
      split
      · exact captureAnswer_keeps h.toKeepsBlocks _ _ _ _ _ hs
      · exact hs
    · exact hs

/-! ## The pulse test -/

/-- The test stays, and its hold list does not grow. -/
theorem setHold_keeps (h : KeepsBlocks P) (l : List HitRecord) (s : State) (hl : l.length ≤ max 64 s.pulse.hold.length)
    (hs : P s) : P (s.setPulse { s.pulse with hold := l }) := h.pulse _ _ ⟨id, hl⟩ hs

theorem makeTest_keeps (h : KeepsBlocks P) (f : Tick) (x : HitRecord) (s : State) (hs : P s) : P (makeTest f x s) :=
  offer_keeps h _ _ _ (h.pulse _ _ { Pulse.Fits.refl s.pulse with } hs)

theorem concludeTest_keeps (h : KeepsBlocks P) (k : EndCause) (s : State) (hs : P s) : P (concludeTest k s) := by
  have hreset : P (s.setPulse Pulse.reset) := h.pulse _ _ ⟨fun _ => rfl, Nat.zero_le _⟩ hs
  unfold concludeTest
  split
  · exact hs
  · exact offer_keeps h _ _ _ hreset
  · exact offer_keeps h _ _ _ hreset

theorem groupTest_keeps (h : KeepsBlocks P) (m : Tests) (s : State) (hs : P s) : P (groupTest m s) := by
  cases m with
  | made => exact closeTest_keeps h _ hs
  | withheld => exact hs

section
variable {pres : Presenter}

theorem releaseHit_keeps (hp : ∀ x t, P t → P (pres x t)) (x : HitRecord) (s : State) (hs : P s) :
    P (releaseHit pres x s) := by
  unfold releaseHit
  split
  · exact hp _ _ hs
  · exact hs

theorem holdHit_keeps (h : KeepsBlocks P) (hp : ∀ x t, P t → P (pres x t)) (x : HitRecord) (s : State) (hs : P s) :
    P (holdHit pres x s) := by
  have hlen := insertHit_length x s.pulse.hold
  unfold holdHit
  split
  · exact hs
  · next y ys he =>
    rw [he, List.length_cons] at hlen
    split
    · exact releaseHit_keeps hp _ _ (setHold_keeps h _ _ (by omega) hs)
    · next hle => exact setHold_keeps h _ _ (by omega) hs

theorem offerToTest_keeps (h : KeepsBlocks P) (hp : ∀ x t, P t → P (pres x t)) (x : HitRecord) (s : State) (hs : P s) :
    P (offerToTest pres x s).1 := by
  unfold offerToTest
  repeat' split
  all_goals first | exact hs | exact holdHit_keeps h hp _ _ hs | exact makeTest_keeps h _ _ _ hs

theorem handOff_keeps (h : KeepsBlocks P) (hp : ∀ x t, P t → P (pres x t)) (c : Fin 32) (x : HitRecord) (s : State)
    (hs : P s) : P (handOff pres c x s) := by
  have hseal : P (if x.cause.seals then sealChannel c s else s) := by
    split
    · exact sealChannel_keeps h _ _ hs
    · exact hs
  have hoffer : ∀ t, P t → P (if (offerToTest pres x t).2 then releaseHit pres x (offerToTest pres x t).1
      else (offerToTest pres x t).1) := fun t ht => by
    split
    · exact releaseHit_keeps hp _ _ (offerToTest_keeps h hp x t ht)
    · exact offerToTest_keeps h hp x t ht
  exact hoffer _ hseal

theorem detectorOff_keeps (h : KeepsTests P) (hp : ∀ x t, P t → P (pres x t)) (k : CloseCause) (c : Fin 32) (s : State)
    (hs : P s) : P (detectorOff pres k c s) := by
  unfold detectorOff
  split
  · exact hs
  · next hd => exact enterOff_keeps h _ _ (fun he => nomatch hd.symm.trans he) hs
  · next hd => exact enterOff_keeps h _ _ (fun he => nomatch hd.symm.trans he) hs
  · next hd => exact handOff_keeps h.toKeepsBlocks hp _ _ _ (enterOff_keeps h _ _ (fun he => nomatch hd.symm.trans he) hs)

theorem allOff_keeps (h : KeepsTests P) (hp : ∀ x t, P t → P (pres x t)) (k : CloseCause) (s : State) (hs : P s) :
    P (forEach allChannels (detectorOff pres k) s) :=
  forEach_keeps P _ _ (fun c _ t ht => detectorOff_keeps h hp _ c t ht) s hs

theorem decideHeld_keeps (h : KeepsBlocks P) (hp : ∀ x t, P t → P (pres x t)) (x : HitRecord) (s : State) (hs : P s) :
    P (decideHeld pres x s) := by
  unfold decideHeld
  repeat' split
  all_goals first | exact releaseHit_keeps hp _ _ hs | exact makeTest_keeps h _ _ _ hs

theorem emptyHold_keeps (h : KeepsBlocks P) (hp : ∀ x t, P t → P (pres x t)) (m : Tests) (n : Nat) (s : State) (hs : P s) :
    P (emptyHold pres m n s) := by
  induction n generalizing s with
  | zero => exact hs
  | succ n ih =>
    unfold emptyHold
    split
    · exact hs
    · next x l he =>
      refine ih _ (groupTest_keeps h _ _ (decideHeld_keeps h hp _ _ (setHold_keeps h _ _ ?_ hs)))
      rw [he, List.length_cons]
      omega

theorem endTest_keeps (h : KeepsTests P) (hp : ∀ x t, P t → P (pres x t)) (m : Tests) (k : EndCause) (s : State)
    (hs : P s) : P (endTest pres m k s) := by
  have hoff : P (if s.listening then forEach allChannels (detectorOff pres .halt) s else s) := by
    split
    · exact allOff_keeps h hp _ _ hs
    · exact hs
  unfold endTest
  split
  · exact concludeTest_keeps h.toKeepsBlocks _ _ (emptyHold_keeps h.toKeepsBlocks hp _ _ _ hoff)
  · exact hs

end

/-! ## Declarations -/

/-- The detectors and the groups at a tail end: every open hit and every open group ends (steps 1 and 2 of R168). -/
def tailHits (s : State) : State := haltGroups (forEach allChannels (detectorOff presentQuietly .halt) s)

/-- The rest of a tail end: FROZEN, its notice and the dump (R168). -/
def tailBlocks (s : State) : State :=
  let s3 := s.setRun { s.run with state := .frozen, tailExpiry := none }
  let s4 := freeSegments s3
  startDump (notify (.frozen s4.run.cause s4.run.burstTick (64 - s3.capture.free)) s4)

theorem tailEnd_eq (s : State) : tailEnd s = tailBlocks (tailHits s) := by
  unfold tailEnd tailBlocks tailHits
  rfl

theorem tailHits_keeps (h : KeepsTests P) (s : State) (hs : P s) : P (tailHits s) :=
  haltGroups_keeps h.toKeepsBlocks _ (allOff_keeps h (presentQuietly_keeps h.toKeepsWork) .halt s hs)

/-- What every update of run control outside the bypass orders keeps, a tail end keeps. -/
theorem tailEnd_keeps (h : KeepsTests P) (hr : ∀ s x, x.bypass = s.run.bypass → P s → P (s.setRun x)) (s : State)
    (hs : P s) : P (tailEnd s) := by
  have hblocks : ∀ t, P t → P (tailBlocks t) := fun t ht => by
    have hrun := hr t { t.run with state := .frozen, tailExpiry := none } rfl ht
    unfold tailBlocks
    dsimp only
    exact startDump_keeps h.toKeepsBlocks _ (notify_keeps h.toKeepsBlocks _ _ (freeSegments_keeps h.toKeepsBlocks _ hrun))
  rw [tailEnd_eq]
  exact hblocks _ (tailHits_keeps h s hs)

theorem declareBurst_keeps (h : KeepsUnits P) (hr : ∀ s x, x.bypass = s.run.bypass → P s → P (s.setRun x))
    (e : EndCause) (k : BurstCause) (s : State) (hs : P s) : P (declareBurst e k s) := by
  have hfirst : P (declareFirst k s) :=
    makeMark_keeps h _ _ (notify_keeps h.toKeepsBlocks _ _
      (h.anyCells _ _ (h.anyTracker _ _ (le_max_right _ _) (hr _ _ rfl hs))))
  have hend := endTest_keeps h.toKeepsTests (presentQuietly_keeps h.toKeepsWork) (tailTests s) e _ hfirst
  unfold declareBurst startTail
  split
  · dsimp only
    split
    · exact tailEnd_keeps h.toKeepsTests hr _ (hr _ _ rfl hend)
    · exact hr _ _ rfl hend
  · exact hs

theorem presentWith_keeps (h : KeepsDeclare P) (e : EndCause) (x : HitRecord) (s : State) (hs : P s) :
    P (presentWith e x s) := by
  have ht := presentQuietly_keeps h.toKeepsWork x s hs
  unfold presentWith
  dsimp only
  split
  · exact h.declare _ _ _ ht
  · exact ht

theorem present_keeps (h : KeepsDeclare P) (x : HitRecord) (s : State) (hs : P s) : P (present x s) :=
  presentWith_keeps h _ x s hs

theorem doneTest_keeps (h : KeepsDeclare P) (s : State) (hs : P s) : P (doneTest s) := by
  unfold doneTest
  repeat' split
  all_goals first | exact hs | exact endTest_keeps h.toKeepsTests (presentWith_keeps h _) _ _ _ hs

theorem unitTests_keeps (h : KeepsDeclare P) (s : State) (hs : P s) : P (unitTests s) :=
  doneTest_keeps h _ (closeTest_keeps h.toKeepsBlocks _ hs)

/-! ## Samples -/

theorem processSample_keeps (h : Keeps P) (c : Fin 32) (t : Tick) (x : FeedSample) (s : State) (hs : P s) :
    P (processSample c t x s) := by
  unfold processSample
  split
  · exact hs
  · exact quietSample_keeps h _ _ _ _ hs
  · unfold openSample
    dsimp only
    split
    · exact setDetector_keeps h _ _ _ hs
    · exact unitTests_keeps h.toKeepsDeclare _ (handOff_keeps h.toKeepsBlocks (present_keeps h.toKeepsDeclare) _ _ _
        (enterState_keeps h _ _ _ hs))
  · split
    · exact quietSample_keeps h _ _ _ _ (enterState_keeps h _ _ _ hs)
    · exact hs

theorem frameDealt_keeps (h : Keeps P) (c : Fin 32) (t : Tick) (s : State) (hs : P s) : P (frameDealt c t s) :=
  unitTests_keeps h.toKeepsDeclare _ (setDetector_keeps h _ _ _ hs)

theorem feedStep_keeps (h : Keeps P) (c : Fin 32) (s : State) (hs : P s) : P (feedStep c s) := by
  unfold feedStep
  split
  · exact hs
  · split
    · exact frameDealt_keeps h _ _ _ hs
    · have ht : ∀ f t x, P (processSample c t x (s.setDetector c { s.detectors[c] with feed := f })) :=
        fun f t x => processSample_keeps h c t x _ (setDetector_keeps h _ _ _ hs)
      dsimp only
      split
      · exact frameDealt_keeps h _ _ _ (ht _ _ _)
      · exact ht _ _ _

theorem repeat_keeps (f : State → State) (hf : ∀ t, P t → P (f t)) (n : Nat) (s : State) (hs : P s) :
    P (Nat.repeat f n s) := by
  induction n with
  | zero => exact hs
  | succ n ih => exact hf _ ih

theorem drainFeed_keeps (h : Keeps P) (c : Fin 32) (s : State) (hs : P s) : P (drainFeed c s) := by
  unfold drainFeed
  split
  · exact hs
  · exact repeat_keeps _ (feedStep_keeps h c) _ _ hs

theorem pressureSample_keeps (h : KeepsDeclare P) (p : Nat) (s : State) (hs : P s) : P (pressureSample p s) := by
  have ht := trackSample_keeps h.toKeepsUnits p s hs
  unfold pressureSample
  dsimp only
  split
  · exact h.declare _ _ _ ht
  · exact ht

/-! ## The lanes -/

/-- A lane takes another value with the same role. -/
theorem setLane_keeps (h : Keeps P) (l : Fin 4) (x : Lane) (s : State) (hx : x.role = s.lanes[l].role) (hs : P s) :
    P (s.setLane l x) := by
  refine h.lanes _ _ (fun k => ?_) hs
  simp only [Fin.getElem_fin, put_get] at hx ⊢
  split
  · next e => rw [e, hx]
  · rfl

theorem tryAlign_keeps (h : Keeps P) (l : Fin 4) (s : State) (hs : P s) : P (tryAlign l s) := by
  unfold tryAlign
  dsimp only
  split
  · exact notify_keeps h.toKeepsBlocks _ _ (setLane_keeps h _ _ _ rfl hs)
  · exact hs

theorem allAlign_keeps (h : Keeps P) (s : State) (hs : P s) : P (forEach allLanes tryAlign s) :=
  forEach_keeps P _ _ (fun l _ t ht => tryAlign_keeps h l t ht) s hs

theorem channelLost_keeps (h : Keeps P) (b : Bool) (c : Fin 32) (s : State) (hs : P s) : P (channelLost b c s) := by
  have hu := sealChannel_keeps h.toKeepsBlocks c _ (setDetector_keeps h c
    { (detectorOff present .lost c s).detectors[c] with horizon := none } _
    (detectorOff_keeps h.toKeepsTests (present_keeps h.toKeepsDeclare) .lost c s hs))
  unfold channelLost offTests
  dsimp only
  repeat' split
  · exact closeTest_keeps h.toKeepsBlocks _ hu
  · exact unitTests_keeps h.toKeepsDeclare _ hu
  · exact hu

theorem podLost_keeps (h : Keeps P) (l : Fin 4) (s : State) (hs : P s) : P (podLost l s) := by
  have ht : ∀ b, P (forEach (channelsOf l) (channelLost b) s) := fun b =>
    forEach_keeps P _ _ (fun c _ t ht => channelLost_keeps h b c t ht) s hs
  unfold podLost
  dsimp only
  split
  · exact endTest_keeps h.toKeepsTests (presentWith_keeps h.toKeepsDeclare _) _ _ _ (ht _)
  · exact ht _

theorem laneLeft_keeps (h : Keeps P) (l : Fin 4) (r : LaneRole) (s : State) (hs : P s) : P (laneLeft l r s) := by
  cases r with
  | pod => exact podLost_keeps h _ _ hs
  | gauge => exact gaugeGone_keeps h.toKeepsUnits _ hs
  | off => exact hs

theorem laneDown_keeps (h : Keeps P) (l : Fin 4) (k : LaneCause) (s : State) (hs : P s) : P (laneDown l k s) := by
  have ht : P (s.setLane l { s.lanes[l].cleared with state := .down }) := setLane_keeps h _ _ _ rfl hs
  unfold laneDown
  dsimp only
  split
  · exact laneLeft_keeps h _ _ _ (notify_keeps h.toKeepsBlocks _ _ ht)
  · exact notify_keeps h.toKeepsBlocks _ _ ht

theorem laneUp_keeps (h : Keeps P) (l : Fin 4) (q : Byte) (s : State) (hs : P s) : P (laneUp l q s) := by
  have hup : ∀ t c u, P u → P (channelUp t c u) := fun t c u hu => by
    unfold channelUp
    split
    · exact makeLive_keeps h _ _ (setDetector_keeps h _ _ _ hu)
    · exact hu
  unfold laneUp
  dsimp only
  split
  · exact forEach_keeps P _ _ (fun c _ t ht => hup _ c t ht) _ (notify_keeps h.toKeepsBlocks _ _ (setLane_keeps h _ _ _ rfl hs))
  · exact notify_keeps h.toKeepsBlocks _ _ (setLane_keeps h _ _ _ rfl hs)

theorem alignLane_keeps (h : Keeps P) (l : Fin 4) (f : List Byte) (s : State) (hs : P s) : P (alignLane l f s) := by
  unfold alignLane
  dsimp only
  repeat' split
  all_goals first | exact laneUp_keeps h _ _ _ hs | exact setLane_keeps h _ _ _ rfl hs

theorem breakHit_keeps (h : Keeps P) (c : Fin 32) (s : State) (hs : P s) : P (breakHit c s) := by
  unfold breakHit
  split
  · exact unitTests_keeps h.toKeepsDeclare _ (handOff_keeps h.toKeepsBlocks (present_keeps h.toKeepsDeclare) _ _ _ (enterState_keeps h _ _ _ hs))
  all_goals exact hs

theorem stretchChannel_keeps (h : Keeps P) (n : Nat) (e : Tick) (c : Fin 32) (s : State) (hs : P s) :
    P (stretchChannel n e c s) := by
  unfold stretchChannel
  split
  · exact missingLines_keeps h.toKeepsBlocks _ _ _ (sealChannel_keeps h.toKeepsBlocks _ _
      (setDetector_keeps h _ _ _ (breakHit_keeps h _ _ hs)))
  · exact hs

theorem podStretch_keeps (h : Keeps P) (l : Fin 4) (n : Nat) (s : State) (hs : P s) : P (podStretch l n s) := by
  unfold podStretch missingStretch
  dsimp only
  repeat' split
  · exact hs
  · exact unitTests_keeps h.toKeepsDeclare _ (forEach_keeps P _ _ (fun c _ t ht => stretchChannel_keeps h _ _ c t ht) _
      (setLane_keeps h _ _ _ rfl hs))
  · exact hs
  · exact hs

theorem deliverSlot_keeps (h : Keeps P) (l : Fin 4) (t : Tick) (f : SampleFrame) (j : Fin 8) (s : State)
    (hs : P s) : P (deliverSlot l t f j s) := by
  have hr := ringLine_keeps h.toKeepsBlocks (channelOf l j) t (f.slot j) s hs
  unfold deliverSlot deliverSamples
  dsimp only
  repeat' split
  · exact hs
  · exact frameDealt_keeps h _ _ _ hr
  · exact setDetector_keeps h _ _ _ hr
  · exact setDetector_keeps h _ _ _ hr

theorem testFrame_keeps (h : Keeps P) (l : Fin 4) (t : Tick) (k : Option Nat) (s : State) (hs : P s) :
    P (testFrame l t k s) := by
  unfold testFrame
  split
  · exact hs
  · exact hs
  · next i n htest =>
    have hset : ∀ x, P (s.setPulse { s.pulse with test := x }) := fun x =>
      h.pulse _ _ ⟨fun hn => absurd hn (by simp [htest]), le_max_right _ _⟩ hs
    have hcount : P (countFrame i n s) := by
      unfold countFrame
      dsimp only
      split
      · exact endTest_keeps h.toKeepsTests (presentWith_keeps h.toKeepsDeclare _) _ _ _ (hset _)
      · exact hset _
    have hwindow : ∀ f, P (enterWindow i f s) := fun f =>
      doneTest_keeps h.toKeepsDeclare _ (emptyHold_keeps h.toKeepsBlocks (present_keeps h.toKeepsDeclare) _ _ _ (hset _))
    repeat' split
    · exact hcount
    · exact hwindow _
    · exact hcount
    · exact hs

theorem deliverFrame_keeps (h : Keeps P) (l : Fin 4) (f : LaneFrame) (s : State) (hs : P s) :
    P (deliverFrame l f s) := by
  unfold deliverFrame
  dsimp only
  split
  · exact testFrame_keeps h _ _ _ _ (forEach_keeps P _ _ (fun j _ t ht => deliverSlot_keeps h _ _ _ j t ht) _
      (setLane_keeps h _ _ _ rfl hs))
  · exact pressureSample_keeps h.toKeepsDeclare _ _ (setLane_keeps h _ _ _ rfl hs)

theorem failFrame_keeps (h : Keeps P) (l : Fin 4) (s : State) (hs : P s) : P (failFrame l s) := by
  unfold failFrame
  dsimp only
  split
  · exact tryAlign_keeps h _ _ (laneDown_keeps h _ _ _ (setLane_keeps h _ _ _ rfl hs))
  · exact podStretch_keeps h _ _ _ (setLane_keeps h _ _ _ rfl hs)

theorem skipFrame_keeps (h : Keeps P) (l : Fin 4) (d : Nat) (f : LaneFrame) (s : State) (hs : P s) :
    P (skipFrame l d f s) :=
  deliverFrame_keeps h _ _ _ (setLane_keeps h _ _ _ rfl
    (podStretch_keeps h _ _ _ (setLane_keeps h _ _ _ rfl hs)))

theorem drainLane_keeps (h : Keeps P) (l : Fin 4) (s : State) (hs : P s) : P (drainLane l s) := by
  unfold drainLane
  split
  · exact forEach_keeps P _ _ (fun c _ t ht => drainFeed_keeps h c t ht) s hs
  all_goals exact hs

theorem laneArrival_keeps (h : Keeps P) (l : Fin 4) (f : List Byte) (s : State) (hs : P s) :
    P (laneArrival l f s) := by
  have ht := drainLane_keeps h l s hs
  unfold laneArrival upFrame classifyFrame
  dsimp only
  repeat' split
  · exact hs
  · exact hs
  · exact alignLane_keeps h _ _ _ hs
  · exact failFrame_keeps h _ _ ht
  · exact deliverFrame_keeps h _ _ _ ht
  · exact skipFrame_keeps h _ _ _ _ ht
  · exact failFrame_keeps h _ _ ht

theorem laneSignalLost_keeps (h : Keeps P) (l : Fin 4) (s : State) (hs : P s) : P (laneSignalLost l s) := by
  have ht : P (s.setLane l { s.lanes[l] with signal := false }) := setLane_keeps h _ _ _ rfl hs
  unfold laneSignalLost
  dsimp only
  split
  · exact ht
  · exact ht
  · exact laneDown_keeps h _ _ _ ht
  · exact laneDown_keeps h _ _ _ ht

end Sys2Proof.Machine
end

section
/-! The record link, the orders and with them every command keep what the updates of single blocks keep. The commands that
update a table against the laws of `Keeps` (a lane's role, the sensor map, the pair table, the run state) do so only under
conditions: `KeepsEffects` asks for the update under these conditions alone. -/

namespace Sys2Proof.Machine

/-- A predicate that also survives the updates which an order makes after its refusal list, and full reset. -/
structure KeepsEffects (P : State → Prop) : Prop extends Keeps P where
  role : ∀ s (l : Fin 4) x, (x.role = .gauge → ∀ k : Fin 4, k ≠ l → s.lanes[k].role ≠ .gauge) → P s → P (s.setLane l x) := by intros; assumption
  sensor : ∀ s (c : Fin 32) n, (∀ d : Fin 32, d ≠ c → ∀ m, n = some m → s.sensorMap[d] ≠ some m) → P s →
    P (s.setSensorMap (put s.sensorMap c n)) := by intros; assumption
  pair : ∀ s (i : Fin 512) x, (∀ j : Fin 512, j ≠ i → ∀ y z, x = some y → s.pairs[j] = some z →
    ¬ (z.first = y.first ∧ z.second = y.second)) → P s → P (s.setPairs (put s.pairs i x)) := by intros; assumption
  toRun : ∀ s x, x.bypass = false → x.state = .run → P s → P (s.setRun x) := by intros; assumption
  toIdle : ∀ s x, x.state = .idle → (x.bypass = true → s.pulse.test = .none) → P s → P (s.setRun x) := by intros; assumption
  bypassOff : ∀ s, P s → P (s.setRun { s.run with bypass := false }) := by intros; assumption
  newTest : ∀ s x, s.run.bypass = false → s.run.state = .idle ∨ s.run.state = .run → x.hold = [] → P s →
    P (s.setPulse x) := by intros; assumption
  reset : ∀ s, P s → P (fullReset s)

variable {P : State → Prop}

/-! ## Queues of the record link -/

theorem Link.fill_tail_le (k : Link) : ((k.own.tail).map Record.units).sum ≤ k.fill := by
  unfold Link.fill
  cases k.own with
  | nil => exact le_refl _
  | cons r l => simp

theorem Link.passFill_tail_le (k : Link) : ((k.pass.tail).map (fun b => b.length / 16)).sum ≤ k.passFill := by
  unfold Link.passFill
  cases k.pass with
  | nil => exact le_refl _
  | cons r l => simp

theorem Link.nearSent_fits (k : Link) (x : Sending NearSource) : k.Fits (k.nearSent x) := by
  have hrefl := Link.Fits.refl k
  unfold Link.nearSent
  split
  · exact { hrefl with }
  · refine { hrefl with answers := ?_ }
    dsimp only
    split
    · exact (List.tail_sublist _).length_le
    · exact le_refl _
  · refine { hrefl with pass := le_max_of_le_right ?_ }
    cases x.queued with
    | true => exact Link.passFill_tail_le k
    | false => exact le_refl _
  · refine { hrefl with own := le_max_of_le_right ?_ }
    cases x.queued with
    | true => exact Link.fill_tail_le k
    | false => exact le_refl _

theorem Link.farSent_fits (k : Link) (x : Sending FarSource) : k.Fits (k.farSent x) := by
  have hrefl := Link.Fits.refl k
  unfold Link.farSent
  split
  · exact { hrefl with }
  · exact { hrefl with }
  · refine { hrefl with forward := le_max_of_le_right ?_ }
    dsimp only
    split
    · exact (List.tail_sublist _).length_le
    · exact le_refl _

theorem Link.restart_fits (k : Link) : k.Fits k.restart :=
  { Link.Fits.refl k with own := Nat.zero_le _, answers := Nat.zero_le _ }

theorem Link.setPort_fits (k : Link) (p : Port) (x : LinkPort) : k.Fits (k.setPort p x) := by
  cases p <;> exact { Link.Fits.refl k with }

theorem Link.leftUp_fits (k : Link) (p : Port) : k.Fits (k.leftUp p) := by
  cases p with
  | near => exact { Link.Fits.refl k with }
  | far => exact { Link.Fits.refl k with forward := Nat.zero_le _ }

theorem Link.Fits.trans {k x y : Link} (h : k.Fits x) (h' : x.Fits y) : k.Fits y :=
  { own := h'.own.trans (max_le (le_max_left _ _) h.own)
    answers := h'.answers.trans h.answers
    intake := h'.intake.trans (max_le (le_max_left _ _) h.intake)
    pass := h'.pass.trans (max_le (le_max_left _ _) h.pass)
    forward := h'.forward.trans (max_le (le_max_left _ _) h.forward) }

/-! ## Ports -/

theorem setPort_keeps (h : KeepsUnits P) (p : Port) (x : LinkPort) (s : State) (hs : P s) : P (s.setPort p x) :=
  h.traffic _ _ (Link.setPort_fits _ _ _) hs

theorem pauseIfFull_keeps (h : KeepsUnits P) (s : State) (hs : P s) : P (pauseIfFull s) := by
  unfold pauseIfFull
  split
  · exact h.traffic _ _ { Link.Fits.refl (makeMark .pause s).link with } (makeMark_keeps h _ _ hs)
  · exact hs

theorem resumeIfDrained_keeps (h : KeepsUnits P) (s : State) (hs : P s) : P (resumeIfDrained s) := by
  unfold resumeIfDrained
  split
  · exact h.traffic _ _ { Link.Fits.refl (makeMark .resume s).link with } (makeMark_keeps h _ _ hs)
  · exact hs

theorem countBad_keeps (h : KeepsUnits P) (p : Port) (s : State) (hs : P s) : P (countBad p s) := by
  cases p <;> exact setCounts_keeps h _ _ hs

theorem portDown_keeps (h : KeepsUnits P) (p : Port) (s : State) (hs : P s) : P (portDown p s) :=
  h.traffic _ _ ((Link.setPort_fits _ _ _).trans (Link.leftUp_fits _ _)) hs

theorem alignPort_keeps (h : KeepsUnits P) (p : Port) (f : List Byte) (s : State) (hs : P s) : P (alignPort p f s) := by
  have hup : P (portUp p (frameSeq f) s) := by
    unfold portUp
    cases p with
    | near => exact setPort_keeps h _ _ _ hs
    | far => exact pauseIfFull_keeps h _ (setPort_keeps h _ _ _ hs)
  unfold alignPort
  dsimp only
  repeat' split
  · exact countBad_keeps h _ _ (setPort_keeps h _ _ _ hs)
  · exact hup
  · exact setPort_keeps h _ _ _ hs
  · exact hs

theorem failPortFrame_keeps (h : KeepsUnits P) (p : Port) (s : State) (hs : P s) : P (failPortFrame p s) := by
  have ht := countBad_keeps h p _ (setPort_keeps h p { s.link.port p with failures := (s.link.port p).failures + 1 } _ hs)
  unfold failPortFrame
  dsimp only
  split
  · exact portDown_keeps h _ _ ht
  · exact ht

theorem placeOrder_keeps (h : KeepsUnits P) (o : Order) (b : Bool) (s : State) (hs : P s) : P (placeOrder o b s) := by
  unfold placeOrder
  split
  · next hroom =>
    refine h.traffic _ _ { Link.Fits.refl s.link with intake := le_max_of_le_left ?_ } hs
    rw [List.length_append]
    exact hroom
  · exact setCounts_keeps h _ _ hs

theorem forwardEntry_keeps (h : KeepsUnits P) (e : Forward) (s : State) (hs : P s) : P (forwardEntry e s) := by
  unfold forwardEntry
  split
  · next hroom =>
    refine h.traffic _ _ { Link.Fits.refl s.link with forward := le_max_of_le_left ?_ } hs
    rw [List.length_append]
    exact hroom
  · split
    · exact setCounts_keeps h _ _ hs
    · exact hs

theorem orderArrives_keeps (h : KeepsUnits P) (o : Order) (s : State) (hs : P s) : P (orderArrives o s) := by
  have hplace : ∀ b, P (placeOrder o b s) := fun b => placeOrder_keeps h _ _ _ hs
  have hpass : P (passOrder o s) := by
    unfold passOrder
    split
    · exact forwardEntry_keeps h _ _ hs
    · exact hplace _
  unfold orderArrives
  dsimp only
  repeat' split
  · exact hplace _
  · exact hpass
  · exact hplace _
  · exact forwardEntry_keeps h _ _ (hplace _)
  · exact hplace _
  · exact hpass

theorem chained_keeps (h : KeepsDeclare P) (s : State) (hs : P s) : P (chained s) := by
  unfold chained
  split
  · exact hs
  · exact h.declare _ _ _ hs

theorem burstArrives_keeps (h : KeepsDeclare P) (s : State) (hs : P s) : P (burstArrives s) := by
  unfold burstArrives
  refine chained_keeps h _ ?_
  split
  · exact forwardEntry_keeps h.toKeepsUnits _ _ hs
  · exact hs

theorem recordArrives_keeps (h : KeepsDeclare P) (b : List Byte) (s : State) (hs : P s) : P (recordArrives b s) := by
  have ht : P (if s.link.passFill + b.length / 16 ≤ 64 then
        pauseIfFull (s.setLink { s.link with pass := s.link.pass ++ [b] })
      else s.setCounts { s.link.counts with overflow := tallyAdd s.link.counts.overflow 1 }) := by
    split
    · next hroom =>
      refine pauseIfFull_keeps h.toKeepsUnits _
        (h.traffic _ _ { Link.Fits.refl s.link with pass := le_max_of_le_left ?_ } hs)
      simpa [Link.passFill] using hroom
    · exact setCounts_keeps h.toKeepsUnits _ _ hs
  unfold recordArrives
  dsimp only
  generalize (if s.link.passFill + b.length / 16 ≤ 64 then _ else _) = t at ht ⊢
  split
  · exact chained_keeps h _ ht
  · exact ht

theorem beginNear_keeps (h : KeepsUnits P) (s : State) (hs : P s) : P (beginNear s) := by
  unfold beginNear
  split
  · exact hs
  · exact h.traffic _ _ { Link.Fits.refl s.link with } hs

theorem beginFar_keeps (h : KeepsUnits P) (s : State) (hs : P s) : P (beginFar s) := by
  unfold beginFar
  split
  · exact hs
  · exact h.traffic _ _ { Link.Fits.refl s.link with } hs

theorem endNear_keeps (h : KeepsUnits P) (s : State) (hs : P s) : P (endNear s) := by
  unfold endNear
  split
  · exact hs
  · next x _ =>
    have ht := h.traffic s _ (Link.nearSent_fits s.link x) hs
    refine beginNear_keeps h _ ?_
    split
    · exact resumeIfDrained_keeps h _ ht
    · exact ht

theorem endFar_keeps (h : KeepsUnits P) (s : State) (hs : P s) : P (endFar s) := by
  unfold endFar
  split
  · exact hs
  · exact beginFar_keeps h _ (h.traffic _ _ (Link.farSent_fits _ _) hs)

theorem takeFrame_keeps (h : Keeps P) (f : LinkFrame) (s : State) (hs : P s) : P (takeFrame f s) := by
  have hpause : ∀ b, P (setNearPause b s) := fun b => h.traffic _ _ { Link.Fits.refl s.link with } hs
  unfold takeFrame
  split
  · exact hs
  · exact orderArrives_keeps h.toKeepsUnits _ _ hs
  · exact hpause _
  · exact beginNear_keeps h.toKeepsUnits _ (hpause _)
  · exact burstArrives_keeps h.toKeepsDeclare _ hs
  · exact recordArrives_keeps h.toKeepsDeclare _ _ hs

theorem portArrival_keeps (h : Keeps P) (p : Port) (f : List Byte) (s : State) (hs : P s) :
    P (portArrival p f s) := by
  unfold portArrival upPortFrame
  repeat' split
  · exact alignPort_keeps h.toKeepsUnits _ _ _ hs
  · exact failPortFrame_keeps h.toKeepsUnits _ _ hs
  · exact takeFrame_keeps h _ _ (setPort_keeps h.toKeepsUnits _ _ _ hs)

theorem portSignalLost_keeps (h : KeepsUnits P) (p : Port) (s : State) (hs : P s) : P (portSignalLost p s) := by
  have ht := setPort_keeps h p { s.link.port p with signal := false } s hs
  unfold portSignalLost
  dsimp only
  split
  · exact portDown_keeps h _ _ ht
  · exact setPort_keeps h _ _ _ ht

theorem tallyExpires_keeps (h : Keeps P) (s : State) (hs : P s) : P (tallyExpires s) := by
  have ht : P (s.setLink
      { s.link with tallyExpiry := s.link.tallyExpiry.map (fun x => tickAdd x s.link.tallyInterval) }) :=
    h.traffic _ _ { Link.Fits.refl s.link with } hs
  unfold tallyExpires
  dsimp only
  split
  · exact ht
  · unfold offerTally
    dsimp only
    split
    · refine h.lanes _ _ (fun l => ?_) (h.traffic _ _ { Link.offer_fits _ _ _ with } ht)
      rw [Fin.getElem_fin, mapTable_get]
      rfl
    · exact h.traffic _ _ (Link.offer_fits _ _ _) ht

/-! ## The effects of orders -/

theorem writeSensor_keeps (h : KeepsEffects P) (e : IntakeEntry) (s : State) (hd : sensorDuplicate e s = false)
    (hs : P s) : P (writeSensor e s) := by
  unfold writeSensor
  split
  · next c n home hc hn _ =>
    refine setDetector_keeps h.toKeeps _ _ _ (setChannel_keeps h.toKeepsTests _ _ _ (h.sensor _ _ _ (fun d hne m hm => ?_) hs))
    subst hm
    have hindex := index?_eq_some_iff.1 hc
    simp only [sensorDuplicate, hn, List.any_eq_false, Bool.and_eq_true, Bool.not_eq_true', beq_iff_eq,
      beq_eq_false_iff_ne, hindex] at hd
    exact fun hm => hd d (List.mem_finRange d) ⟨fun hv => hne (Fin.ext hv), hm⟩
  · exact hs

theorem writePair_keeps (h : KeepsEffects P) (e : IntakeEntry) (s : State) (hd : pairDuplicate e s = false)
    (hs : P s) : P (writePair e s) := by
  unfold writePair
  split
  · next i hi =>
    split
    · exact h.pair _ _ _ (fun _ _ _ _ hy => absurd hy (by simp)) hs
    · next hkey =>
      split
      · next x hx =>
        refine h.pair _ _ _ (fun j hj y z hy hz hsame => ?_) hs
        obtain rfl := Option.some.inj hy
        have hdup := (pairDuplicate_iff (Bool.eq_false_iff.2 hkey) (index?_eq_some_iff.1 hi) hx).2 ⟨j, hj, z, hz, hsame⟩
        exact absurd hdup (by rw [hd]; exact Bool.false_ne_true)
      · exact hs
  · exact hs

/-- SET-ROLE without a conflict keeps the law of the GAUGE lanes (R3). -/
theorem changeRole_keeps (h : KeepsEffects P) (l : Fin 4) (r : LaneRole) (s : State)
    (hr : r = .gauge → ∀ k : Fin 4, k ≠ l → s.lanes[k].role ≠ .gauge) (hs : P s) : P (changeRole l r s) := by
  unfold changeRole
  exact tryAlign_keeps h.toKeeps _ _ (laneLeft_keeps h.toKeeps _ _ _
    (notify_keeps h.toKeepsBlocks _ _ (h.role _ _ _ hr hs)))

theorem startBlocks_keeps (h : KeepsEffects P) (s : State) (hb : s.run.bypass = false) (hs : P s) :
    P (startBlocks s) := by
  unfold startBlocks
  exact h.anyCells _ _ (h.toRun _ _ hb rfl (h.anyTracker _ _ (le_max_right _ _) (h.groups _ _ id hs)))

theorem startRun_keeps (h : KeepsEffects P) (s : State) (hb : s.run.bypass = false) (hs : P s) : P (startRun s) := by
  have hbypass : (startCells (startCapture s)).run.bypass = false := by
    rw [startCells_same (g := fun t => t.run.bypass) ⟨⟨fun _ _ => rfl⟩, fun _ _ => rfl⟩,
      startCapture_same (g := fun t => t.run.bypass) ⟨⟨fun _ _ => rfl⟩, fun _ _ => rfl⟩, hb]
  rw [startRun_eq]
  exact forEach_keeps P _ _ (fun c _ t ht => makeLive_keeps h.toKeeps c t ht) _
    (startBlocks_keeps h _ hbypass (startCells_keeps h.toKeepsBlocks _ (startCapture_keeps h.toKeepsBlocks s hs)))

/-- STOP up to the open groups: every detector OFF and the test ended (R162). -/
def stopHits (s : State) : State :=
  endTest presentQuietly .withheld .aborted
    (forEach allChannels (detectorOff presentQuietly .halt) (forEach allChannels sealChannel s))

/-- The rest of STOP (R162). -/
def stopBlocks (s : State) : State :=
  let s5 := s.setTracker s.tracker.disarm
  let s6 := s5.setCells { s5.cells with boundary := none }
  s6.setRun { s6.run with state := .idle }

theorem stopRun_eq (s : State) : stopRun s = stopBlocks (haltGroups (stopHits s)) := by
  unfold stopRun stopBlocks stopHits
  rfl

theorem stopRun_test (s : State) : (haltGroups (stopHits s)).pulse.test = .none := by
  rw [haltGroups_same (g := fun t => t.pulse.test) ⟨⟨⟨fun _ _ => rfl⟩, fun _ _ => rfl⟩, fun _ _ => rfl⟩]
  unfold stopHits
  exact endTest_test _ _ _ _

theorem stopBlocks_keeps (h : KeepsEffects P) (s : State) (ht : s.pulse.test = .none) (hs : P s) :
    P (stopBlocks s) := by
  unfold stopBlocks
  exact h.toIdle _ _ rfl (fun _ => ht) (h.anyCells _ _ (h.anyTracker _ _ (le_max_right _ _) hs))

theorem stopRun_keeps (h : KeepsEffects P) (s : State) (hs : P s) : P (stopRun s) := by
  have hq := presentQuietly_keeps h.toKeepsWork
  have hseal := forEach_keeps P allChannels _ (fun c _ t ht => sealChannel_keeps h.toKeepsBlocks c t ht) s hs
  rw [stopRun_eq]
  exact stopBlocks_keeps h _ (stopRun_test s) (haltGroups_keeps h.toKeepsBlocks _
    (endTest_keeps h.toKeepsTests hq _ _ _ (allOff_keeps h.toKeepsTests hq _ _ hseal)))

theorem releaseRun_keeps (h : KeepsEffects P) (s : State) (hb : s.run.bypass = false) (hs : P s) : P (releaseRun s) := by
  have hbypass : (stopDump s).run.bypass = false := by
    rw [stopDump_same (g := fun t => t.run.bypass) ⟨⟨fun _ _ => rfl⟩, fun _ _ => rfl⟩, hb]
  exact h.toIdle _ _ rfl (fun ht => absurd ht (by simp [hbypass])) (stopDump_keeps h.toKeepsBlocks _ hs)

/-- An abandoned access leaves the memory in canonical form. -/
theorem Capture.wf_abandoned (u : Capture) (h : Memory.wf u.memory) : Memory.wf u.abandoned := by
  unfold Capture.abandoned
  split
  · exact Memory.wf_forget _ _ h
  · exact h

theorem Capture.restart_fits (u : Capture) : u.Fits u.restart := ⟨u.wf_abandoned, Nat.zero_le _⟩

/-- RESTART as an update of each block. -/
theorem restartPart_eq (s : State) :
    restartPart s =
      (((((((((((s.setRun s.run.restart).setLink s.link.restart).setDetectors
        (Vector.replicate 32 Detector.reset)).setPulse Pulse.reset).setGrouping s.grouping.restart).setCapture
        s.capture.restart).setCells s.cells.restart).setTracker (Tracker.resetWith s.tracker.params)).setTimebase
        { s.timebase with set := false }).setChannels
        (mapTable (fun c => { c with pending := c.active }) s.channels)).setLanes (mapTable Lane.restart s.lanes)) := by
  simp only [restartPart, State.setRun, State.setLink, State.setDetectors, State.setPulse, State.setGrouping,
    State.setCapture, State.setCells, State.setTracker, State.setTimebase, State.setChannels, State.setLanes]

theorem restartPart_keeps (h : KeepsEffects P) (s : State) (hs : P s) : P (restartPart s) := by
  have hlink : ∀ t, t.link = s.link → P t → P (t.setLink s.link.restart) := fun t e =>
    h.traffic t _ (e ▸ s.link.restart_fits)
  have hcapture : ∀ t, t.capture = s.capture → P t → P (t.setCapture s.capture.restart) := fun t e =>
    h.capture t _ (e ▸ s.capture.restart_fits)
  have hlanes : ∀ t, t.lanes = s.lanes → P t → P (t.setLanes (mapTable Lane.restart s.lanes)) := fun t e =>
    h.lanes t _ (fun l => by rw [e, Fin.getElem_fin, mapTable_get]; rfl)
  have hrun := h.toIdle s s.run.restart rfl (fun hb => absurd hb Bool.false_ne_true) hs
  have hpulse := h.pulse _ Pulse.reset ⟨fun _ => rfl, Nat.zero_le _⟩
    (h.detectors _ (Vector.replicate 32 Detector.reset) (hlink _ (by simp) hrun))
  have hgroups := h.groups _ s.grouping.restart (fun hl => hl.sublist (List.nil_sublist _)) hpulse
  have htracker := h.anyTracker _ (Tracker.resetWith s.tracker.params) (Nat.zero_le _)
    (h.anyCells _ s.cells.restart (hcapture _ (by simp) hgroups))
  have hchannels := h.channels _ (mapTable (fun c => { c with pending := c.active }) s.channels)
    (h.timebase _ { s.timebase with set := false } htracker)
  rw [restartPart_eq]
  exact hlanes _ (by simp) hchannels

theorem startTest_keeps (h : KeepsEffects P) (e : IntakeEntry) (s : State) (hb : s.run.bypass = false)
    (hr : s.run.state = .idle ∨ s.run.state = .run) (hs : P s) : P (startTest e s) := by
  unfold startTest
  split
  · exact hs
  · next n c _ =>
    have ht : ∀ i, P ((sendFireMark c s).setPulse { Pulse.reset with test := .waiting i 0 }) := fun i =>
      h.newTest _ _ hb hr rfl (h.fireMark _ _ hs)
    dsimp only
    split
    · exact forEach_keeps P _ _ (fun c _ t ht => makeLive_keeps h.toKeeps c t ht) _ (ht _)
    · exact ht _

/-! ## The execution of an order -/

/-- A predicate that also survives an answer for which there is room (R179, R186). -/
structure KeepsCommands (P : State → Prop) : Prop extends KeepsEffects P where
  answer : ∀ o r l s, s.link.answers.length < 4 → P s → P (placeAnswer o r l s) := by
    intros; assumption

end Sys2Proof.Machine
end

section
/-! Every command ends in a next state that keeps what `KeepsCommands` describes. -/

namespace Sys2Proof.Machine

variable {P : State → Prop}

/-! ## The execution of an order -/

theorem KeepsEffects.answers_le (n : Nat) : KeepsEffects (fun s => s.link.answers.length ≤ n) := by
  have hwork : KeepsWork (fun s => s.link.answers.length ≤ n) :=
    KeepsBlocks.toKeepsWork { link := fun _ _ hf h => hf.fits.answers.trans h } fun _ _ h => h
  have htests : KeepsUnits (fun s => s.link.answers.length ≤ n) :=
    { hwork with traffic := fun _ _ hf h => hf.answers.trans h }
  exact
    { htests with
      declare := declareBurst_keeps htests fun _ _ _ h => h
      tail := fun s _ => tailEnd_keeps htests.toKeepsTests (fun _ _ _ h => h) s
      reset := fun _ _ => Nat.zero_le _ }

theorem headTaken_keeps (h : KeepsUnits P) {s : State} {e : IntakeEntry} {rest : List IntakeEntry} (hv : Serves s e rest)
    (hs : P s) : P (s.headTaken rest) := by
  refine h.traffic _ _ { Link.Fits.refl s.link with intake := le_max_of_le_right ?_ } hs
  rw [hv.2.2, List.length_cons]
  exact Nat.le_succ _

/-- An execution keeps what its effect keeps once the refusal list is passed. -/
theorem execute_keeps (h : KeepsCommands P) {want : IntakeEntry → Bool} {check : IntakeEntry → State → Option Reason}
    {effect : IntakeEntry → State → State} (contents : IntakeEntry → State → List Byte)
    (heffect : ∀ e t, check e t = none → ∀ Q, KeepsEffects Q → Q t → Q (effect e t)) (s : State) (hs : P s) :
    P (execute want check effect contents s) := by
  by_cases hv : ∃ e rest, Serves s e rest ∧ want e = true
  · obtain ⟨e, rest, hv, hw⟩ := hv
    have ht := headTaken_keeps h.toKeepsUnits hv hs
    have hroom : (s.headTaken rest).link.answers.length ≤ 3 := Nat.le_of_lt_succ hv.2.1
    cases hc : check e (s.headTaken rest) with
    | some r =>
      rw [execute_refused hv hw hc]
      exact h.answer _ _ _ _ (Nat.lt_succ_of_le hroom) ht
    | none =>
      rw [execute_done hv hw hc]
      have hanswers := heffect e _ hc _ (KeepsEffects.answers_le 3) hroom
      exact h.answer _ _ _ _ (Nat.lt_succ_of_le hanswers) (heffect e _ hc P h.toKeepsEffects ht)
  · rw [execute_other fun f r hf => by
      by_contra hw
      exact hv ⟨f, r, hf, by simpa using hw⟩]
    exact hs

theorem executeOrder_keeps (h : KeepsCommands P) {want : IntakeEntry → Bool}
    {check : IntakeEntry → State → Option Reason} {effect : IntakeEntry → State → State}
    (heffect : ∀ e t, check e t = none → ∀ Q, KeepsEffects Q → Q t → Q (effect e t)) (s : State) (hs : P s) :
    P (executeOrder want check effect s) := execute_keeps h _ heffect s hs

theorem writeItem_keeps (h : KeepsCommands P) {code : Nat} {conditions : IntakeEntry → State → List (Bool × Reason)}
    {effect : IntakeEntry → State → State}
    (heffect : ∀ e t, (∀ p ∈ conditions e t, p.1 = false) → ∀ Q, KeepsEffects Q → Q t → Q (effect e t)) (s : State)
    (hs : P s) : ∃ t, writeItem code conditions effect s = .next t ∧ P t :=
  ⟨_, rfl, executeOrder_keeps h (fun e t hc => heffect e t fun p hp =>
    (firstReason_none_iff _).1 hc p (List.mem_cons_of_mem _ (List.mem_cons_of_mem _ hp))) s hs⟩

theorem whileRunning_keeps (f : State → State) (hf : ∀ t, P t → P (f t)) (s : State) (hs : P s) :
    P (whileRunning f s) := by
  unfold whileRunning
  split
  · exact hf _ hs
  · exact hs

/-- What a condition keeps on both of its sides. -/
theorem ite_keeps {b : Prop} [Decidable b] {t u : State} (ht : P t) (hu : P u) : P (if b then t else u) := by
  split
  · exact ht
  · exact hu

/-! ## The effects of the item writes -/

theorem writeBank_keeps (h : KeepsTests P) (e : IntakeEntry) (s : State) (hs : P s) : P (writeBank e s) := by
  unfold writeBank
  split
  · exact setChannel_keeps h _ _ _ hs
  · exact hs

theorem writeCapture_keeps (h : KeepsTests P) (e : IntakeEntry) (s : State) (hs : P s) : P (writeCapture e s) := by
  unfold writeCapture
  dsimp only
  split
  · exact setChannel_keeps h _ _ _ hs
  · exact hs

theorem writePhaseMap_keeps (h : Keeps P) (e : IntakeEntry) (s : State) (hs : P s) : P (writePhaseMap e s) := by
  unfold writePhaseMap
  split
  · exact followPhase_keeps h.toKeepsTests _ (h.phaseMap _ _ hs)
  · exact hs

theorem writeCell_keeps (h : KeepsBlocks P) (e : IntakeEntry) (s : State) (hs : P s) : P (writeCell e s) := by
  unfold writeCell
  split
  · exact h.cells _ _ rfl hs
  · exact hs

theorem writeClass_keeps (h : KeepsBlocks P) (e : IntakeEntry) (s : State) (hs : P s) : P (writeClass e s) := by
  unfold writeClass
  split
  · exact h.cells _ _ rfl hs
  · exact hs

theorem writeLane_keeps (h : Keeps P) (e : IntakeEntry) (s : State) (hs : P s) : P (writeLane e s) := by
  unfold writeLane
  split
  · exact setLane_keeps h _ _ _ rfl hs
  · exact hs

theorem syncNow_keeps (h : Keeps P) (e : IntakeEntry) (s : State) (hs : P s) : P (syncNow e s) :=
  h.traffic _ _ { Link.Fits.refl s.link with } (h.timebase _ _ hs)

/-- A role change that R3 lets pass keeps the law of the GAUGE lanes. -/
theorem roleConflict_eq_false {e : IntakeEntry} {s : State} {l : Fin 4} {r : LaneRole} (he : roleChange e = some (l, r))
    (h : roleConflict e s = false) (hr : r = .gauge) (k : Fin 4) (hk : k ≠ l) : s.lanes[k].role ≠ .gauge := by
  simp only [roleConflict, he, hr, beq_self_eq_true, Bool.true_and, List.any_eq_false, Bool.and_eq_true, Bool.not_eq_true',
    beq_eq_false_iff_ne, beq_iff_eq] at h
  exact fun hg => h k (List.mem_finRange k) ⟨hk, hg⟩

/-! ## Every command -/

theorem accessEnds_keeps (h : KeepsBlocks P) (k : AccessKind) (o : AccessOutcome) (s : State) (hs : P s) :
    P (accessEnds k o s) := by
  unfold accessEnds
  split
  · exact hs
  · exact ite_keeps (endAccess_keeps h _ _ _ hs) hs

theorem accessTimesOut_keeps (h : KeepsBlocks P) (s : State) (hs : P s) : P (accessTimesOut s) := by
  unfold accessTimesOut
  split
  · exact hs
  · exact ite_keeps (endAccess_keeps h _ _ _ hs) hs

theorem readoutLine_keeps (h : KeepsBlocks P) (s : State) (hs : P s) : P (readoutLine s) := by
  unfold readoutLine
  repeat' split
  · exact hs
  · exact settleCapture_keeps h _ (readoutTake_keeps h _ _ _ hs)
  · exact hs

theorem dumpLine_keeps (h : KeepsBlocks P) (s : State) (hs : P s) : P (dumpLine s) := by
  unfold dumpLine
  repeat' split
  · exact hs
  · exact dumpTake_keeps h _ _ hs
  · exact hs

theorem beginRunning_keeps (h : Keeps P) (s : State) (hs : P s) : P (beginRunning s) := by
  have hp := h.power s { s.power with settling := false } hs
  unfold beginRunning
  exact beginFar_keeps h.toKeepsUnits _ (beginNear_keeps h.toKeepsUnits _ (allAlign_keeps h _ hp))

theorem laneFrame_keeps (h : Keeps P) (l : Fin 4) (f : List Byte) (s : State) (hs : P s) : P (laneFrame l f s) :=
  whileRunning_keeps _ (fun _ ht => settleCapture_keeps h.toKeepsBlocks _ (laneArrival_keeps h _ _ _ ht)) s hs

theorem slotBoundary_keeps (h : KeepsUnits P) (s : State) (hs : P s) : P (slotBoundary s) :=
  h.anyCells _ _ (shiftSlots_keeps h.toKeepsBlocks _ hs)

/-- Every command ends in a next state, and keeps what `KeepsCommands` describes. -/
theorem exec_keeps (h : KeepsCommands P) (c : Instr) (s : State) (hs : P s) : ∃ t, exec c s = .next t ∧ P t := by
  have hk := h.toKeeps
  have hr := h.toKeeps
  cases c with
  | resetAssert pin => exact ⟨_, rfl, h.reset _ (hk.power _ _ hs)⟩
  | resetRelease => exact ⟨_, rfl, ite_keeps (hk.timebase _ _ (hk.power _ _ hs)) hs⟩
  | settleEnd => exact ⟨_, rfl, ite_keeps (beginRunning_keeps hk _ hs) hs⟩
  | signalDetect l =>
    have hset := setLane_keeps hk l { s.lanes[l] with signal := true } s rfl hs
    exact ⟨_, rfl, ite_keeps (tryAlign_keeps hk _ _ hset) hset⟩
  | lossOfSignal l =>
    exact ⟨_, rfl, ite_keeps (settleCapture_keeps hk.toKeepsBlocks _ (laneSignalLost_keeps hr _ _ hs))
      (setLane_keeps hk _ _ _ rfl hs)⟩
  | sampleFrame l f => exact ⟨_, rfl, laneFrame_keeps hr _ _ _ hs⟩
  | gaugeFrame l f => exact ⟨_, rfl, laneFrame_keeps hr _ _ _ hs⟩
  | sampleProcessed c =>
    exact ⟨_, rfl, whileRunning_keeps _
      (fun _ ht => ite_keeps (settleCapture_keeps hk.toKeepsBlocks _ (feedStep_keeps hr _ _ ht)) ht) s hs⟩
  | linkSignalDetect p => exact ⟨_, rfl, ite_keeps (setPort_keeps hk.toKeepsUnits _ _ _ hs) (setPort_keeps hk.toKeepsUnits _ _ _ hs)⟩
  | linkLossOfSignal p => exact ⟨_, rfl, ite_keeps (portSignalLost_keeps hk.toKeepsUnits _ _ hs) (setPort_keeps hk.toKeepsUnits _ _ _ hs)⟩
  | idleFrame p f => exact ⟨_, rfl, whileRunning_keeps _ (fun t ht => portArrival_keeps hr p f t ht) s hs⟩
  | orderFrame f => exact ⟨_, rfl, whileRunning_keeps _ (fun t ht => portArrival_keeps hr .near f t ht) s hs⟩
  | pauseMark f => exact ⟨_, rfl, whileRunning_keeps _ (fun t ht => portArrival_keeps hr .near f t ht) s hs⟩
  | resumeMark f => exact ⟨_, rfl, whileRunning_keeps _ (fun t ht => portArrival_keeps hr .near f t ht) s hs⟩
  | burstMark f =>
    exact ⟨_, rfl, whileRunning_keeps _
      (fun t ht => settleCapture_keeps hk.toKeepsBlocks _ (portArrival_keeps hr .near f t ht)) s hs⟩
  | recordFrame f =>
    exact ⟨_, rfl, whileRunning_keeps _
      (fun t ht => settleCapture_keeps hk.toKeepsBlocks _ (portArrival_keeps hr .far f t ht)) s hs⟩
  | nearTransmissionEnd => exact ⟨_, rfl, whileRunning_keeps _ (endNear_keeps hk.toKeepsUnits) s hs⟩
  | farTransmissionEnd => exact ⟨_, rfl, whileRunning_keeps _ (endFar_keeps hk.toKeepsUnits) s hs⟩
  | assign =>
    refine ⟨_, rfl, executeOrder_keeps h ?_ s hs⟩
    exact fun _ _ _ _ hq ht => hq.run _ _ rfl rfl ht
  | read => exact ⟨_, rfl, execute_keeps h _ (fun _ _ _ _ _ ht => ht) s hs⟩
  | write => exact ⟨_, rfl, executeOrder_keeps h (fun _ _ _ _ _ ht => ht) s hs⟩
  | channelBankWrite => exact writeItem_keeps h (fun e t _ _ hq ht => writeBank_keeps hq.toKeepsTests e t ht) s hs
  | channelCaptureWrite => exact writeItem_keeps h (fun e t _ _ hq ht => writeCapture_keeps hq.toKeepsTests e t ht) s hs
  | sensorMapWrite =>
    exact writeItem_keeps h (fun e t hc _ hq ht =>
      writeSensor_keeps hq e t (hc (sensorDuplicate e t, .duplicate) (by simp)) ht) s hs
  | phaseMapWrite => exact writeItem_keeps h (fun e t _ _ hq ht => writePhaseMap_keeps hq.toKeeps e t ht) s hs
  | locationHeaderWrite =>
    refine writeItem_keeps h ?_ s hs
    exact fun _ _ _ _ hq ht => hq.groups _ _ id ht
  | pairWrite =>
    exact writeItem_keeps h (fun e t hc _ hq ht =>
      writePair_keeps hq e t (hc (pairDuplicate e t, .duplicate) (by simp)) ht) s hs
  | cellWrite => exact writeItem_keeps h (fun e t _ _ hq ht => writeCell_keeps hq.toKeepsBlocks e t ht) s hs
  | classWrite => exact writeItem_keeps h (fun e t _ _ hq ht => writeClass_keeps hq.toKeepsBlocks e t ht) s hs
  | rateSlotWrite => exact writeItem_keeps h (fun _ _ _ _ hq ht => hq.anyCells _ _ ht) s hs
  | trackerWrite =>
    refine writeItem_keeps h ?_ s hs
    exact fun _ _ _ _ hq ht => hq.anyTracker _ _ (le_max_right _ _) ht
  | captureSetupWrite =>
    refine writeItem_keeps h ?_ s hs
    exact fun _ t _ _ hq ht => hq.capture _ _ { Capture.Fits.refl t.capture with } ht
  | laneWrite => exact writeItem_keeps h (fun e t _ _ hq ht => writeLane_keeps hq.toKeeps e t ht) s hs
  | tailSpanWrite =>
    refine writeItem_keeps h ?_ s hs
    exact fun _ _ _ _ hq ht => hq.run _ _ rfl rfl ht
  | chainLatencyWrite => exact writeItem_keeps h (fun _ _ _ _ hq ht => hq.timebase _ _ ht) s hs
  | tallyIntervalWrite =>
    refine writeItem_keeps h ?_ s hs
    exact fun _ t _ _ hq ht => hq.traffic _ _ { Link.Fits.refl t.link with } ht
  | selectBank =>
    refine ⟨_, rfl, executeOrder_keeps h (fun e t _ _ hq ht => ?_) s hs⟩
    split
    · exact forEach_keeps _ _ _ (fun c _ u hu => setPending_keeps hq.toKeepsTests _ _ _ (hq.channels _ _ hu)) t ht
    · exact ht
  | selectBankFollow =>
    exact ⟨_, rfl, executeOrder_keeps h (fun e t _ _ hq ht => forEach_keeps _ _ _
      (fun c _ u hu => setPending_keeps hq.toKeepsTests _ _ _ (hq.channels _ _ hu)) t ht) s hs⟩
  | setRole =>
    refine ⟨_, rfl, executeOrder_keeps h (fun e t hc _ hq ht => ?_) s hs⟩
    have hconflict := (firstReason_none_iff _).1 hc (roleConflict e t, .conflict) (by simp)
    split
    · exact ht
    · next l r he =>
      exact settleCapture_keeps hq.toKeepsBlocks _ (changeRole_keeps hq l r t (roleConflict_eq_false he hconflict) ht)
  | sync => exact ⟨_, rfl, executeOrder_keeps h (fun e t _ _ hq ht => syncNow_keeps hq.toKeeps e t ht) s hs⟩
  | start =>
    exact ⟨_, rfl, executeOrder_keeps h (fun e t hc _ hq ht =>
      startRun_keeps hq t ((firstReason_none_iff _).1 hc (t.run.bypass, .state) (by simp)) ht) s hs⟩
  | stop =>
    exact ⟨_, rfl, executeOrder_keeps h (fun _ t _ _ hq ht =>
      settleCapture_keeps hq.toKeepsBlocks _ (stopRun_keeps hq t ht)) s hs⟩
  | freeze =>
    exact ⟨_, rfl, executeOrder_keeps h (fun _ t _ _ hq ht =>
      settleCapture_keeps hq.toKeepsBlocks _ (hq.declare _ _ t ht)) s hs⟩
  | release =>
    exact ⟨_, rfl, executeOrder_keeps h (fun e t hc _ hq ht =>
      releaseRun_keeps hq t ((firstReason_none_iff _).1 hc (t.run.bypass, .state) (by simp)) ht) s hs⟩
  | restart =>
    exact ⟨_, rfl, executeOrder_keeps h (fun _ t _ _ hq ht =>
      allAlign_keeps hq.toKeeps _ (restartPart_keeps hq t ht)) s hs⟩
  | clearCell =>
    exact ⟨_, rfl, executeOrder_keeps h (fun e t _ _ hq ht => forEach_keeps _ _ _
      (fun n _ u hu => changeAlarm_keeps hq.toKeepsBlocks _ _ _ _ _ hu) t ht) s hs⟩
  | pulse =>
    refine ⟨_, rfl, executeOrder_keeps h (fun e t hc _ hq ht => ?_) s hs⟩
    have hpass := (firstReason_none_iff _).1 hc
    have hb := hpass (t.run.bypass, .state) (by simp)
    have hstate := hpass (t.run.state == .tailing || t.run.state == .frozen, .state) (by simp)
    refine startTest_keeps hq e t hb ?_ ht
    revert hstate
    cases t.run.state <;> simp
  | bypassOn =>
    refine ⟨_, rfl, executeOrder_keeps h (fun e t hc _ hq ht => ?_) s hs⟩
    have hpass := (firstReason_none_iff _).1 hc
    have hidle := hpass (t.notIdle, .state) (by simp)
    have htest := hpass (t.testing, .busy) (by simp)
    refine hq.toIdle _ _ (by simpa [State.notIdle] using hidle) (fun _ => ?_) ht
    revert htest
    unfold State.testing TestState.inFlight
    split <;> simp_all
  | bypassOff => exact ⟨_, rfl, executeOrder_keeps h (fun _ t _ _ hq ht => hq.bypassOff t ht) s hs⟩
  | unclaimed => exact ⟨_, rfl, executeOrder_keeps h (fun _ _ _ _ _ ht => ht) s hs⟩
  | unknownOrder => exact ⟨_, rfl, executeOrder_keeps h (fun _ _ _ _ _ ht => ht) s hs⟩
  | holdTimerExpiry n => exact ⟨_, rfl, whileRunning_keeps _ (fun _ ht => ite_keeps (closeTest_keeps hk.toKeepsBlocks _ ht) ht) s hs⟩
  | rateSlotBoundary => exact ⟨_, rfl, whileRunning_keeps _ (fun _ ht => ite_keeps (slotBoundary_keeps hk.toKeepsUnits _ ht) ht) s hs⟩
  | tailEnd =>
    refine ⟨_, rfl, whileRunning_keeps _ (fun t ht => ?_) s hs⟩
    split
    · next hdue =>
      simp only [State.tailDue, Bool.and_eq_true, beq_iff_eq] at hdue
      exact settleCapture_keeps hk.toKeepsBlocks _ (hr.tail t hdue.1 ht)
    · exact ht
  | tallyTimerExpiry =>
    exact ⟨_, rfl, whileRunning_keeps _ (fun _ ht => ite_keeps (tallyExpires_keeps hk _ ht) ht) s hs⟩
  | ringWriteComplete a => exact ⟨_, rfl, whileRunning_keeps _ (accessEnds_keeps hk.toKeepsBlocks _ _) s hs⟩
  | readoutReadComplete a => exact ⟨_, rfl, whileRunning_keeps _ (accessEnds_keeps hk.toKeepsBlocks _ _) s hs⟩
  | dumpReadComplete a => exact ⟨_, rfl, whileRunning_keeps _ (accessEnds_keeps hk.toKeepsBlocks _ _) s hs⟩
  | timeout => exact ⟨_, rfl, whileRunning_keeps _ (accessTimesOut_keeps hk.toKeepsBlocks) s hs⟩
  | readoutLineStart => exact ⟨_, rfl, whileRunning_keeps _ (readoutLine_keeps hk.toKeepsBlocks) s hs⟩
  | dumpLineStart => exact ⟨_, rfl, whileRunning_keeps _ (dumpLine_keeps hk.toKeepsBlocks) s hs⟩

end Sys2Proof.Machine
end

section
/-! The step invariants: the canonical memory (O56), the capacities (O57), the tables (O58), the run states (O59), the command
queue (O3), and the four invariants at reset (O60).  -/

namespace Sys2Proof.Machine

/-- A tick changes the timebase and the command queue alone. -/
theorem tick_keeps {P : State → Prop} (h : Keeps P) (hq : ∀ s x, P s → P (s.setPending x)) (s : State) (hs : P s) :
    P (tick s) := by
  have ht : P (countTick s) := by
    unfold countTick
    split
    · exact hs
    · exact h.timebase _ _ hs
  exact hq _ _ ht

/-- What every command keeps, a step keeps. -/
theorem step_keeps {P : State → Prop} (h : KeepsCommands P) (hq : ∀ s x, P s → P (s.setPending x)) (s t : State)
    (hs : P s) (ht : step s = .next t) : P t := by
  unfold step at ht
  split at ht
  · obtain rfl := Host.Outcome.next.inj ht
    exact tick_keeps h.toKeeps hq s hs
  · next c rest _ =>
    obtain ⟨u, hu, hkeep⟩ := exec_keeps h c _ (hq _ rest hs)
    obtain rfl := Host.Outcome.next.inj (hu.symm.trans ht)
    exact hkeep

/-! ## The command queue -/

theorem pending_commands (l : List Instr) : KeepsCommands (fun s => s.pending = l) := by
  have htests : KeepsUnits (fun s => s.pending = l) := { KeepsBlocks.toKeepsWork {} fun _ _ h => h with }
  exact
    { htests with
      declare := declareBurst_keeps htests fun _ _ _ h => h
      tail := fun s _ => tailEnd_keeps htests.toKeepsTests (fun _ _ _ h => h) s
      reset := fun _ h => h }

theorem exec_needsRunning {c : Instr} {s : State} (hr : s.running = false) (hc : needsRunning c = true) :
    exec c s = .next s := by
  have hwhile : ∀ f, whileRunning f s = s := fun f => if_neg (by simp [hr])
  have hexecute : ∀ want check effect contents, execute want check effect contents s = s :=
    fun _ _ _ _ => execute_other fun _ _ hv => absurd hv.1 (by simp [hr])
  cases c with
  | resetAssert _ | resetRelease | settleEnd | signalDetect _ | lossOfSignal _ | linkSignalDetect _
  | linkLossOfSignal _ => simp [needsRunning] at hc
  | sampleFrame _ _ | gaugeFrame _ _ | sampleProcessed _ | idleFrame _ _ | orderFrame _ | pauseMark _ | resumeMark _
  | burstMark _ | recordFrame _ | nearTransmissionEnd | farTransmissionEnd | holdTimerExpiry _ | rateSlotBoundary
  | tailEnd | tallyTimerExpiry | ringWriteComplete _ | readoutReadComplete _ | dumpReadComplete _ | timeout
  | readoutLineStart | dumpLineStart => exact congrArg Host.Outcome.next (hwhile _)
  | assign | read | write | channelBankWrite | channelCaptureWrite | sensorMapWrite | phaseMapWrite
  | locationHeaderWrite | pairWrite | cellWrite | classWrite | rateSlotWrite | trackerWrite | captureSetupWrite
  | laneWrite | tailSpanWrite | chainLatencyWrite | tallyIntervalWrite | selectBank | selectBankFollow | setRole
  | sync | start | stop | freeze | release | restart | clearCell | pulse | bypassOn | bypassOff | unclaimed
  | unknownOrder => exact congrArg Host.Outcome.next (hexecute _ _ _ _)

/-- Settles O3: the untouched queue is one of the things every command keeps. -/
theorem commandsComplete : Obligations.CommandsComplete :=
  ⟨fun c s => exec_keeps (pending_commands s.pending) c s rfl, fun _ _ hr hc => exec_needsRunning hr hc⟩

/-! ## The capture memory -/

theorem memory_commands : KeepsCommands MemoryCanonical := by
  have htests : KeepsUnits MemoryCanonical :=
    { KeepsBlocks.toKeepsWork { capture := fun _ _ hf h => hf.memory h } fun _ _ h => h with }
  exact
    { htests with
      declare := declareBurst_keeps htests fun _ _ _ h => h
      tail := fun s _ => tailEnd_keeps htests.toKeepsTests (fun _ _ _ h => h) s
      reset := fun s h => s.capture.wf_abandoned h }

/-- Settles O56: the memory is written and forgotten in canonical form, and by nothing else. -/
theorem memoryStaysCanonical : Obligations.MemoryStaysCanonical :=
  step_keeps memory_commands fun _ _ h => h

/-! ## The tables -/

theorem role_put {v : Vector Lane 4} {l : Fin 4} {x : Lane}
    (hx : x.role = .gauge → ∀ k : Fin 4, k ≠ l → v[k].role ≠ .gauge)
    (hv : ∀ j k : Fin 4, v[j].role = .gauge → v[k].role = .gauge → j = k) (j k : Fin 4)
    (hj : (put v l x)[j].role = .gauge) (hk : (put v l x)[k].role = .gauge) : j = k := by
  simp only [Fin.getElem_fin, put_get] at hj hk hx hv
  by_cases hjl : j = l <;> by_cases hkl : k = l
  · rw [hjl, hkl]
  · rw [if_pos hjl] at hj
    rw [if_neg hkl] at hk
    exact absurd hk (hx hj k hkl)
  · rw [if_neg hjl] at hj
    rw [if_pos hkl] at hk
    exact absurd hj (hx hk j hjl)
  · rw [if_neg hjl] at hj
    rw [if_neg hkl] at hk
    exact hv j k hj hk

theorem sensor_put {v : Vector (Option (Fin 32)) 32} {c : Fin 32} {n : Option (Fin 32)}
    (hn : ∀ d : Fin 32, d ≠ c → ∀ m, n = some m → v[d] ≠ some m)
    (hv : ∀ j k : Fin 32, ∀ m, v[j] = some m → v[k] = some m → j = k) (j k : Fin 32) (m : Fin 32)
    (hj : (put v c n)[j] = some m) (hk : (put v c n)[k] = some m) : j = k := by
  simp only [Fin.getElem_fin, put_get] at hj hk hn hv
  by_cases hjc : j = c <;> by_cases hkc : k = c
  · rw [hjc, hkc]
  · rw [if_pos hjc] at hj
    rw [if_neg hkc] at hk
    exact absurd hk (hn k hkc m hj)
  · rw [if_neg hjc] at hj
    rw [if_pos hkc] at hk
    exact absurd hj (hn j hjc m hk)
  · rw [if_neg hjc] at hj
    rw [if_neg hkc] at hk
    exact hv j k m hj hk

theorem key_put {v : Vector (Option PairEntry) 512} {i : Fin 512} {x : Option PairEntry}
    (hx : ∀ j : Fin 512, j ≠ i → ∀ y z, x = some y → v[j] = some z → ¬ (z.first = y.first ∧ z.second = y.second))
    (hv : ∀ j k : Fin 512, ∀ y z, v[j] = some y → v[k] = some z → y.first = z.first → y.second = z.second → j = k)
    (j k : Fin 512) (y z : PairEntry) (hj : (put v i x)[j] = some y) (hk : (put v i x)[k] = some z)
    (hfirst : y.first = z.first) (hsecond : y.second = z.second) : j = k := by
  simp only [Fin.getElem_fin, put_get] at hj hk hx hv
  by_cases hji : j = i <;> by_cases hki : k = i
  · rw [hji, hki]
  · rw [if_pos hji] at hj
    rw [if_neg hki] at hk
    exact absurd ⟨hfirst.symm, hsecond.symm⟩ (hx k hki y z hj hk)
  · rw [if_neg hji] at hj
    rw [if_pos hki] at hk
    exact absurd ⟨hfirst, hsecond⟩ (hx j hji z y hk hj)
  · rw [if_neg hji] at hj
    rw [if_neg hki] at hk
    exact hv j k y z hj hk hfirst hsecond

theorem fullResetLanes_role (v : Vector Lane 4) (l : Fin 4) :
    (fullResetLanes v)[l].role = if l = 3 then .gauge else .pod := by
  fin_cases l <;> rfl

/-- The tables after full reset: one GAUGE lane, no sensor mapped, no pair. -/
theorem TablesLawful.of_reset {s : State} (hl : ∀ l : Fin 4, s.lanes[l].role = if l = 3 then .gauge else .pod)
    (hm : s.sensorMap = Vector.replicate 32 none) (hp : s.pairs = Vector.replicate 512 none) : TablesLawful s where
  oneGauge k l hk hl' := by
    have h3 : ∀ j : Fin 4, s.lanes[j].role = .gauge → j = 3 := fun j hj => by
      rw [hl] at hj
      by_contra hne
      rw [if_neg hne] at hj
      cases hj
    rw [h3 k hk, h3 l hl']
  sensors c d n hc _ := by simp [hm] at hc
  keys i j x y hi _ _ _ := by simp [hp] at hi

theorem tables_commands : KeepsCommands TablesLawful := by
  have hblocks : KeepsBlocks TablesLawful :=
    { tracker := fun _ _ _ h => { h with }
      groups := fun _ _ _ h => { h with }
      cells := fun _ _ _ h => { h with }
      capture := fun _ _ _ h => { h with }
      pulse := fun _ _ _ h => { h with }
      link := fun _ _ _ h => { h with } }
  have htests : KeepsUnits TablesLawful :=
    { hblocks.toKeepsWork fun _ _ h => { h with } with
      channels := fun _ _ h => { h with }
      off := fun _ _ _ h => { h with }
      anyTracker := fun _ _ _ h => { h with }
      anyCells := fun _ _ h => { h with }
      traffic := fun _ _ _ h => { h with } }
  exact
    { htests with
      declare := declareBurst_keeps htests fun _ _ _ h => { h with }
      run := fun _ _ _ _ h => { h with }
      power := fun _ _ h => { h with }
      timebase := fun _ _ h => { h with }
      lanes := fun _ _ hx h =>
        { h with oneGauge := fun k l hk hl => h.oneGauge k l ((hx k).symm.trans hk) ((hx l).symm.trans hl) }
      phaseMap := fun _ _ h => { h with }
      detectors := fun _ _ h => { h with }
      fireMark := fun _ _ h => { h with }
      tail := fun s _ => tailEnd_keeps htests.toKeepsTests (fun _ _ _ h => { h with }) s
      role := fun _ _ _ hx h => { h with oneGauge := role_put hx h.oneGauge }
      sensor := fun _ _ _ hn h => { h with sensors := sensor_put hn h.sensors }
      pair := fun _ _ _ hx h => { h with keys := key_put hx h.keys }
      toRun := fun _ _ _ _ h => { h with }
      toIdle := fun _ _ _ _ h => { h with }
      bypassOff := fun _ h => { h with }
      newTest := fun _ _ _ _ _ h => { h with }
      reset := fun s _ => TablesLawful.of_reset (fullResetLanes_role s.lanes) rfl rfl
      answer := fun _ _ _ _ _ h => { h with } }

/-- Settles O58: the three writers refuse what would break a law; every other update leaves the tables alone. -/
theorem tablesStayLawful : Obligations.TablesStayLawful :=
  step_keeps tables_commands fun _ _ h => { h with }

/-! ## The run states -/

/-- No test is in flight and the part is not in bypass: what a declaration and a tail end leave. -/
def Untested (s : State) : Prop := s.pulse.test = .none ∧ s.run.bypass = false

theorem Untested.runLawful {s : State} (h : Untested s) : RunLawful s where
  aside hb := absurd hb (by simp [h.2])
  tests ht := absurd h.1 ht

theorem untested_tests : KeepsTests Untested :=
  { KeepsBlocks.toKeepsWork { pulse := fun _ _ hf h => ⟨hf.test h.1, h.2⟩ } fun _ _ h => h with }

theorem tailEnd_untested (s : State) (h : Untested s) : Untested (tailEnd s) :=
  tailEnd_keeps untested_tests (fun _ _ hb ht => ⟨ht.1, hb.trans ht.2⟩) s h

theorem notBypass_units : KeepsUnits (fun s => s.run.bypass = false) :=
  { KeepsBlocks.toKeepsWork {} fun _ _ h => h with }

/-- A declaration ends the test, and a tail end begins none. -/
theorem declareBurst_untested (e : EndCause) (k : BurstCause) (s : State) (hr : s.run.state = .run)
    (hb : s.run.bypass = false) : Untested (declareBurst e k s) := by
  have hbypass := notBypass_units
  have hfirst : (declareFirst k s).run.bypass = false :=
    makeMark_keeps hbypass _ _ (notify_keeps hbypass.toKeepsBlocks _ _ hb)
  have hend : Untested (endTest presentQuietly (tailTests s) e (declareFirst k s)) :=
    ⟨endTest_test _ _ _ _, endTest_keeps hbypass.toKeepsTests (presentQuietly_keeps hbypass.toKeepsWork) _ _ _ hfirst⟩
  unfold declareBurst startTail
  rw [if_pos hr]
  dsimp only
  split
  · exact tailEnd_untested _ hend
  · exact hend

theorem RunLawful.of_same {s t : State} (h : RunLawful s) (hb : t.run.bypass = s.run.bypass)
    (hr : t.run.state = s.run.state) (ht : s.pulse.test = .none → t.pulse.test = .none) : RunLawful t where
  aside h' := ⟨hr.trans (h.aside (hb ▸ h')).1, ht (h.aside (hb ▸ h')).2⟩
  tests h' := hr ▸ h.tests (fun hn => h' (ht hn))

/-- A part that is not IDLE is not in bypass (R173). -/
theorem RunLawful.bypass_eq_false {s : State} (h : RunLawful s) (hs : s.run.state ≠ .idle) : s.run.bypass = false :=
  Bool.eq_false_iff.2 fun hb => hs (h.aside hb).1

theorem declareBurst_runLawful (e : EndCause) (k : BurstCause) (s : State) (h : RunLawful s) :
    RunLawful (declareBurst e k s) := by
  by_cases hr : s.run.state = .run
  · exact (declareBurst_untested e k s hr (h.bypass_eq_false (by simp [hr]))).runLawful
  · rw [declareBurst_outside e k s hr]
    exact h

theorem tailEnd_runLawful (s : State) (hs : s.run.state = .tailing) (h : RunLawful s) : RunLawful (tailEnd s) := by
  have ht : s.pulse.test = .none := by
    by_contra ht
    simpa [hs] using h.tests ht
  exact (tailEnd_untested s ⟨ht, h.bypass_eq_false (by simp [hs])⟩).runLawful

theorem runLawful_commands : KeepsCommands RunLawful := by
  have hblocks : KeepsBlocks RunLawful :=
    { tracker := fun _ _ _ h => { h with }
      groups := fun _ _ _ h => { h with }
      cells := fun _ _ _ h => { h with }
      capture := fun _ _ _ h => { h with }
      pulse := fun _ _ hf h => h.of_same rfl rfl hf.test
      link := fun _ _ _ h => { h with } }
  exact
    { hblocks.toKeepsWork fun _ _ h => { h with } with
      channels := fun _ _ h => { h with }
      off := fun _ _ _ h => { h with }
      anyTracker := fun _ _ _ h => { h with }
      anyCells := fun _ _ h => { h with }
      traffic := fun _ _ _ h => { h with }
      run := fun _ _ hs hb h => h.of_same hb hs id
      declare := declareBurst_runLawful
      power := fun _ _ h => { h with }
      timebase := fun _ _ h => { h with }
      lanes := fun _ _ _ h => { h with }
      phaseMap := fun _ _ h => { h with }
      detectors := fun _ _ h => { h with }
      fireMark := fun _ _ h => { h with }
      tail := tailEnd_runLawful
      role := fun _ _ _ _ h => { h with }
      sensor := fun _ _ _ _ h => { h with }
      pair := fun _ _ _ _ h => { h with }
      toRun := fun _ _ hb hs _ => ⟨fun h => absurd h (by simp [hb]), fun _ => Or.inr hs⟩
      toIdle := fun _ _ hs ht _ => ⟨fun h => ⟨hs, ht h⟩, fun _ => Or.inl hs⟩
      bypassOff := fun _ h => ⟨fun hb => absurd hb Bool.false_ne_true, h.tests⟩
      newTest := fun _ _ hb hs _ _ => ⟨fun h => absurd h (by simp [hb]), fun _ => hs⟩
      reset := fun _ _ => Untested.runLawful ⟨rfl, rfl⟩
      answer := fun _ _ _ _ _ h => { h with } }

/-- Settles O59: a declaration and a tail end leave no test, and the orders that leave IDLE or enter bypass refuse first. -/
theorem runStatesStayLawful : Obligations.RunStatesStayLawful :=
  step_keeps runLawful_commands fun _ _ h => { h with }

/-! ## The capacities -/

/-- A state whose lists have not grown beyond their capacities is within them, when the one before it was. -/
theorem WithinCapacity.mono {s t : State} (h : WithinCapacity s) (link : s.link.Fits t.link := by exact Link.Fits.refl _)
    (groups : GroupsLawful s.grouping.groups → GroupsLawful t.grouping.groups := by exact id)
    (hold : t.pulse.hold.length ≤ max 64 s.pulse.hold.length := by exact le_max_right _ _)
    (writes : t.capture.queue.length ≤ max 128 s.capture.queue.length := by exact le_max_right _ _)
    (history : t.tracker.history.length ≤ max 64 s.tracker.history.length := by exact le_max_right _ _) :
    WithinCapacity t :=
  have hgroups := groups ⟨h.groups, h.memberSensors⟩
  { own := link.own.trans (max_le (le_refl _) h.own)
    answers := link.answers.trans h.answers
    intake := link.intake.trans (max_le (le_refl _) h.intake)
    pass := link.pass.trans (max_le (le_refl _) h.pass)
    forward := link.forward.trans (max_le (le_refl _) h.forward)
    groups := hgroups.1
    hold := hold.trans (max_le (le_refl _) h.hold)
    writes := writes.trans (max_le (le_refl _) h.writes)
    history := history.trans (max_le (le_refl _) h.history)
    members := fun g hg => members_le _ (hgroups.2 g hg)
    memberSensors := hgroups.2 }

theorem capacity_blocks : KeepsBlocks WithinCapacity where
  tracker _ _ _ h := h.mono
  groups _ _ hx h := h.mono (groups := hx)
  cells _ _ _ h := h.mono
  capture _ _ hx h := h.mono (writes := hx.queue)
  pulse _ _ hx h := h.mono (hold := hx.hold)
  link _ _ hx h := h.mono (link := hx.fits)

/-- An eviction leaves room for a group (R83). -/
theorem evictFirst_room (s : State) (h : s.grouping.groups.length ≤ 8) : (evictFirst s).grouping.groups.length < 8 := by
  unfold evictFirst
  split
  · next g l hg =>
    split
    · rw [closeGroup_grouping]
      have hlt : (s.grouping.groups.filter (fun y => !(y.number == g.number))).length < s.grouping.groups.length :=
        List.length_filter_lt_length_iff_exists.mpr ⟨g, by simp [hg], by simp⟩
      exact Nat.lt_of_lt_of_le hlt h
    · next hroom => exact Nat.lt_of_not_le hroom
  · next hg => simp [hg]

/-- A new group has one member, so the list stays lawful while it has room. -/
theorem GroupsLawful.insert_single {l : List Group} {g : Group} {x : HitRecord} (h : GroupsLawful l) (hl : l.length < 8)
    (hg : g.members = [x]) : GroupsLawful (insertGroup g l) := by
  refine ⟨by rw [insertGroup_length]; exact hl, fun y hy => ?_⟩
  rcases List.mem_cons.mp ((insertGroup_perm g l).mem_iff.mp hy) with rfl | hy
  · simp [hg]
  · exact h.2 y hy

theorem openHit_withinCapacity (x : HitRecord) (s : State) (h : WithinCapacity s) :
    WithinCapacity (openGroup x (evictFirst s)) :=
  (evictFirst_keeps capacity_blocks s h).mono
    (groups := fun hl => hl.insert_single (evictFirst_room s h.groups) rfl)

theorem capacity_units : KeepsUnits WithinCapacity where
  toKeepsBlocks := capacity_blocks
  openHit := openHit_withinCapacity
  channels _ _ h := h.mono
  off _ _ _ h := h.mono
  anyTracker _ _ hx h := h.mono (history := hx)
  anyCells _ _ h := h.mono
  traffic _ _ hx h := h.mono (link := hx)

theorem capacity_commands : KeepsCommands WithinCapacity where
  toKeepsUnits := capacity_units
  run _ _ _ _ h := h.mono
  declare := declareBurst_keeps capacity_units fun _ _ _ h => h.mono
  tail s _ := tailEnd_keeps capacity_units.toKeepsTests (fun _ _ _ h => h.mono) s
  power _ _ h := h.mono
  timebase _ _ h := h.mono
  lanes _ _ _ h := h.mono
  phaseMap _ _ h := h.mono
  detectors _ _ h := h.mono
  fireMark _ _ h := h.mono
  role _ _ _ _ h := h.mono
  sensor _ _ _ _ h := h.mono
  pair _ _ _ _ h := h.mono
  toRun _ _ _ _ h := h.mono
  toIdle _ _ _ _ h := h.mono
  bypassOff _ h := h.mono
  newTest _ _ _ _ hx h := h.mono (hold := by simp [hx])
  reset _ h := h.mono
    { own := Nat.zero_le _, answers := Nat.zero_le _, intake := Nat.zero_le _, pass := Nat.zero_le _,
      forward := Nat.zero_le _ }
    (fun hl => hl.sublist (List.nil_sublist _)) (Nat.zero_le _) (Nat.zero_le _) (Nat.zero_le _)
  answer o r l s hroom h :=
    { h with answers := by simpa [placeAnswer] using hroom }

/-- Settles O57: every insertion tests for room first, and a full list loses its first entry. -/
theorem capacitiesKept : Obligations.CapacitiesKept :=
  step_keeps capacity_commands fun _ _ h => h.mono

/-! ## The reset state -/

theorem withinCapacity_reset : WithinCapacity State.reset where
  own := Nat.zero_le _
  answers := Nat.zero_le _
  intake := Nat.zero_le _
  pass := Nat.zero_le _
  forward := Nat.zero_le _
  groups := Nat.zero_le _
  hold := Nat.zero_le _
  writes := Nat.zero_le _
  history := Nat.zero_le _
  members _ hg := absurd hg List.not_mem_nil
  memberSensors _ hg := absurd hg List.not_mem_nil

theorem resetLanes_role (l : Fin 4) : resetLanes[l].role = if l = 3 then .gauge else .pod := by
  fin_cases l <;> rfl

/-- Settles O60. -/
theorem invariantsAtReset : Obligations.InvariantsAtReset :=
  ⟨State.reset_memory_wf, withinCapacity_reset, TablesLawful.of_reset resetLanes_role rfl rfl,
    Untested.runLawful ⟨rfl, rfl⟩⟩

/-- Settles O1. -/
theorem stepTakesFront : Obligations.StepTakesFront := fun _ _ _ => rfl

end Sys2Proof.Machine
end

section
/-! Work done for each entry of a table, read off entry by entry; the passing of time (O2); full reset, its release and the end of
the settle period (O4, O5). -/

namespace Sys2Proof.Machine

/-! ## Work done for each entry of a table -/

/-- Work in which each piece `a` changes the entry `ι a` of the table `g` alone, by `h a` of a part `k` of the state that the
work leaves alone: the entries of the list are changed, each once. -/
theorem forEach_entry {α β γ : Type} {n : Nat} {g : State → Vector β n} {k : State → γ} {ι : α → Fin n}
    {h : α → γ → β → β} {f : α → State → State} (hk : ∀ a s, k (f a s) = k s)
    (hsame : ∀ a s, (g (f a s))[ι a] = h a (k s) (g s)[ι a])
    (hother : ∀ a s (j : Fin n), j ≠ ι a → (g (f a s))[j] = (g s)[j]) (l : List α) (hl : (l.map ι).Nodup) (s : State) :
    (∀ a ∈ l, (g (forEach l f s))[ι a] = h a (k s) (g s)[ι a]) ∧
    (∀ j : Fin n, j ∉ l.map ι → (g (forEach l f s))[j] = (g s)[j]) := by
  induction l generalizing s with
  | nil => simp
  | cons b l ih =>
    rw [List.map_cons, List.nodup_cons] at hl
    obtain ⟨hin, hout⟩ := ih hl.2 (f b s)
    refine ⟨fun a ha => ?_, fun j hj => ?_⟩
    · rw [forEach_cons]
      by_cases hmem : a ∈ l
      · have hne : ι a ≠ ι b := fun e => hl.1 (e ▸ List.mem_map_of_mem hmem)
        rw [hin a hmem, hk, hother b s _ hne]
      · obtain rfl : a = b := (List.mem_cons.mp ha).resolve_right hmem
        rw [hout _ hl.1, hsame]
    · rw [List.map_cons, List.mem_cons, not_or] at hj
      rw [forEach_cons, hout j hj.2, hother b s j hj.1]

/-- The same for work that is done once for each entry of a table. -/
theorem forEach_all {β γ : Type} {n : Nat} {g : State → Vector β n} {k : State → γ} {h : Fin n → γ → β → β}
    {f : Fin n → State → State} (hk : ∀ i s, k (f i s) = k s)
    (hf : ∀ i s (j : Fin n), (g (f i s))[j] = if j = i then h i (k s) (g s)[i] else (g s)[j]) (s : State) (i : Fin n) :
    (g (forEach (List.finRange n) f s))[i] = h i (k s) (g s)[i] := by
  refine (forEach_entry (ι := id) hk (fun i s => ?_) (fun i s j hj => ?_) (List.finRange n) ?_ s).1 i
    (List.mem_finRange i)
  · exact (hf i s i).trans (if_pos rfl)
  · rw [hf, if_neg (by simpa using hj)]
  · simpa using List.nodup_finRange n

/-- The same for work that is done for some entries of a table, each once. -/
theorem forEach_some {β γ : Type} {n : Nat} {g : State → Vector β n} {k : State → γ} {h : Fin n → γ → β → β}
    {f : Fin n → State → State} (hk : ∀ i s, k (f i s) = k s)
    (hf : ∀ i s (j : Fin n), (g (f i s))[j] = if j = i then h i (k s) (g s)[i] else (g s)[j]) {l : List (Fin n)}
    (hl : l.Nodup) (s : State) (i : Fin n) :
    (g (forEach l f s))[i] = if i ∈ l then h i (k s) (g s)[i] else (g s)[i] := by
  obtain ⟨hin, hout⟩ := forEach_entry (ι := id) hk
    (fun i s => (hf i s i).trans (if_pos rfl)) (fun i s j hj => by rw [hf, if_neg (by simpa using hj)]) l
    (by simpa using hl) s
  split
  · next hi => exact hin i hi
  · next hi => exact hout i (by simpa using hi)

theorem State.setLane_get (s : State) (l k : Fin 4) (x : Lane) :
    (s.setLane l x).lanes[k] = if k = l then x else s.lanes[k] := put_get _ _ _ _

theorem State.setDetector_get (s : State) (c d : Fin 32) (x : Detector) :
    (s.setDetector c x).detectors[d] = if d = c then x else s.detectors[d] := put_get _ _ _ _

theorem State.setChannel_get (s : State) (c d : Fin 32) (x : Channel) :
    (s.setChannel c x).channels[d] = if d = c then x else s.channels[d] := put_get _ _ _ _

theorem State.setCell_get (s : State) (n m : Fin 1024) (x : Cell) :
    (s.setCell n x).cells.cells[m] = if m = n then x else s.cells.cells[m] := put_get _ _ _ _

theorem State.setRing_get (s : State) (c d : Fin 32) (x : Ring) :
    (s.setRing c x).capture.rings[d] = if d = c then x else s.capture.rings[d] := put_get _ _ _ _

theorem State.setSegment_get (s : State) (i j : Fin 64) (x : Option Segment) :
    (s.setSegment i x).capture.segments[j] = if j = i then x else s.capture.segments[j] := put_get _ _ _ _

/-! ## The passing of time -/

theorem dueIf_eq {b : Bool} {p : Prop} [Decidable p] (h : b = true ↔ p) (c : Instr) :
    dueIf b c = if p then [c] else [] := by
  unfold dueIf
  exact if_congr h rfl rfl

theorem expired_eq (s : State) (timer : Option Tick) :
    s.expired timer = timer.any (fun x => atOrAfter s.timebase.counter x) := by
  cases timer <;> rfl

theorem portIdle_iff (s : State) : s.portIdle = true ↔
    s.capture.access = none ∧ s.capture.port = .ready ∧ s.capture.queue = [] := by
  simp [State.portIdle, and_assoc]

theorem readingSegment_isSome_iff (s : State) : (readingSegment s).isSome = true ↔
    ∃ i : Fin 64, (s.capture.segments[i]).any (fun g => decide (g.stage = .reading)) = true := by
  unfold readingSegment
  rw [List.findSome?_isSome_iff]
  simp only [allSegments, List.mem_finRange, true_and]
  refine exists_congr fun i => ?_
  cases s.capture.segments[i] with
  | none => simp
  | some g => by_cases hg : g.stage = .reading <;> simp [hg]

theorem tailDue_iff (s : State) : s.tailDue = true ↔
    s.run.state = .tailing ∧ s.run.tailExpiry.any (fun x => atOrAfter s.timebase.counter x) = true := by
  simp [State.tailDue, expired_eq]

theorem readoutDue_iff (s : State) : (s.readoutReady && (readingSegment s).isSome) = true ↔
    (s.link.fill < 2048 ∧ s.capture.access = none ∧ s.capture.port = .ready ∧ s.capture.queue = []) ∧
      s.run.bypass = false ∧ ∃ i : Fin 64, (s.capture.segments[i]).any (fun g => decide (g.stage = .reading)) = true := by
  simp only [State.readoutReady, Bool.and_eq_true, decide_eq_true_eq, Bool.not_eq_true', portIdle_iff,
    readingSegment_isSome_iff]
  tauto

theorem dumpDue_iff (s : State) : (s.dumpReady && s.capture.dump.isSome) = true ↔
    (s.link.fill < 2048 ∧ s.capture.access = none ∧ s.capture.port = .ready ∧ s.capture.queue = []) ∧
      s.capture.dump ≠ none := by
  simp only [State.dumpReady, Bool.and_eq_true, decide_eq_true_eq, portIdle_iff, Option.isSome_iff_ne_none]

theorem dueOrder_eq (s : State) (h : s.running = true) :
    dueOrder s = match s.link.intake with
      | e :: _ => if s.link.answers.length < 4 then [rowOf e] else []
      | [] => [] := by
  unfold dueOrder executable
  by_cases hroom : s.link.answers.length < 4 <;> cases s.link.intake <;> simp [h, hroom]

/-- The commands that fall due while the part runs. -/
theorem dueEvents_running (s : State) (h : s.running = true) :
    dueEvents s =
      (allChannels.filter s.fed).map .sampleProcessed
        ++ (s.grouping.groups.filter (fun g => s.reached g.deadline)).map (fun g => .holdTimerExpiry g.number)
        ++ dueIf (s.expired s.cells.boundary) .rateSlotBoundary
        ++ dueIf s.tailDue .tailEnd
        ++ dueIf (s.expired s.link.tallyExpiry) .tallyTimerExpiry
        ++ dueOrder s
        ++ dueIf (s.readoutReady && (readingSegment s).isSome) .readoutLineStart
        ++ dueIf (s.dumpReady && s.capture.dump.isSome) .dumpLineStart := if_pos h

theorem dueEvents_stopped (s : State) (h : s.running = false) : dueEvents s = dueIf s.settleDue .settleEnd :=
  if_neg (by simp [h])

theorem countTick_reset {s : State} (h : s.inReset = true) : countTick s = s := if_pos h

theorem countTick_eq {s : State} (h : s.inReset = false) :
    countTick s =
      s.setTimebase { s.timebase with counter := s.timebase.counter + 1, uptime := s.timebase.uptime + 1 } :=
  if_neg (by simp [h])

theorem running_of {s : State} (h : s.inReset = false) (hs : s.power.settling = false) : s.running = true := by
  simp [State.running, h, hs]

theorem not_running_of_reset {s : State} (h : s.inReset = true) : s.running = false := by simp [State.running, h]

theorem not_running_of_settling {s : State} (h : s.power.settling = true) : s.running = false := by
  simp [State.running, h]

theorem tick_reset {s : State} (h : s.inReset = true) : tick s = s := by
  have hdue : s.settleDue = false := by simp [State.settleDue, h]
  unfold tick
  dsimp only
  rw [countTick_reset h, dueEvents_stopped _ (not_running_of_reset h), hdue]
  simp [dueIf]

/-- Settles O2: a step on an empty queue is `tick`, whose due commands are read off the state with the new counter. -/
theorem emptyQueueTicks : Obligations.EmptyQueueTicks := by
  intro s hp
  refine ⟨tick s, by simp [step, hp], tick_reset, fun h => ?_, fun h hset => ?_, fun h hset => ?_⟩
  · unfold tick
    rw [countTick_eq h]
    simp [State.setPending, State.setTimebase, hp]
  · have hrun : (countTick s).running = false := by
      rw [countTick_eq h]
      exact not_running_of_settling hset
    have hdue : (countTick s).settleDue = true ↔ 100000 ≤ (s.timebase.counter + 1).toNat := by
      have h' : ∀ x, (s.setTimebase x).inReset = false := fun _ => h
      rw [countTick_eq h]
      simp [State.settleDue, h', hset, settleTicks]
    have hpending : (countTick s).pending = [] := by rw [countTick_eq h]; exact hp
    show (countTick s).pending ++ dueEvents (countTick s) = _
    rw [hpending, dueEvents_stopped _ hrun, dueIf_eq hdue, List.nil_append]
  · have hrun : (countTick s).running = true := by
      rw [countTick_eq h]
      exact running_of h hset
    have hpending : (countTick s).pending = [] := by rw [countTick_eq h]; exact hp
    show (countTick s).pending ++ dueEvents (countTick s) = _
    rw [hpending, dueEvents_running _ hrun, List.nil_append, dueOrder_eq _ hrun, countTick_eq h,
      dueIf_eq (by rw [expired_eq]), dueIf_eq (tailDue_iff _), dueIf_eq (by rw [expired_eq]),
      dueIf_eq (readoutDue_iff _), dueIf_eq (dumpDue_iff _)]
    rfl

/-! ## Full reset -/

theorem vector_replicate_get {α : Type} {n : Nat} (x : α) (i : Fin n) : (Vector.replicate n x)[i] = x := by simp

/-- Settles O4: the reset state is given block by block. -/
theorem resetValues : Obligations.ResetValues := by
  refine ⟨⟨rfl, rfl, rfl⟩, fun l => ?_, ⟨rfl, rfl, rfl, rfl, rfl, rfl, vector_replicate_get _⟩, rfl, fun c => ?_,
    vector_replicate_get _, ⟨rfl, rfl, rfl, rfl, rfl, rfl⟩, vector_replicate_get _, fun n => ?_,
    vector_replicate_get _, ⟨rfl, rfl⟩, ⟨rfl, rfl, rfl, rfl, rfl, rfl, rfl, rfl, vector_replicate_get _⟩,
    ⟨rfl, rfl, vector_replicate_get _⟩, ⟨rfl, rfl, rfl, rfl, rfl, rfl, rfl⟩, fun p => ?_,
    ⟨rfl, rfl, rfl, rfl, rfl, rfl, rfl, rfl, rfl, rfl, rfl, rfl, rfl⟩⟩
  case refine_1 =>
    fin_cases l <;> exact ⟨rfl, rfl, rfl, rfl, rfl, rfl, rfl, rfl, rfl, rfl⟩
  case refine_2 =>
    have hchannel : State.reset.channels[c] = Channel.reset := vector_replicate_get _ c
    have hdetector : State.reset.detectors[c] = Detector.reset := vector_replicate_get _ c
    have hring : State.reset.capture.rings[c] = Ring.reset 256 := vector_replicate_get _ c
    rw [hchannel, hdetector, hring]
    exact ⟨rfl, rfl, rfl, rfl, rfl, rfl, rfl, vector_replicate_get _ c, vector_replicate_get _, rfl, rfl, rfl, rfl, rfl⟩
  case refine_3 =>
    have hcell : State.reset.cells.cells[n] = Cell.reset := vector_replicate_get _ n
    rw [hcell]
    exact ⟨rfl, rfl, rfl, rfl, rfl, rfl, vector_replicate_get _⟩
  case refine_4 =>
    cases p <;> exact ⟨rfl, rfl, rfl, rfl, rfl⟩

/-! ## Reset, its release and the end of the settle period -/

theorem tryAlign_lanes (l : Fin 4) (s : State) (k : Fin 4) :
    (tryAlign l s).lanes[k] =
      if k = l then
        (if s.lanes[l].state = .down ∧ s.lanes[l].signal = true then
          { s.lanes[l] with state := .aligning, alignCount := 0, prevSeq := none }
        else s.lanes[l])
      else s.lanes[k] := by
  unfold tryAlign
  dsimp only
  split
  · rw [notify_same (g := fun t => t.lanes[k]) ⟨fun _ _ => rfl⟩, State.setLane_get]
  · split
    · next e => rw [e]
    · rfl

/-- Every lane in DOWN with signal detect present enters ALIGNING. -/
theorem allAlign_lanes (s : State) (l : Fin 4) :
    (forEach allLanes tryAlign s).lanes[l] =
      if s.lanes[l].state = .down ∧ s.lanes[l].signal = true then
        { s.lanes[l] with state := .aligning, alignCount := 0, prevSeq := none }
      else s.lanes[l] :=
  forEach_all (g := State.lanes) (k := fun _ => ()) (h := fun _ _ (x : Lane) =>
    if x.state = .down ∧ x.signal = true then { x with state := .aligning, alignCount := 0, prevSeq := none } else x)
    (fun _ _ => rfl) (fun l s k => tryAlign_lanes l s k) s l

theorem beginNear_sending (s : State) : (beginNear s).link.nearSending.isSome = true := by
  unfold beginNear
  split
  · next h => rw [h]; rfl
  · rfl

theorem beginFar_sending (s : State) : (beginFar s).link.farSending.isSome = true := by
  unfold beginFar
  split
  · next h => rw [h]; rfl
  · rfl

theorem beginFar_nearSending (s : State) : (beginFar s).link.nearSending = s.link.nearSending := by
  unfold beginFar
  split <;> rfl

/-- What the end of the settle period leaves alone: all but the power inputs, the lanes and the record link. -/
theorem beginRunning_same {β : Type} {g : State → β} (hp : ∀ s x, g (s.setPower x) = g s)
    (hlanes : ∀ s x, g (s.setLanes x) = g s) (hlink : ∀ s x, g (s.setLink x) = g s) (s : State) :
    g (beginRunning s) = g s := by
  have halign : ∀ l t, g (tryAlign l t) = g t := fun l t => by
    unfold tryAlign
    dsimp only
    split
    · rw [notify_same ⟨hlink⟩]
      exact hlanes _ _
    · rfl
  unfold beginRunning
  rw [beginFar_same ⟨hlink⟩, beginNear_same ⟨hlink⟩, forEach_same g _ _ halign]
  exact hp _ _

theorem beginRunning_lanes (s : State) (l : Fin 4) :
    (beginRunning s).lanes[l] =
      if s.lanes[l].state = .down ∧ s.lanes[l].signal = true then
        { s.lanes[l] with state := .aligning, alignCount := 0, prevSeq := none }
      else s.lanes[l] := by
  unfold beginRunning
  rw [beginFar_same (g := fun t => t.lanes[l]) ⟨fun _ _ => rfl⟩, beginNear_same (g := fun t => t.lanes[l]) ⟨fun _ _ => rfl⟩]
  exact allAlign_lanes _ l

theorem beginRunning_running {s : State} (h : s.inReset = false) : (beginRunning s).running = true := by
  have hpower : (beginRunning s).power = { s.power with settling := false } := by
    unfold beginRunning
    rw [beginFar_same (g := State.power) ⟨fun _ _ => rfl⟩, beginNear_same (g := State.power) ⟨fun _ _ => rfl⟩,
      forEach_same State.power _ _ (fun l t => by
        unfold tryAlign
        dsimp only
        split
        · exact notify_same (g := State.power) ⟨fun _ _ => rfl⟩ _ _
        · rfl)]
    rfl
  refine running_of ?_ (by rw [hpower])
  simpa [State.inReset, hpower] using h

theorem beginRunning_nearSending (s : State) : (beginRunning s).link.nearSending.isSome = true := by
  unfold beginRunning
  rw [beginFar_nearSending]
  exact beginNear_sending _

theorem beginRunning_farSending (s : State) : (beginRunning s).link.farSending.isSome = true := by
  unfold beginRunning
  exact beginFar_sending _

theorem exec_settleEnd_due {s : State} (h : s.settleDue = true) : exec .settleEnd s = .next (beginRunning s) :=
  congrArg Host.Outcome.next (if_pos h)

/-- Settles O5: full reset is given block by block, and the part begins to run lane by lane. -/
theorem resetAssertedThenReleased : Obligations.ResetAssertedThenReleased := by
  refine ⟨fun p s => ⟨_, rfl, ?_⟩, fun s h => ?_, fun s h hset hticks => ?_⟩
  case refine_1 =>
    refine ⟨by cases p <;> simp [fullReset, State.inReset, Power.assert], by cases p <;> rfl, ?_, ?_, rfl, rfl, rfl, rfl,
      rfl, rfl, rfl, rfl, rfl, rfl, rfl, rfl, rfl, fun l => ?_, rfl, rfl, rfl, rfl⟩
    · rintro rfl
      exact ⟨rfl, rfl⟩
    · rintro rfl
      exact ⟨rfl, rfl⟩
    · fin_cases l <;> exact ⟨rfl, rfl⟩
  case refine_2 => exact congrArg Host.Outcome.next (if_pos h)
  case refine_3 =>
    have hdue : s.settleDue = true := by simp [State.settleDue, h, hset, settleTicks, hticks]
    refine ⟨_, exec_settleEnd_due hdue, beginRunning_running h, beginRunning_lanes s,
      beginRunning_nearSending s, beginRunning_farSending s,
      beginRunning_same (g := State.timebase) (fun _ _ => rfl) (fun _ _ => rfl) (fun _ _ => rfl) s,
      beginRunning_same (g := State.capture) (fun _ _ => rfl) (fun _ _ => rfl) (fun _ _ => rfl) s, ?_⟩
    constructor <;> exact beginRunning_same (fun _ _ => rfl) (fun _ _ => rfl) (fun _ _ => rfl) s

end Sys2Proof.Machine
end

section
/-! The rows that execute an order, each said once as its refusal list and its effect; the orders that set one value or replace one
item (O24, O29, O30, O42). -/

namespace Sys2Proof.Machine

/-! ## The end of an order -/

/-- The order `e` served in `s` ends: refused with the reason, or answered OK after the effect that left `t`. -/
def orderEnd (s : State) (e : IntakeEntry) (rest : List IntakeEntry) (r : Option Reason) (t : State) : State :=
  match r with
  | some r => refusedState s e rest r
  | none => doneState e t

section
variable {want : IntakeEntry → Bool} {check : IntakeEntry → State → Option Reason}
  {effect : IntakeEntry → State → State} {code : Nat} {conditions : IntakeEntry → State → List (Bool × Reason)}
  {s t : State} {e : IntakeEntry} {rest : List IntakeEntry}

@[simp] theorem orderEnd_nil : orderEnd s e rest (firstReason []) t = doneState e t := rfl

@[simp] theorem orderEnd_cons (b : Bool) (r : Reason) (l : List (Bool × Reason)) :
    orderEnd s e rest (firstReason ((b, r) :: l)) t =
      if b = true then refusedState s e rest r else orderEnd s e rest (firstReason l) t := by
  cases b <;> rfl

theorem executeOrder_eq (h : Serves s e rest) (hw : want e = true) :
    executeOrder want check effect s =
      orderEnd s e rest (check e (s.headTaken rest)) (effect e (s.headTaken rest)) := by
  cases hc : check e (s.headTaken rest) with
  | none => exact executeOrder_done h hw hc
  | some r => exact executeOrder_refused h hw hc

theorem writeItem_eq (h : Serves s e rest) (hw : WritesItem code e) :
    writeItem code conditions effect s = .next (orderEnd s e rest
      (firstReason ((noItem e.order.item e.order.index, .noItem) :: (s.run.bypass, .state) ::
        conditions e (s.headTaken rest))) (effect e (s.headTaken rest))) :=
  congrArg Host.Outcome.next (executeOrder_eq h ((writes_iff code e).2 hw))

end

/-! ## The conditions of the refusal lists -/

@[simp] theorem Order.short_iff (o : Order) (n : Nat) : o.short n = true ↔ o.args.length < n := by simp [Order.short]

@[simp] theorem not_within_iff (a b v : Nat) : (!within a b v) = true ↔ v < a ∨ b < v := by
  rw [Bool.not_eq_true', ← Bool.not_eq_true, within_iff]
  omega

@[simp] theorem noItem_iff (code idx : Nat) : noItem code idx = true ↔ itemSize code ≤ idx := by simp [noItem]

theorem testing_iff (s : State) : s.testing = true ↔ s.pulse.test.inFlight = true := Iff.rfl

theorem inFlight_iff (t : TestState) : t.inFlight = true ↔ t ≠ .none := by cases t <;> simp [TestState.inFlight]

theorem number_lt (l : List Byte) : number l < 256 ^ l.length := by
  have h : ∀ (l : List Byte) (a : Nat), l.foldl (fun x b => x * 256 + b.toNat) a < (a + 1) * 256 ^ l.length := by
    intro l
    induction l with
    | nil => simp
    | cons b l ih =>
      intro a
      have hb := b.isLt
      have hstep : a * 256 + b.toNat + 1 ≤ (a + 1) * 256 := by omega
      rw [List.foldl_cons, List.length_cons, Nat.pow_succ', ← Nat.mul_assoc]
      exact lt_of_lt_of_le (ih _) (Nat.mul_le_mul_right _ hstep)
  simpa [number] using h l 0

theorem fieldAt_lt (l : List Byte) (i n : Nat) : fieldAt l i n < 256 ^ n := by
  refine lt_of_lt_of_le (number_lt _) (Nat.pow_le_pow_right (by decide) ?_)
  rw [List.length_take]
  omega

theorem fieldAt_one_le (l : List Byte) (i : Nat) : fieldAt l i 1 ≤ 255 := Nat.le_of_lt_succ (fieldAt_lt l i 1)

theorem fieldAt_two_le (l : List Byte) (i : Nat) : fieldAt l i 2 ≤ 65535 := Nat.le_of_lt_succ (fieldAt_lt l i 2)

theorem fieldAt_one (l : List Byte) (i : Nat) : fieldAt l i 1 = (byteAt l i).toNat := by
  rw [fieldAt, byteAt, List.getD_eq_getElem?_getD]
  by_cases h : i < l.length
  · rw [List.drop_eq_getElem_cons h, List.getElem?_eq_getElem h, List.take_succ_cons, List.take_zero]
    simp [number]
  · rw [List.drop_eq_nil_of_le (by omega), List.getElem?_eq_none (by omega)]
    rfl

theorem byteAt_eq_iff (l : List Byte) (i : Nat) (b : Byte) : byteAt l i = b ↔ fieldAt l i 1 = b.toNat := by
  rw [fieldAt_one]
  exact ⟨congrArg _, BitVec.eq_of_toNat_eq⟩

/-! ## ASSIGN and SYNC -/

section
variable {s : State} {e : IntakeEntry} {rest : List IntakeEntry}

theorem exec_assign_eq (h : Serves s e rest) (hk : TakenAs assignKind e) :
    exec .assign s = .next (orderEnd s e rest
      (firstReason [(s.run.bypass, .state), (e.order.short 1 || !(within 1 15 (assigned e)), .range),
        (!(s.run.address == 0), .state)])
      ((s.headTaken rest).setRun { s.run with address := assigned e })) :=
  congrArg Host.Outcome.next (executeOrder_eq h ((taken_iff _ _).2 hk))

theorem exec_sync_eq (h : Serves s e rest) (hk : TakenAs syncKind e) :
    exec .sync s = .next (orderEnd s e rest
      (firstReason [(s.run.bypass, .state), (s.notIdle, .state), (s.testing, .busy), (e.order.short 6, .range)])
      (syncNow e (s.headTaken rest))) :=
  congrArg Host.Outcome.next (executeOrder_eq h ((taken_iff _ _).2 hk))

end

/-- Settles O24: the refusal lists of ASSIGN and SYNC, read condition by condition. -/
theorem assignAndSyncSet : Obligations.AssignAndSyncSet := by
  refine ⟨fun s e rest hs hk => ?assign, fun s e rest hs hk => ?sync⟩
  case assign =>
    have hrange : (e.order.short 1 || !(within 1 15 (assigned e))) = true ↔
        e.order.args.length < 1 ∨ fieldAt e.order.args 0 1 = 0 ∨ 15 < fieldAt e.order.args 0 1 := by
      simp only [Bool.or_eq_true, Order.short_iff, not_within_iff, assigned]
      omega
    simp only [exec_assign_eq hs hk, orderEnd_cons, orderEnd_nil, hrange, Bool.not_eq_true', beq_eq_false_iff_ne]
    rfl
  case sync =>
    simp only [exec_sync_eq hs hk, orderEnd_cons, orderEnd_nil, ite_or, notIdle_iff, testing_iff, Order.short_iff]
    rfl

/-! ## The items that are one list of settings -/

section
variable {s : State} {e : IntakeEntry} {rest : List IntakeEntry}

theorem noItem_of_writes {code : Nat} (hw : WritesItem code e) :
    noItem e.order.item e.order.index = true ↔ itemSize code ≤ e.order.index := by
  obtain ⟨-, -, hitem⟩ := hw
  rw [hitem, noItem_iff]

theorem noItem_of_index {code : Nat} (hw : WritesItem code e) (hi : e.order.index < itemSize code) :
    noItem e.order.item e.order.index = false := by
  rw [← Bool.not_eq_true, noItem_of_writes hw]
  omega

theorem exec_locationHeaderWrite_eq (h : Serves s e rest) (hw : WritesItem headerItem e) :
    exec .locationHeaderWrite s = .next (orderEnd s e rest
      (firstReason [(noItem e.order.item e.order.index, .noItem), (s.run.bypass, .state), (s.notIdle, .state),
        (headerOutOfRange e, .range)])
      (writeHeader e (s.headTaken rest))) := writeItem_eq h hw

theorem exec_tailSpanWrite_eq (h : Serves s e rest) (hw : WritesItem tailSpanItem e) :
    exec .tailSpanWrite s = .next (orderEnd s e rest
      (firstReason [(noItem e.order.item e.order.index, .noItem), (s.run.bypass, .state), (s.notIdle, .state),
        (e.order.short 7 || !(within 0 5000000 (fieldAt e.order.contents 0 3)), .range)])
      ((s.headTaken rest).setRun { s.run with tailSpan := fieldAt e.order.contents 0 3 })) := writeItem_eq h hw

theorem exec_chainLatencyWrite_eq (h : Serves s e rest) (hw : WritesItem chainLatencyItem e) :
    exec .chainLatencyWrite s = .next (orderEnd s e rest
      (firstReason [(noItem e.order.item e.order.index, .noItem), (s.run.bypass, .state), (s.notIdle, .state),
        (e.order.short 6, .range)])
      ((s.headTaken rest).setTimebase { s.timebase with chainLatency := fieldAt e.order.contents 0 2 })) :=
  writeItem_eq h hw

theorem exec_trackerWrite_eq (h : Serves s e rest) (hw : WritesItem trackerItem e) :
    exec .trackerWrite s = .next (orderEnd s e rest
      (firstReason [(noItem e.order.item e.order.index, .noItem), (s.run.bypass, .state), (s.notIdle, .state),
        (e.order.short 20 || !((trackerOf e.order.contents).inRange), .range)])
      ((s.headTaken rest).setTracker { s.tracker with params := trackerOf e.order.contents })) := writeItem_eq h hw

theorem exec_classWrite_eq (h : Serves s e rest) (hw : WritesItem classItem e) :
    exec .classWrite s = .next (orderEnd s e rest
      (firstReason [(noItem e.order.item e.order.index, .noItem), (s.run.bypass, .state), (s.notIdle, .state),
        (e.order.short 16, .range)])
      (writeClass e (s.headTaken rest))) := writeItem_eq h hw

theorem exec_tallyIntervalWrite_eq (h : Serves s e rest) (hw : WritesItem tallyIntervalItem e) :
    exec .tallyIntervalWrite s = .next (orderEnd s e rest
      (firstReason [(noItem e.order.item e.order.index, .noItem), (s.run.bypass, .state),
        (e.order.short 8 || !(within 5000000 250000000 (fieldAt e.order.contents 0 4)), .range)])
      ((s.headTaken rest).setLink { (s.headTaken rest).link with tallyInterval := fieldAt e.order.contents 0 4 })) :=
  writeItem_eq h hw

/-- The range of every item that has one index. -/
theorem noItem_single {code : Nat} (hw : WritesItem code e) (h : itemSize code = 1) :
    noItem e.order.item e.order.index = true ↔ e.order.index ≠ 0 := by
  rw [noItem_of_writes hw, h, Nat.one_le_iff_ne_zero]

theorem headerOutOfRange_iff (e : IntakeEntry) :
    headerOutOfRange e = true ↔
      e.order.args.length < 10 ∨ fieldAt e.order.contents 0 2 = 0 ∨ 1048575 < fieldAt e.order.contents 2 3 ∨
        fieldAt e.order.contents 5 1 < 2 ∨ 4 < fieldAt e.order.contents 5 1 := by
  have hw := fieldAt_two_le e.order.contents 0
  simp only [headerOutOfRange, Bool.or_eq_true, Order.short_iff, not_within_iff]
  omega

theorem trackerOutOfRange_iff (e : IntakeEntry) :
    (e.order.short 20 || !((trackerOf e.order.contents).inRange)) = true ↔
      e.order.args.length < 20 ∨ fieldAt e.order.contents 2 2 = 0 ∨ fieldAt e.order.contents 4 2 = 0 ∨
        fieldAt e.order.contents 6 1 = 0 ∨ fieldAt e.order.contents 9 1 < 2 ∨ 64 < fieldAt e.order.contents 9 1 ∨
        fieldAt e.order.contents 10 2 = 0 ∨ fieldAt e.order.contents 12 1 < 2 ∨ 64 < fieldAt e.order.contents 12 1 ∨
        fieldAt e.order.contents 13 1 < 2 ∨ 32 < fieldAt e.order.contents 13 1 ∨ fieldAt e.order.contents 14 2 = 0 := by
  have hone := fieldAt_one_le e.order.contents
  have htwo := fieldAt_two_le e.order.contents
  have := htwo 0
  have := htwo 2
  have := htwo 4
  have := hone 6
  have := htwo 7
  have := htwo 10
  have := htwo 14
  simp only [Bool.or_eq_true, Order.short_iff, TrackerParams.inRange, trackerOf, Bool.not_and, not_within_iff]
  omega

theorem writeClass_slot {k : Fin 8} (hi : e.order.index = k.val) :
    writeClass e s = s.setCells { s.cells with classes := put s.cells.classes k (classOf e.order.contents) } := by
  simp only [writeClass, index?_eq_some_iff.2 hi]

theorem exec_rateSlotWrite_short (h : Serves s e rest) (hw : WritesItem rateSlotItem e)
    (hlen : e.order.args.length < 8) :
    exec .rateSlotWrite s = .next
      (if e.order.index ≠ 0 then refusedState s e rest .noItem
       else refusedState s e rest (if s.run.bypass = true ∨ s.run.state ≠ .idle then .state else .range)) := by
  have hrange : (e.order.short 8 || !(within 500000 50000000 (fieldAt e.order.contents 0 4))) = true := by
    simp [hlen]
  refine (writeItem_eq h hw).trans (congrArg Host.Outcome.next ?_)
  simp only [orderEnd_cons, hrange, if_true, noItem_single hw rfl, apply_ite (refusedState s e rest), ite_or,
    ← notIdle_iff]
  rfl

theorem exec_pairWrite_short (h : Serves s e rest) (hw : WritesItem pairItem e) (hlen : e.order.args.length < 73) :
    exec .pairWrite s = .next
      (if 512 ≤ e.order.index then refusedState s e rest .noItem
       else refusedState s e rest (if s.run.bypass = true ∨ s.run.state ≠ .idle then .state else .range)) := by
  have hrange : pairOutOfRange e = true := by simp [pairOutOfRange, hlen]
  refine (writeItem_eq h hw).trans (congrArg Host.Outcome.next ?_)
  simp only [orderEnd_cons, hrange, if_true, noItem_pair_iff hw, apply_ite (refusedState s e rest), ite_or,
    ← notIdle_iff]
  rfl

end

/-! ## BYPASS -/

section
variable {s : State} {e : IntakeEntry} {rest : List IntakeEntry}

theorem asksOff_iff (e : IntakeEntry) : asksOff e = true ↔ 1 ≤ e.order.args.length ∧ fieldAt e.order.args 0 1 = 0 := by
  simp only [asksOff, Order.short, Bool.and_eq_true, Bool.not_eq_true', decide_eq_false_iff_not, not_lt, beq_iff_eq,
    byteAt_eq_iff, BitVec.toNat_ofNat, Nat.zero_mod]

theorem asksOn_iff (e : IntakeEntry) : asksOn e = true ↔ 1 ≤ e.order.args.length ∧ fieldAt e.order.args 0 1 = 1 := by
  simp only [asksOn, Order.short, Bool.and_eq_true, Bool.not_eq_true', decide_eq_false_iff_not, not_lt, beq_iff_eq,
    byteAt_eq_iff, BitVec.toNat_ofNat, Nat.one_mod]

theorem exec_bypassOff_eq (h : Serves s e rest) (hk : TakenAs bypassKind e) (hoff : asksOff e = true) :
    exec .bypassOff s = .next (doneState e ((s.headTaken rest).setRun { s.run with bypass := false })) :=
  congrArg Host.Outcome.next
    (executeOrder_done h (by rw [Bool.and_eq_true]; exact ⟨(taken_iff _ _).2 hk, hoff⟩) rfl)

theorem exec_bypassOn_eq (h : Serves s e rest) (hk : TakenAs bypassKind e) (hoff : asksOff e = false) :
    exec .bypassOn s = .next (orderEnd s e rest
      (firstReason [(s.run.bypass, .state), (!(asksOn e), .range), (s.notIdle, .state), (s.testing, .busy)])
      ((s.headTaken rest).setRun { s.run with bypass := true })) :=
  congrArg Host.Outcome.next (executeOrder_eq h
    (by rw [Bool.and_eq_true, Bool.not_eq_true']; exact ⟨(taken_iff _ _).2 hk, hoff⟩))

theorem exec_bypassOn_neither (h : Serves s e rest) (hk : TakenAs bypassKind e) (hoff : asksOff e = false)
    (hon : asksOn e = false) :
    exec .bypassOn s = .next (refusedState s e rest (if s.run.bypass = true then .state else .range)) := by
  have hno : (!(asksOn e)) = true := by rw [hon]; rfl
  simp only [exec_bypassOn_eq h hk hoff, orderEnd_cons, hno, if_true, apply_ite (refusedState s e rest)]

theorem tryAlign_run (l : Fin 4) (s : State) : (tryAlign l s).run = s.run := by
  unfold tryAlign
  dsimp only
  split
  · exact notify_same (g := State.run) ⟨fun _ _ => rfl⟩ _ _
  · rfl

/-- The lanes that align again leave run control as RESTART made it. -/
theorem restarted_run (s : State) : (forEach allLanes tryAlign (restartPart s)).run = s.run.restart :=
  forEach_same State.run allLanes tryAlign tryAlign_run (restartPart s)

theorem exec_restart_eq (h : Serves s e rest) (hk : TakenAs restartKind e) :
    exec .restart s = .next (doneState e (forEach allLanes tryAlign (restartPart (s.headTaken rest)))) :=
  congrArg Host.Outcome.next (executeOrder_done h ((taken_iff _ _).2 hk) rfl)

theorem doneState_run (e : IntakeEntry) (t : State) : (doneState e t).run = t.run := rfl

end

/-- Settles O30: the refusal list of each item, read condition by condition. -/
theorem settingsWritten : Obligations.SettingsWritten := by
  refine ⟨fun s e rest hs => ⟨fun hw => ?header, fun hw => ?tail, fun hw => ?latency, fun hw => ?tracker⟩,
    fun s e rest hs => ⟨fun hw => ?cls, fun hw => ?interval⟩,
    fun s e rest hs => ⟨exec_rateSlotWrite_short hs, exec_pairWrite_short hs, fun hk hlen => ?bypass⟩⟩
  case header =>
    simp only [exec_locationHeaderWrite_eq hs hw, orderEnd_cons, orderEnd_nil, noItem_single hw rfl, ite_or, notIdle_iff,
      headerOutOfRange_iff]
    rfl
  case tail =>
    simp only [exec_tailSpanWrite_eq hs hw, orderEnd_cons, orderEnd_nil, noItem_single hw rfl, ite_or, notIdle_iff,
      Bool.or_eq_true, Order.short_iff, not_within_iff, Nat.not_lt_zero, false_or]
  case latency =>
    simp only [exec_chainLatencyWrite_eq hs hw, orderEnd_cons, orderEnd_nil, noItem_single hw rfl, ite_or, notIdle_iff,
      Order.short_iff]
  case tracker =>
    simp only [exec_trackerWrite_eq hs hw, orderEnd_cons, orderEnd_nil, noItem_single hw rfl, ite_or, notIdle_iff,
      trackerOutOfRange_iff]
    rfl
  case cls =>
    refine ⟨fun hi => writeItem_refused hs hw (firstReason_holds _ _ ((noItem_of_writes hw).2 hi)), fun k hk => ?_⟩
    have hno := noItem_of_index hw (hk ▸ k.isLt)
    simp only [exec_classWrite_eq hs hw, orderEnd_cons, orderEnd_nil, hno, Bool.false_eq_true, if_false, ite_or,
      notIdle_iff, Order.short_iff, writeClass_slot hk]
    rfl
  case interval =>
    simp only [exec_tallyIntervalWrite_eq hs hw, orderEnd_cons, orderEnd_nil, noItem_single hw rfl, Bool.or_eq_true,
      Order.short_iff, not_within_iff]
  case bypass =>
    refine exec_bypassOn_neither hs hk ?_ ?_
    · rw [← Bool.not_eq_true, asksOff_iff]
      omega
    · rw [← Bool.not_eq_true, asksOn_iff]
      omega

/-- Settles O42: the refusal list of BYPASS, and the run control that full reset and RESTART leave. -/
theorem bypassSetsAndClears : Obligations.BypassSetsAndClears := by
  refine ⟨fun s e rest hs hk hlen => ⟨fun hv => ?off, fun hv => ?on, fun hv => ?neither⟩, fun s p => ⟨_, rfl, ?reset⟩,
    fun s e rest hs hk => ⟨_, exec_restart_eq hs hk, ?restart⟩⟩
  case off => exact exec_bypassOff_eq hs hk ((asksOff_iff e).2 ⟨hlen, hv⟩)
  case on =>
    have hoff : asksOff e = false := by rw [← Bool.not_eq_true, asksOff_iff]; omega
    have hon : (!(asksOn e)) = false := by rw [Bool.not_eq_false', asksOn_iff]; exact ⟨hlen, hv⟩
    simp only [exec_bypassOn_eq hs hk hoff, orderEnd_cons, orderEnd_nil, hon, Bool.false_eq_true, if_false, ite_or,
      notIdle_iff, testing_iff]
  case neither =>
    refine exec_bypassOn_neither hs hk ?_ ?_
    · rw [← Bool.not_eq_true, asksOff_iff]
      omega
    · rw [← Bool.not_eq_true, asksOn_iff]
      omega
  case reset => rfl
  case restart => rw [doneState_run, restarted_run]; rfl

end Sys2Proof.Machine
end

section
/-! The bank choice of a channel, and the orders that reach it; the writes of the channel tables, of CELL, of LANE and of
CAPTURE-SETUP (O26, O27, O29, O32). -/

namespace Sys2Proof.Machine

/-! ## Work on the channels alone -/

/-- `t` is `s` but for the channels. -/
def OnlyChannels (s t : State) : Prop := t = s.setChannels t.channels

theorem OnlyChannels.refl (s : State) : OnlyChannels s s := rfl

theorem OnlyChannels.trans {s t u : State} (h : OnlyChannels s t) (k : OnlyChannels t u) : OnlyChannels s u := by
  unfold OnlyChannels at *
  rw [h] at k
  exact k

theorem OnlyChannels.same {s t : State} {β : Type} {g : State → β} (h : OnlyChannels s t)
    (hg : ∀ s x, g (s.setChannels x) = g s) : g t = g s := h ▸ hg s _

theorem setChannel_only (c : Fin 32) (x : Channel) (s : State) : OnlyChannels s (s.setChannel c x) := rfl

theorem applyPending_only (c : Fin 32) (s : State) : OnlyChannels s (applyPending c s) := by
  unfold applyPending
  split
  · exact setChannel_only _ _ _
  · exact .refl s

theorem setPending_only (c : Fin 32) (b : Fin 4) (s : State) : OnlyChannels s (setPending c b s) :=
  (setChannel_only _ _ _).trans (applyPending_only _ _)

theorem forEach_only {α : Type} {f : α → State → State} (hf : ∀ a s, OnlyChannels s (f a s)) (l : List α) (s : State) :
    OnlyChannels s (forEach l f s) :=
  forEach_keeps (P := OnlyChannels s) l f (fun a _ t ht => ht.trans (hf a t)) s (.refl s)

/-! ## The bank choice of a channel (R41, R43 to R46) -/

/-- The channel takes `b` as its pending bank, and as its active bank while its detector may switch. -/
def Channel.taking (x : Channel) (b : Fin 4) (d : DetState) : Channel :=
  { x with pending := b, active := if d.mayswitch then b else x.active }

theorem applyPending_channels (c d : Fin 32) (s : State) :
    (applyPending c s).channels[d] =
      if d = c then s.channels[c].taking s.channels[c].pending s.detectors[c].state else s.channels[d] := by
  unfold applyPending Channel.taking
  split
  · exact State.setChannel_get _ _ _ _
  · split
    · next e => rw [e]
    · rfl

theorem setPending_channels (c d : Fin 32) (b : Fin 4) (s : State) :
    (setPending c b s).channels[d] =
      if d = c then s.channels[c].taking b s.detectors[c].state else s.channels[d] := by
  unfold setPending
  rw [applyPending_channels]
  split
  · rw [State.setChannel_get, if_pos rfl]
    rfl
  · next h => rw [State.setChannel_get, if_neg h]

theorem followChannel_only (c : Fin 32) (s : State) : OnlyChannels s (followChannel c s) := by
  unfold followChannel
  split
  · exact setPending_only _ _ _
  · exact .refl s

theorem followPhase_only (s : State) : OnlyChannels s (followPhase s) := forEach_only followChannel_only _ s

theorem followPhase_channels (s : State) (c : Fin 32) :
    (followPhase s).channels[c] =
      if s.channels[c].follow then s.channels[c].taking s.phaseBank s.detectors[c].state else s.channels[c] := by
  refine forEach_all (g := State.channels) (k := fun t => (t.detectors, t.phaseBank))
    (h := fun c k (x : Channel) => if x.follow then x.taking k.2 k.1[c].state else x)
    (fun c s => (followChannel_only c s).same (g := fun t => (t.detectors, t.phaseBank)) fun _ _ => rfl) (fun c s d => ?_) s c
  unfold followChannel
  split
  · exact setPending_channels _ _ _ _
  · split
    · next e => rw [e]
    · rfl

theorem selectOne_only (b : Fin 4) (c : Fin 32) (s : State) : OnlyChannels s (selectOne b c s) :=
  (setChannel_only _ _ _).trans (setPending_only _ _ _)

theorem selectOne_channels (b : Fin 4) (c d : Fin 32) (s : State) :
    (selectOne b c s).channels[d] =
      if d = c then { s.channels[c] with follow := false }.taking b s.detectors[c].state else s.channels[d] := by
  unfold selectOne
  rw [setPending_channels]
  split
  · rw [State.setChannel_get, if_pos rfl]
    rfl
  · next h => rw [State.setChannel_get, if_neg h]

theorem followOne_only (c : Fin 32) (s : State) : OnlyChannels s (followOne c s) :=
  (setChannel_only _ _ _).trans (setPending_only _ _ _)

theorem followOne_channels (c d : Fin 32) (s : State) :
    (followOne c s).channels[d] =
      if d = c then { s.channels[c] with follow := true }.taking s.phaseBank s.detectors[c].state
      else s.channels[d] := by
  unfold followOne
  rw [setPending_channels]
  split
  · rw [State.setChannel_get, if_pos rfl]
    rfl
  · next h => rw [State.setChannel_get, if_neg h]

theorem mem_maskChannels (o : Order) (c : Fin 32) :
    c ∈ maskChannels o ↔ (fieldAt o.args 0 4).testBit c.val = true := by simp [maskChannels, allChannels]

theorem maskChannels_nodup (o : Order) : (maskChannels o).Nodup := (List.nodup_finRange 32).filter _

/-- SELECT-BANK with a bank number on the channels of its mask. -/
theorem selected_channels (o : Order) (b : Fin 4) (s : State) (c : Fin 32) :
    (forEach (maskChannels o) (selectOne b) s).channels[c] =
      if (fieldAt o.args 0 4).testBit c.val then
        { s.channels[c] with follow := false }.taking b s.detectors[c].state
      else s.channels[c] := by
  refine (forEach_some (g := State.channels) (k := State.detectors)
    (h := fun c k (x : Channel) => { x with follow := false }.taking b k[c].state)
    (fun c s => (selectOne_only b c s).same fun _ _ => rfl) (fun c s d => selectOne_channels b c d s)
    (maskChannels_nodup o) s c).trans (if_congr (mem_maskChannels o c) rfl rfl)

/-- SELECT-BANK with FOLLOW on the channels of its mask. -/
theorem followed_channels (o : Order) (s : State) (c : Fin 32) :
    (forEach (maskChannels o) followOne s).channels[c] =
      if (fieldAt o.args 0 4).testBit c.val then
        { s.channels[c] with follow := true }.taking s.phaseBank s.detectors[c].state
      else s.channels[c] := by
  refine (forEach_some (g := State.channels) (k := fun t => (t.detectors, t.phaseBank))
    (h := fun c k (x : Channel) => { x with follow := true }.taking k.2 k.1[c].state)
    (fun c s => (followOne_only c s).same (g := fun t => (t.detectors, t.phaseBank)) fun _ _ => rfl) (fun c s d => followOne_channels c d s)
    (maskChannels_nodup o) s c).trans (if_congr (mem_maskChannels o c) rfl rfl)

section
variable {s : State} {e : IntakeEntry} {rest : List IntakeEntry}

theorem asksFollow_iff (e : IntakeEntry) : asksFollow e = true ↔ fieldAt e.order.args 4 1 = 255 := by
  simp only [asksFollow, beq_iff_eq, byteAt_eq_iff]
  rfl

/-- What SELECT-BANK with a bank value does to the channels. -/
def selectBanks (e : IntakeEntry) (s : State) : State :=
  match index? 4 (fieldAt e.order.args 4 1) with
  | some b => forEach (maskChannels e.order) (selectOne b) s
  | none => s

theorem exec_selectBank_eq (h : Serves s e rest) (hk : TakenAs selectBankKind e) (hbank : fieldAt e.order.args 4 1 ≠ 255) :
    exec .selectBank s = .next (orderEnd s e rest
      (firstReason [(s.run.bypass, .state),
        (e.order.short 5 || !(within 0 3 (fieldAt e.order.args 4 1)), .range)])
      (selectBanks e (s.headTaken rest))) := by
  refine congrArg Host.Outcome.next (executeOrder_eq h ?_)
  rw [Bool.and_eq_true, Bool.not_eq_true', ← Bool.not_eq_true, asksFollow_iff]
  exact ⟨(taken_iff _ _).2 hk, hbank⟩

theorem exec_selectBankFollow_eq (h : Serves s e rest) (hk : TakenAs selectBankKind e)
    (hbank : fieldAt e.order.args 4 1 = 255) :
    exec .selectBankFollow s = .next (orderEnd s e rest (firstReason [(s.run.bypass, .state)])
      (forEach (maskChannels e.order) followOne (s.headTaken rest))) := by
  refine congrArg Host.Outcome.next (executeOrder_eq h ?_)
  rw [Bool.and_eq_true, asksFollow_iff]
  exact ⟨(taken_iff _ _).2 hk, hbank⟩

end

/-- Settles O32: the channels named in the mask are read off one by one. -/
theorem selectBankSetsPending : Obligations.SelectBankSetsPending := by
  intro s e rest hs hk mask bank
  have hrange : (e.order.short 5 || !(within 0 3 (fieldAt e.order.args 4 1))) = true ↔
      e.order.args.length < 5 ∨ 3 < bank := by
    simp only [Bool.or_eq_true, Order.short_iff, not_within_iff, Nat.not_lt_zero, false_or]
    rfl
  refine ⟨fun hb hf => ?stateBank, fun hb hf => ?stateFollow, fun hb hf hbad => ?range, fun hb hlen b hbank => ?bank,
    fun hb hf => ?follow⟩
  case stateBank => simp only [exec_selectBank_eq hs hk hf, orderEnd_cons, hb, if_true]
  case stateFollow => simp only [exec_selectBankFollow_eq hs hk hf, orderEnd_cons, hb, if_true]
  case range =>
    simp only [exec_selectBank_eq hs hk hf, orderEnd_cons, hb, hrange, hbad, if_true, Bool.false_eq_true, if_false]
  case bank =>
    have hb4 := b.isLt
    have hf : fieldAt e.order.args 4 1 ≠ 255 := fun h => by omega
    have hgood : ¬ (e.order.args.length < 5 ∨ 3 < bank) := by omega
    have heffect : selectBanks e (s.headTaken rest) =
        forEach (maskChannels e.order) (selectOne b) (s.headTaken rest) := by
      unfold selectBanks
      rw [index?_eq_some_iff.2 hbank.symm]
    refine ⟨_, ?_, forEach_only (selectOne_only b) _ _, fun c => selected_channels e.order b (s.headTaken rest) c⟩
    simp only [exec_selectBank_eq hs hk hf, orderEnd_cons, orderEnd_nil, hb, hrange, hgood, Bool.false_eq_true, if_false,
      heffect]
  case follow =>
    refine ⟨_, ?_, forEach_only followOne_only _ _, fun c => followed_channels e.order (s.headTaken rest) c⟩
    simp only [exec_selectBankFollow_eq hs hk hf, orderEnd_cons, orderEnd_nil, hb, Bool.false_eq_true, if_false]

/-! ## SENSOR-MAP and PHASE-MAP -/

/-- An order that is taken in IDLE outside bypass alone. -/
theorem orderEnd_closed {s t : State} {e : IntakeEntry} {rest : List IntakeEntry} {l : List (Bool × Reason)}
    (h : s.run.bypass = true ∨ s.run.state ≠ .idle) :
    orderEnd s e rest (firstReason ((s.run.bypass, .state) :: (s.notIdle, .state) :: l)) t =
      refusedState s e rest .state := by
  rw [orderEnd_cons, orderEnd_cons, ← ite_or, if_pos (h.imp_right (notIdle_iff s).2)]

section
variable {s : State} {e : IntakeEntry} {rest : List IntakeEntry}

theorem exec_sensorMapWrite_eq (h : Serves s e rest) (hw : WritesItem sensorItem e) :
    exec .sensorMapWrite s = .next (orderEnd s e rest
      (firstReason [(noItem e.order.item e.order.index, .noItem), (s.run.bypass, .state), (s.notIdle, .state),
        (s.testing, .busy), (sensorOutOfRange e, .range), (sensorDuplicate e s, .duplicate)])
      (writeSensor e (s.headTaken rest))) := writeItem_eq h hw

theorem exec_phaseMapWrite_eq (h : Serves s e rest) (hw : WritesItem phaseMapItem e) :
    exec .phaseMapWrite s = .next (orderEnd s e rest
      (firstReason [(noItem e.order.item e.order.index, .noItem), (s.run.bypass, .state),
        (e.order.short 10 || (phaseMapOf e.order.contents).isNone, .range)])
      (writePhaseMap e (s.headTaken rest))) := writeItem_eq h hw

/-- A number or the code `a` of an absent one (R194). -/
def numberOr (n a v : Nat) : Option (Option (Fin n)) := if v = a then some none else (index? n v).map some

theorem numberOr_eq_none_iff (n a v : Nat) : numberOr n a v = none ↔ n ≤ v ∧ v ≠ a := by
  unfold numberOr
  split
  · next h => simp [h]
  · next h => simp [index?_eq_none_iff, h]

theorem numberOr_value {n a v : Nat} {p : Option (Fin n)} (h : numberOr n a v = some p) :
    p.map Fin.val = if v = a then none else some v := by
  unfold numberOr at h
  split at h
  · next hnone => rw [← Option.some.inj h, if_pos hnone]; rfl
  · next hsome =>
    obtain ⟨i, hi, rfl⟩ := Option.map_eq_some_iff.1 h
    rw [if_neg hsome, index?_eq_some_iff.1 hi]
    rfl

theorem sensorOf_eq (l : List Byte) : sensorOf l = numberOr 32 255 (fieldAt l 0 1) := rfl

theorem homeCellOf_eq (l : List Byte) : homeCellOf l = numberOr 1024 65535 (fieldAt l 1 2) := rfl

theorem sensorOutOfRange_iff (e : IntakeEntry) :
    sensorOutOfRange e = true ↔
      e.order.args.length < 7 ∨ (32 ≤ fieldAt e.order.contents 0 1 ∧ fieldAt e.order.contents 0 1 ≠ 255) ∨
        (1024 ≤ fieldAt e.order.contents 1 2 ∧ fieldAt e.order.contents 1 2 ≠ 65535) := by
  simp only [sensorOutOfRange, Bool.or_eq_true, Order.short_iff, Option.isNone_iff_eq_none, sensorOf_eq, homeCellOf_eq,
    numberOr_eq_none_iff, or_assoc]

theorem sensorDuplicate_iff {c : Fin 32} (hi : e.order.index = c.val) (s : State)
    (hgood : ¬ (32 ≤ fieldAt e.order.contents 0 1 ∧ fieldAt e.order.contents 0 1 ≠ 255)) :
    sensorDuplicate e s = true ↔
      ∃ d : Fin 32, d ≠ c ∧ ∃ n : Fin 32, n.val = fieldAt e.order.contents 0 1 ∧ s.sensorMap[d] = some n := by
  unfold sensorDuplicate
  cases hx : sensorOf e.order.contents with
  | none => exact absurd ((numberOr_eq_none_iff _ _ _).1 hx) hgood
  | some p =>
    have hv := numberOr_value hx
    cases p with
    | none =>
      refine ⟨fun h => absurd h Bool.false_ne_true, ?_⟩
      rintro ⟨d, -, n, hn, -⟩
      have h255 : fieldAt e.order.contents 0 1 = 255 := by
        by_contra hne
        rw [if_neg hne] at hv
        exact nomatch hv
      have := n.isLt
      omega
    | some m =>
      have hm : m.val = fieldAt e.order.contents 0 1 := by
        by_cases h255 : fieldAt e.order.contents 0 1 = 255
        · rw [if_pos h255] at hv
          exact nomatch hv
        · rw [if_neg h255] at hv
          exact Option.some.inj hv
      simp only [List.any_eq_true, allChannels, List.mem_finRange, true_and, Bool.and_eq_true, Bool.not_eq_true',
        beq_eq_false_iff_ne, ne_eq, beq_iff_eq, hi, ← Fin.ext_iff, ← hm]
      exact exists_congr fun d => and_congr_right fun _ =>
        ⟨fun h => ⟨m, rfl, h⟩, fun ⟨n, hn, h⟩ => hn ▸ h⟩

theorem writeSensor_eq {c : Fin 32} {n : Option (Fin 32)} {home : Option (Fin 1024)} (hi : e.order.index = c.val)
    (hn : sensorOf e.order.contents = some n) (hhome : homeCellOf e.order.contents = some home) (s : State) :
    writeSensor e s = mapSensor c n home s := by
  simp only [writeSensor, index?_eq_some_iff.2 hi, hn, hhome]

theorem phaseMapOf_eq_some_iff (l : List Byte) (v : Vector (Fin 4) 6) :
    phaseMapOf l = some v ↔ ∀ i : Fin 6, index? 4 (fieldAt l i.val 1) = some v[i] := by
  have hall : (∀ i : Fin 6, index? 4 (fieldAt l i.val 1) = some v[i]) ↔
      index? 4 (fieldAt l 0 1) = some v[0] ∧ index? 4 (fieldAt l 1 1) = some v[1] ∧
        index? 4 (fieldAt l 2 1) = some v[2] ∧ index? 4 (fieldAt l 3 1) = some v[3] ∧
        index? 4 (fieldAt l 4 1) = some v[4] ∧ index? 4 (fieldAt l 5 1) = some v[5] := by
    simp only [Fin.forall_fin_succ, IsEmpty.forall_iff, and_true]
    rfl
  rw [hall]
  unfold phaseMapOf
  split
  · next a b c d x y ha hb hc hd hx hy =>
    rw [ha, hb, hc, hd, hx, hy]
    constructor
    · intro h
      obtain rfl := Option.some.inj h
      exact ⟨rfl, rfl, rfl, rfl, rfl, rfl⟩
    · rintro ⟨h0, h1, h2, h3, h4, h5⟩
      refine congrArg some (Vector.ext fun i hi => ?_)
      interval_cases i
      · exact Option.some.inj h0
      · exact Option.some.inj h1
      · exact Option.some.inj h2
      · exact Option.some.inj h3
      · exact Option.some.inj h4
      · exact Option.some.inj h5
  · next h =>
    refine ⟨fun he => absurd he (by simp), ?_⟩
    rintro ⟨h0, h1, h2, h3, h4, h5⟩
    exact (h _ _ _ _ _ _ h0 h1 h2 h3 h4 h5).elim

theorem vector_ofFn_get {α : Type} {n : Nat} (f : Fin n → α) (i : Fin n) : (Vector.ofFn f)[i] = f i :=
  Vector.getElem_ofFn i.isLt

theorem exists_phaseMapOf {l : List Byte} (h : ∀ i : Fin 6, fieldAt l i.val 1 ≤ 3) :
    ∃ v, phaseMapOf l = some v ∧ ∀ i : Fin 6, (v[i]).val = fieldAt l i.val 1 := by
  obtain ⟨f, hf⟩ : ∃ f : Fin 6 → Fin 4, ∀ i, (f i).val = fieldAt l i.val 1 :=
    ⟨fun i => ⟨_, Nat.lt_succ_of_le (h i)⟩, fun _ => rfl⟩
  refine ⟨Vector.ofFn f, (phaseMapOf_eq_some_iff l _).2 fun i => index?_eq_some_iff.2 ?_, fun i => ?_⟩
  all_goals rw [vector_ofFn_get, hf]

theorem phaseMapOf_isNone {l : List Byte} (h : ∃ i : Fin 6, 3 < fieldAt l i.val 1) : (phaseMapOf l).isNone = true := by
  obtain ⟨i, hi⟩ := h
  rw [Option.isNone_iff_eq_none, Option.eq_none_iff_forall_ne_some]
  intro v hv
  have := index?_eq_some_iff.1 ((phaseMapOf_eq_some_iff l v).1 hv i)
  have := v[i].isLt
  omega

theorem writePhaseMap_eq {v : Vector (Fin 4) 6} (hv : phaseMapOf e.order.contents = some v) (s : State) :
    writePhaseMap e s = followPhase (s.setPhaseMap v) := by
  simp only [writePhaseMap, hv]

end

/-- Settles O27: the two refusal lists, the entries that a WRITE of SENSOR-MAP reaches, and the follow channels after a WRITE of
PHASE-MAP. -/
theorem sensorAndPhaseMapsWritten : Obligations.SensorAndPhaseMapsWritten := by
  refine ⟨fun s e rest hs hw => ⟨fun hi => writeItem_refused hs hw (firstReason_holds _ _ ((noItem_of_writes hw).2 hi)),
    fun c hi => ?sensor⟩, fun s e rest hs hw => ⟨fun hi => writeItem_refused hs hw
      (firstReason_holds _ _ ((noItem_single hw rfl).2 hi)), fun hi hb => ?bypass, fun hi hb => ?phase⟩⟩
  case sensor =>
    intro l short badSensor badCell dup
    have hno := noItem_of_index hw (hi ▸ c.isLt)
    refine ⟨fun hstate => ?state, fun hb hstate => ⟨fun htest => ?busy, fun htest => ⟨fun hbad => ?range,
      fun hlen hsensor hcell => ?fields⟩⟩⟩
    case state =>
      rw [exec_sensorMapWrite_eq hs hw, orderEnd_cons, if_neg (by rw [hno]; exact Bool.false_ne_true),
        orderEnd_closed hstate]
    case busy =>
      have ht : s.testing = true := (inFlight_iff _).2 htest
      simp only [exec_sensorMapWrite_eq hs hw, orderEnd_cons, hno, hb, notIdle_of_idle hstate, ht, Bool.false_eq_true,
        if_false, if_true]
    all_goals
      have ht : s.testing = false := by rw [State.testing, htest]; rfl
    case range =>
      simp only [exec_sensorMapWrite_eq hs hw, orderEnd_cons, hno, hb, notIdle_of_idle hstate, ht, Bool.false_eq_true,
        if_false, (sensorOutOfRange_iff e).2 hbad, if_true]
    case fields =>
      have hrange : ¬ sensorOutOfRange e = true := fun h =>
        ((sensorOutOfRange_iff e).1 h).elim hlen fun h => h.elim hsensor hcell
      refine ⟨fun hdup => ?duplicate, fun hdup => ?done⟩
      case duplicate =>
        simp only [exec_sensorMapWrite_eq hs hw, orderEnd_cons, hno, hb, notIdle_of_idle hstate, ht, Bool.false_eq_true,
          if_false, hrange, (sensorDuplicate_iff hi s hsensor).2 hdup, if_true]
      case done =>
        obtain ⟨n, hn⟩ : ∃ n, sensorOf l = some n := Option.ne_none_iff_exists'.1 fun h =>
          hsensor ((numberOr_eq_none_iff _ _ _).1 h)
        obtain ⟨home, hhome⟩ : ∃ n, homeCellOf l = some n := Option.ne_none_iff_exists'.1 fun h =>
          hcell ((numberOr_eq_none_iff _ _ _).1 h)
        have hfree : ¬ sensorDuplicate e s = true := fun h => hdup ((sensorDuplicate_iff hi s hsensor).1 h)
        refine ⟨mapSensor c n home (s.headTaken rest), ?_, ?_, ?_, fun d hd => ⟨?_, ?_, ?_⟩, ?_, ?_, rfl, rfl, rfl, rfl,
          rfl, rfl, rfl, rfl⟩
        · simp only [exec_sensorMapWrite_eq hs hw, orderEnd_cons, orderEnd_nil, hno, hb, notIdle_of_idle hstate, ht,
            Bool.false_eq_true, if_false, hrange, hfree, writeSensor_eq hi hn hhome]
        · exact (congrArg _ (put_same _ c n)).trans (numberOr_value hn)
        · exact (congrArg (fun x : Channel => x.homeCell.map Fin.val) (put_same _ c _)).trans (numberOr_value hhome)
        · exact put_other _ c d _ hd
        · exact put_other _ c d _ hd
        · exact put_other _ c d _ hd
        · exact (congrArg Detector.state (put_same _ c _)).trans rfl
        · exact congrArg (fun x : Channel => { x with homeCell := s.channels[c].homeCell }) (put_same _ c _)
  case bypass =>
    have hno := noItem_of_index hw (hi ▸ Nat.one_pos)
    simp only [exec_phaseMapWrite_eq hs hw, orderEnd_cons, hno, hb, Bool.false_eq_true, if_false, if_true]
  case phase =>
    have hno := noItem_of_index hw (hi ▸ Nat.one_pos)
    refine ⟨fun hbad => ?range, fun hlen hgood => ?done⟩
    case range =>
      have hr : (e.order.short 10 || (phaseMapOf e.order.contents).isNone) = true := by
        rw [Bool.or_eq_true, Order.short_iff]
        exact hbad.imp_right phaseMapOf_isNone
      simp only [exec_phaseMapWrite_eq hs hw, orderEnd_cons, hno, hb, Bool.false_eq_true, if_false, hr, if_true]
    case done =>
      obtain ⟨v, hv, hval⟩ := exists_phaseMapOf hgood
      have hr : ¬ (e.order.short 10 || (phaseMapOf e.order.contents).isNone) = true := by
        rw [hv, Bool.or_eq_true, Order.short_iff]
        exact fun h => h.elim (by omega) (nomatch ·)
      have honly := followPhase_only ((s.headTaken rest).setPhaseMap v)
      have hmap : (followPhase ((s.headTaken rest).setPhaseMap v)).phaseMap = v := honly.same fun _ _ => rfl
      refine ⟨followPhase ((s.headTaken rest).setPhaseMap v), ?_, fun i => ?_, fun c => ?_, ?_⟩
      · simp only [exec_phaseMapWrite_eq hs hw, orderEnd_cons, orderEnd_nil, hno, hb, Bool.false_eq_true, if_false, hr,
          writePhaseMap_eq hv]
      · rw [hmap]; exact hval i
      · rw [hmap]; exact followPhase_channels _ c
      · rw [hmap]; exact honly

end Sys2Proof.Machine
end

section
/-! READ and the orders with no effect but their refusal; the writes of the channel items, of CAPTURE-SETUP, of CELL and of LANE
(O25, O26, O29). -/

namespace Sys2Proof.Machine

/-! ## READ, WRITE, UNCLAIMED and an unknown kind -/

section
variable {s : State} {e : IntakeEntry} {rest : List IntakeEntry}

theorem exec_read_eq (h : Serves s e rest) (hk : TakenAs readKind e) :
    exec .read s = .next
      (if e.order.args.length < 4 then refusedState s e rest .range
       else if noItem e.order.item e.order.index = true then refusedState s e rest .noItem
       else placeAnswer e.order none (itemContents s e.order.item e.order.index) (s.headTaken rest)) := by
  split_ifs with hlen hno
  · exact congrArg Host.Outcome.next (execute_refused h ((taken_iff _ _).2 hk)
      (firstReason_holds _ _ ((Order.short_iff _ _).2 hlen)))
  · refine congrArg Host.Outcome.next (execute_refused h ((taken_iff _ _).2 hk) ?_)
    rw [firstReason_skips _ _ (Bool.eq_false_iff.2 fun hs => hlen ((Order.short_iff _ _).1 hs))]
    exact firstReason_holds _ _ hno
  · exact exec_read_done h hk (Nat.le_of_not_lt hlen) (Bool.eq_false_iff.2 hno)

theorem rowOf_write (hk : TakenAs writeKind e) :
    rowOf e = if e.order.short 4 || noItem e.order.item e.order.index then .write else writeRow e.order.item := by
  obtain ⟨htake, hkind⟩ := hk
  have h3 : e.order.kind.toNat = 3 := by rw [hkind]; rfl
  simp only [rowOf, htake, h3, if_true]

theorem exec_write_eq (h : Serves s e rest) (hk : TakenAs writeKind e) (hrow : rowOf e = .write) :
    exec .write s = .next (orderEnd s e rest
      (firstReason [(e.order.short 4 && s.run.bypass, .state), (e.order.short 4, .range),
        (noItem e.order.item e.order.index, .noItem), (s.run.bypass, .state), (true, .readonly)])
      (s.headTaken rest)) := by
  refine congrArg Host.Outcome.next (executeOrder_eq h ?_)
  rw [strayWrite, hrow, (taken_iff _ _).2 hk]
  rfl

theorem exec_write_noItem (h : Serves s e rest) (hk : TakenAs writeKind e) (hlen : 4 ≤ e.order.args.length)
    (hno : noItem e.order.item e.order.index = true) : exec .write s = .next (refusedState s e rest .noItem) := by
  have hshort : e.order.short 4 = false := Bool.eq_false_iff.2 fun hs => by
    have := (Order.short_iff _ _).1 hs
    omega
  have hrow : rowOf e = .write := by rw [rowOf_write hk, hno, Bool.or_true, if_pos rfl]
  simp only [exec_write_eq h hk hrow, orderEnd_cons, hshort, hno, Bool.false_and, Bool.false_eq_true, if_false, if_true]

theorem exec_write_readonly (h : Serves s e rest) (hk : TakenAs writeKind e) (hlen : 4 ≤ e.order.args.length)
    (hitem : e.order.item = 16) (hi : e.order.index = 0) :
    exec .write s = .next (refusedState s e rest (if s.run.bypass then .state else .readonly)) := by
  have hshort : e.order.short 4 = false := Bool.eq_false_iff.2 fun hs => by
    have := (Order.short_iff _ _).1 hs
    omega
  have hno : noItem e.order.item e.order.index = false := by rw [hitem, hi]; rfl
  have hrow : rowOf e = .write := by rw [rowOf_write hk, hno, hshort, hitem]; rfl
  simp only [exec_write_eq h hk hrow, orderEnd_cons, hshort, hno, Bool.false_and, Bool.false_eq_true, if_false, if_true,
    apply_ite (refusedState s e rest)]

theorem exec_write_short (h : Serves s e rest) (hk : TakenAs writeKind e) (hlen : e.order.args.length < 4) :
    exec .write s = .next (refusedState s e rest (if s.run.bypass then .state else .range)) := by
  have hshort : e.order.short 4 = true := (Order.short_iff _ _).2 hlen
  have hrow : rowOf e = .write := by rw [rowOf_write hk, hshort, Bool.true_or, if_pos rfl]
  simp only [exec_write_eq h hk hrow, orderEnd_cons, hshort, Bool.true_and, if_true, apply_ite (refusedState s e rest)]

theorem exec_unclaimed_eq (h : Serves s e rest) (ht : e.take = false) :
    exec .unclaimed s = .next (refusedState s e rest .unclaimed) :=
  congrArg Host.Outcome.next (executeOrder_refused h (by rw [ht]; rfl) rfl)

theorem exec_unknownOrder_eq (h : Serves s e rest) (ht : e.take = true)
    (hkind : e.order.kind.toNat = 0 ∨ 14 < e.order.kind.toNat) :
    exec .unknownOrder s = .next (refusedState s e rest (if s.run.bypass then .state else .range)) := by
  have hwant : unknownKind e = true := by
    rw [unknownKind, ht, Bool.true_and, not_within_iff]
    omega
  refine congrArg Host.Outcome.next ((executeOrder_eq h hwant).trans ?_)
  simp only [orderEnd_cons, if_true, apply_ite (refusedState s e rest)]
  rfl

end

/-! ## The contents of the items (R194) -/

theorem index?_fin {n : Nat} (i : Fin n) : index? n i.val = some i := index?_eq_some_iff.2 rfl

theorem index?_bank (c : Fin 32) (b : Fin 4) :
    index? 32 ((c.val * 4 + b.val) / 4) = some c ∧ index? 4 ((c.val * 4 + b.val) % 4) = some b := by
  have := b.isLt
  exact ⟨index?_eq_some_iff.2 (by omega), index?_eq_some_iff.2 (by omega)⟩

theorem onesBytes_one (v : Option Nat) : onesBytes 1 v = be 1 (v.getD 255) := by cases v <;> rfl

theorem onesBytes_two (v : Option Nat) : onesBytes 2 v = be 2 (v.getD 65535) := by cases v <;> rfl

theorem table_toList {α : Type} {n : Nat} (t : Vector α n) : t.toList = (List.finRange n).map fun i => t[i] := by
  refine List.ext_getElem (by simp) fun i h1 h2 => ?_
  simp

theorem itemContents_bank (s : State) (c : Fin 32) (b : Fin 4) :
    itemContents s bankItem (c.val * 4 + b.val) = bankContents s.channels[c] b := by
  obtain ⟨hc, hb⟩ := index?_bank c b
  simp only [itemContents, bankItem, hc, hb]

theorem itemContents_capture (s : State) (c : Fin 32) :
    itemContents s captureItem c.val = captureContents s.channels[c] := by
  simp only [itemContents, captureItem, index?_fin, Option.map_some, Option.getD_some]

theorem itemContents_sensor (s : State) (c : Fin 32) :
    itemContents s sensorItem c.val = sensorContents s.sensorMap[c] s.channels[c] := by
  simp only [itemContents, sensorItem, index?_fin, Option.map_some, Option.getD_some]

theorem itemContents_pair (s : State) (i : Fin 512) : itemContents s pairItem i.val = pairContents s.pairs[i] := by
  simp only [itemContents, pairItem, index?_fin, Option.map_some, Option.getD_some]

theorem itemContents_cell (s : State) (n : Fin 1024) : itemContents s cellItem n.val = cellContents s.cells.cells[n] := by
  simp only [itemContents, cellItem, index?_fin, Option.map_some, Option.getD_some]

theorem itemContents_class (s : State) (k : Fin 8) :
    itemContents s classItem k.val = classContents s.cells.classes[k] := by
  simp only [itemContents, classItem, index?_fin, Option.map_some, Option.getD_some]

theorem itemContents_lane (s : State) (l : Fin 4) : itemContents s laneItem l.val = laneContents s.lanes[l] := by
  simp only [itemContents, laneItem, index?_fin, Option.map_some, Option.getD_some]

theorem phaseMapContents_eq (v : Vector (Fin 4) 6) :
    phaseMapContents v = be 1 v[0].val ++ be 1 v[1].val ++ be 1 v[2].val ++ be 1 v[3].val ++ be 1 v[4].val ++
      be 1 v[5].val := by
  rw [phaseMapContents, table_toList]
  rfl

theorem alarmBytes (a : Alarm) :
    be 1 a.code ++ onesBytes 1 (a.cause?.map AlarmCause.code) =
      (match a with
       | .quiet => [0, 255]
       | .watch => [1, 255]
       | .alarm .hold => [2, 0]
       | .alarm .reload => [2, 1]
       | .alarm .energy => [2, 2] : List Byte) := by
  cases a with
  | quiet => rfl
  | watch => rfl
  | alarm k => cases k <;> rfl

theorem capture_free_eq (u : Capture) :
    u.free = (List.finRange 64).countP (fun i : Fin 64 => decide (u.segments[i] = none)) := by
  rw [Capture.free, table_toList, List.countP_map]
  refine List.countP_congr fun i _ => ?_
  simp

/-- Settles O25: each READ and each refusal by its row, and each item's contents by its table's entry. -/
theorem readsAnsweredOthersRefused : Obligations.ReadsAnsweredOthersRefused := by
  refine ⟨fun s e rest hs hk => exec_read_eq hs hk, fun s e rest hs => ⟨exec_write_noItem hs, exec_write_readonly hs,
    exec_write_short hs, exec_unclaimed_eq hs, exec_unknownOrder_eq hs⟩, fun s => ?contents⟩
  intro flag cellNo
  refine ⟨fun c b => ⟨?bank, ?capture, ?sensor⟩, phaseMapContents_eq s.phaseMap, rfl, fun i => ?pair, fun n => ?cell,
    fun k => itemContents_class s k, rfl, rfl, rfl, fun l => ?lane, rfl, rfl, rfl, ?status⟩
  case bank => exact itemContents_bank s c b
  case capture => exact itemContents_capture s c
  case sensor =>
    rw [itemContents_sensor, sensorContents, onesBytes_one, onesBytes_two]
  case pair =>
    rw [itemContents_pair]
    cases s.pairs[i] with
    | none => rfl
    | some x => simp only [pairContents, positionBytes, onesBytes_two] <;> rfl
  case cell =>
    rw [itemContents_cell, cellContents, List.append_assoc _ _ (onesBytes _ _), alarmBytes] <;> rfl
  case lane =>
    intro x
    have hrole : be 1 x.role.code = be 1 (match x.role with | .pod => 0 | .gauge => 1 | .off => 2) := by
      cases x.role <;> rfl
    have hstate : be 1 x.state.code =
        be 1 (match x.state with | .off => 0 | .down => 1 | .aligning => 2 | .up => 3) := by
      cases x.state <;> rfl
    rw [itemContents_lane]
    show laneContents x = _
    rw [laneContents, hrole, hstate] <;> rfl
  case status =>
    have hrun : be 1 s.run.state.code =
        be 1 (match s.run.state with | .idle => 0 | .run => 1 | .tailing => 2 | .frozen => 3) := by
      cases s.run.state <;> rfl
    have hphase : be 1 s.tracker.phase.code = be 1 (match s.tracker.phase with
        | .below => 0 | .ramp => 1 | .hold => 2 | .fall => 3 | .reload => 4 | .nogauge => 5) := by
      cases s.tracker.phase <;> rfl
    have hport : be 1 s.capture.port.code = flag (decide (s.capture.port = .failed)) := by
      cases s.capture.port <;> rfl
    have hlink : ∀ x : LinkState, be 1 x.code = flag (decide (x = .up)) := fun x => by cases x <;> rfl
    show statusContents s = _
    rw [statusContents, hrun, hphase, hport, hlink, hlink, onesBytes_two, capture_free_eq] <;> rfl

/-! ## CHANNEL-BANK and CHANNEL-CAPTURE -/

section
variable {s : State} {e : IntakeEntry} {rest : List IntakeEntry}

theorem exec_channelBankWrite_eq (h : Serves s e rest) (hw : WritesItem bankItem e) :
    exec .channelBankWrite s = .next (orderEnd s e rest
      (firstReason [(noItem e.order.item e.order.index, .noItem), (s.run.bypass, .state),
        (namesReadOnly e.order.contents 11 3, .readonly), (bankInUse e s, .inUse),
        (e.order.short 18 || !((bankOf e.order.contents).inRange), .range)])
      (writeBank e (s.headTaken rest))) := writeItem_eq h hw

theorem exec_channelCaptureWrite_eq (h : Serves s e rest) (hw : WritesItem captureItem e) :
    exec .channelCaptureWrite s = .next (orderEnd s e rest
      (firstReason [(noItem e.order.item e.order.index, .noItem), (s.run.bypass, .state), (s.notIdle, .state),
        (captureOutOfRange e s, .range)])
      (writeCapture e (s.headTaken rest))) := writeItem_eq h hw

theorem measuring_iff (s : State) : s.measuring = true ↔ s.run.state = .run ∨ s.run.state = .tailing := by
  simp [State.measuring]

theorem bankInUse_iff {c : Fin 32} {b : Fin 4} (hi : e.order.index = c.val * 4 + b.val) :
    bankInUse e s = true ↔ s.channels[c].active = b ∧ (s.run.state = .run ∨ s.run.state = .tailing ∨
      (s.run.state = .idle ∧ s.pulse.test ≠ .none)) := by
  obtain ⟨hc, hb⟩ := index?_bank c b
  simp only [bankInUse, hi, hc, hb, Bool.and_eq_true, Bool.or_eq_true, beq_iff_eq, measuring_iff, State.testing,
    inFlight_iff, or_assoc]

theorem writeBank_eq {c : Fin 32} {b : Fin 4} (hi : e.order.index = c.val * 4 + b.val) (s : State) :
    writeBank e s = s.setChannel c
      { s.channels[c] with banks := put s.channels[c].banks b (bankOf e.order.contents) } := by
  obtain ⟨hc, hb⟩ := index?_bank c b
  simp only [writeBank, hi, hc, hb]

theorem bankOutOfRange_iff (e : IntakeEntry) :
    (e.order.short 18 || !((bankOf e.order.contents).inRange)) = true ↔
      e.order.args.length < 18 ∨ fieldAt e.order.contents 0 2 < 1 ∨ 32767 < fieldAt e.order.contents 0 2 ∨
        fieldAt e.order.contents 2 2 < 1 ∨ fieldAt e.order.contents 4 2 < 1 ∨ fieldAt e.order.contents 8 3 < 16 ∨
        1048575 < fieldAt e.order.contents 8 3 := by
  have h2 := fieldAt_two_le e.order.contents 2
  have h4 := fieldAt_two_le e.order.contents 4
  have h6 := fieldAt_two_le e.order.contents 6
  simp only [Bool.or_eq_true, Order.short_iff, Bank.inRange, bankOf, Bool.not_and, not_within_iff]
  omega

theorem not_captureFits_iff (pre post r : Nat) : (!captureFits pre post r) = true ↔ r / 2 < pre + post + 1 := by
  simp [captureFits]

theorem captureOutOfRange_iff (e : IntakeEntry) (s : State) :
    captureOutOfRange e s = true ↔
      e.order.args.length < 7 ∨ 1 < fieldAt e.order.contents 0 1 ∨ 63 < fieldAt e.order.contents 1 1 ∨
        s.capture.ringLines / 2 < fieldAt e.order.contents 1 1 + fieldAt e.order.contents 2 1 + 1 := by
  have h2 := fieldAt_one_le e.order.contents 2
  simp only [captureOutOfRange, Bool.or_eq_true, Order.short_iff, not_within_iff, not_captureFits_iff]
  omega

theorem writeCapture_eq {c : Fin 32} (hi : e.order.index = c.val) (s : State) :
    writeCapture e s = s.setChannel c
      { s.channels[c] with
        captureOn := decide (fieldAt e.order.contents 0 1 = 1), preLines := fieldAt e.order.contents 1 1
        postLines := fieldAt e.order.contents 2 1 } := by
  simp only [writeCapture, index?_eq_some_iff.2 hi]
  rfl

/-! ## CAPTURE-SETUP -/

theorem exec_captureSetupWrite_eq (h : Serves s e rest) (hw : WritesItem setupItem e) :
    exec .captureSetupWrite s = .next (orderEnd s e rest
      (firstReason [(noItem e.order.item e.order.index, .noItem), (s.run.bypass, .state), (s.notIdle, .state),
        (setupBusy s, .busy), (setupOutOfRange e, .range), (setupMisfit e s, .range)])
      (writeSetup e (s.headTaken rest))) := writeItem_eq h hw

theorem capture_free_lt_iff (u : Capture) : u.free < 64 ↔ ∃ i : Fin 64, u.segments[i] ≠ none := by
  have hle : u.free ≤ (List.finRange 64).length := by rw [capture_free_eq]; exact List.countP_le_length
  have hall : u.free = (List.finRange 64).length ↔ ∀ i : Fin 64, u.segments[i] = none := by
    rw [capture_free_eq, List.countP_eq_length]
    simp
  rw [List.length_finRange] at hle hall
  rw [← not_forall, ← hall]
  omega

theorem writing_iff (u : Capture) :
    u.writing = true ↔ u.queue ≠ [] ∨ ∃ w n, u.access = some { op := .write w, started := n } := by
  have haccess : (match u.access with
      | some { op := .write _, .. } => true
      | _ => false) = true ↔ ∃ w n, u.access = some { op := .write w, started := n } := by
    rcases u.access with _ | ⟨op, n⟩
    · simp
    · cases op <;> simp
  rw [Capture.writing, Bool.or_eq_true]
  exact or_congr (by simp) haccess

theorem setupBusy_iff (s : State) :
    setupBusy s = true ↔ (∃ i : Fin 64, s.capture.segments[i] ≠ none) ∨ s.capture.queue ≠ [] ∨
      ∃ w n, s.capture.access = some { op := .write w, started := n } := by
  rw [setupBusy, Bool.or_eq_true, decide_eq_true_eq, capture_free_lt_iff, writing_iff]

theorem setupOutOfRange_iff (e : IntakeEntry) :
    setupOutOfRange e = true ↔
      ¬ (12 ≤ e.order.args.length ∧ 65536 ≤ fieldAt e.order.contents 0 4 ∧ fieldAt e.order.contents 0 4 ≤ 16777216 ∧
        (fieldAt e.order.contents 4 2 = 256 ∨ fieldAt e.order.contents 4 2 = 512 ∨ fieldAt e.order.contents 4 2 = 1024 ∨
          fieldAt e.order.contents 4 2 = 2048 ∨ fieldAt e.order.contents 4 2 = 4096 ∨
          fieldAt e.order.contents 4 2 = 8192 ∨ fieldAt e.order.contents 4 2 = 16384) ∧
        32 * fieldAt e.order.contents 4 2 ≤ fieldAt e.order.contents 0 4 ∧
        fieldAt e.order.contents 6 2 ≤ fieldAt e.order.contents 4 2) := by
  simp only [setupOutOfRange, Bool.or_eq_true, Order.short_iff, Bool.not_eq_true', ← Bool.not_eq_true, setupInRange,
    Bool.and_eq_true, within_iff, decide_eq_true_eq, ringSizes, List.contains_iff_mem, List.mem_cons, List.not_mem_nil,
    or_false]
  omega

theorem setupMisfit_iff (e : IntakeEntry) (s : State) :
    setupMisfit e s = true ↔
      ¬ ∀ c : Fin 32, s.channels[c].preLines + s.channels[c].postLines + 1 ≤ fieldAt e.order.contents 4 2 / 2 := by
  simp only [setupMisfit, List.any_eq_true, allChannels, List.mem_finRange, true_and, captureFits, Bool.not_eq_true',
    decide_eq_false_iff_not, not_forall]

end

/-- Settles O26: three refusal lists, read condition by condition. -/
theorem channelItemsAndCaptureSetupWritten : Obligations.ChannelItemsAndCaptureSetupWritten := by
  refine ⟨fun s e rest hs hw => ⟨fun hi => writeItem_refused hs hw (firstReason_holds _ _ ((noItem_of_writes hw).2 hi)),
    fun c b hi => ?bank⟩, fun s e rest hs hw => ⟨fun hi => writeItem_refused hs hw
      (firstReason_holds _ _ ((noItem_of_writes hw).2 hi)), fun c hi => ?capture⟩,
    fun s e rest hs hw => ?setup⟩
  case bank =>
    have hno := noItem_of_index hw (show e.order.index < 128 by have := c.isLt; have := b.isLt; omega)
    simp only [exec_channelBankWrite_eq hs hw, orderEnd_cons, orderEnd_nil, hno, Bool.false_eq_true, if_false,
      bankInUse_iff hi, bankOutOfRange_iff, writeBank_eq hi]
    rfl
  case capture =>
    have hno := noItem_of_index hw (hi ▸ c.isLt)
    simp only [exec_channelCaptureWrite_eq hs hw, orderEnd_cons, orderEnd_nil, hno, Bool.false_eq_true, if_false, ite_or,
      notIdle_iff, captureOutOfRange_iff, writeCapture_eq hi]
    rfl
  case setup =>
    intro l m r d writing power inRange fits busy
    refine ⟨fun hi => writeItem_refused hs hw (firstReason_holds _ _ ((noItem_single hw rfl).2 hi)), fun hi => ?_⟩
    have hno := noItem_of_index hw (hi ▸ Nat.one_pos)
    refine ⟨fun hstate => ?state, fun hb hstate => ⟨fun hbusy => ?busy, fun hfree => ⟨fun hbad => ?range,
      fun hrange hfits => ?done⟩⟩⟩
    case state =>
      rw [exec_captureSetupWrite_eq hs hw, orderEnd_cons, if_neg (by rw [hno]; exact Bool.false_ne_true),
        orderEnd_closed hstate]
    case busy =>
      simp only [exec_captureSetupWrite_eq hs hw, orderEnd_cons, hno, hb, notIdle_of_idle hstate, Bool.false_eq_true,
        if_false, (setupBusy_iff s).2 hbusy, if_true]
    all_goals
      have hfree' : ¬ setupBusy s = true := fun h => hfree ((setupBusy_iff s).1 h)
    case range =>
      simp only [exec_captureSetupWrite_eq hs hw, orderEnd_cons, hno, hb, notIdle_of_idle hstate, Bool.false_eq_true,
        if_false, hfree', setupOutOfRange_iff, setupMisfit_iff, ← ite_or]
      rw [if_pos hbad]
    case done =>
      have hrange' : ¬ setupOutOfRange e = true := fun h => (setupOutOfRange_iff e).1 h hrange
      have hfits' : ¬ setupMisfit e s = true := fun h => (setupMisfit_iff e s).1 h hfits
      refine ⟨writeSetup e (s.headTaken rest), ?_, rfl, rfl, rfl, fun c => ?_, rfl, rfl, rfl⟩
      · simp only [exec_captureSetupWrite_eq hs hw, orderEnd_cons, orderEnd_nil, hno, hb, notIdle_of_idle hstate,
          Bool.false_eq_true, if_false, hfree', hrange', hfits']
      · have hring : (writeSetup e (s.headTaken rest)).capture.rings[c] = Ring.reset r := vector_replicate_get _ c
        rw [hring]
        exact ⟨rfl, rfl, rfl⟩

/-! ## CELL and LANE -/

section
variable {s : State} {e : IntakeEntry} {rest : List IntakeEntry}

theorem exec_cellWrite_eq (h : Serves s e rest) (hw : WritesItem cellItem e) :
    exec .cellWrite s = .next (orderEnd s e rest
      (firstReason [(noItem e.order.item e.order.index, .noItem), (s.run.bypass, .state),
        (namesReadOnly e.order.contents 1 32, .readonly), (s.notIdle, .state),
        (e.order.short 37 || !(within 0 7 (fieldAt e.order.contents 0 1)), .range)])
      (writeCell e (s.headTaken rest))) := writeItem_eq h hw

theorem exec_laneWrite_eq (h : Serves s e rest) (hw : WritesItem laneItem e) :
    exec .laneWrite s = .next (orderEnd s e rest
      (firstReason [(noItem e.order.item e.order.index, .noItem), (s.run.bypass, .state),
        (namesReadOnly e.order.contents 0 2 || namesReadOnly e.order.contents 4 4, .readonly), (s.notIdle, .state),
        (s.testing, .busy), (e.order.short 12 || !(within 0 4095 (fieldAt e.order.contents 2 2)), .range)])
      (writeLane e (s.headTaken rest))) := writeItem_eq h hw

theorem writeCell_eq {n : Fin 1024} {k : Fin 8} (hi : e.order.index = n.val)
    (hk : k.val = fieldAt e.order.contents 0 1) (s : State) :
    writeCell e s = s.setCell n { s.cells.cells[n] with cls := k } := by
  simp only [writeCell, index?_eq_some_iff.2 hi, index?_eq_some_iff.2 hk.symm]

theorem writeLane_eq {l : Fin 4} (hi : e.order.index = l.val) (s : State) :
    writeLane e s = s.setLane l { s.lanes[l] with latency := fieldAt e.order.contents 2 2 } := by
  simp only [writeLane, index?_eq_some_iff.2 hi]

end

/-- Settles O29: two refusal lists, read condition by condition. -/
theorem cellAndLaneWritten : Obligations.CellAndLaneWritten := by
  refine ⟨fun s e rest hs hw => ⟨fun hi => writeItem_refused hs hw (firstReason_holds _ _ ((noItem_of_writes hw).2 hi)),
    fun n hi => ?cell⟩, fun s e rest hs hw => ⟨fun hi => writeItem_refused hs hw
      (firstReason_holds _ _ ((noItem_of_writes hw).2 hi)), fun k hi => ?lane⟩⟩
  case cell =>
    have hno := noItem_of_index hw (hi ▸ n.isLt)
    have hrange : (e.order.short 37 || !(within 0 7 (fieldAt e.order.contents 0 1))) = true ↔
        e.order.args.length < 37 ∨ 7 < fieldAt e.order.contents 0 1 := by
      simp only [Bool.or_eq_true, Order.short_iff, not_within_iff, Nat.not_lt_zero, false_or]
    simp only [exec_cellWrite_eq hs hw, orderEnd_cons, orderEnd_nil, hno, Bool.false_eq_true, if_false, hrange,
      notIdle_iff]
    refine ⟨fun hb => ?_, fun hb hr => ?_, fun hb hr hstate => ?_, fun hb hr hstate => ⟨fun hbad => ?_,
      fun hlen k hk => ?_⟩⟩
    · rw [if_pos hb]
    · rw [if_neg (by simp [hb]), if_pos hr]
    · rw [if_neg (by simp [hb]), if_neg (by simp [hr]), if_pos hstate]
    · rw [if_neg (by simp [hb]), if_neg (by simp [hr]), if_neg (by simp [hstate]), if_pos hbad]
    · have := k.isLt
      rw [if_neg (by simp [hb]), if_neg (by simp [hr]), if_neg (by simp [hstate]), if_neg (by omega),
        writeCell_eq hi hk]
      rfl
  case lane =>
    have hno := noItem_of_index hw (hi ▸ k.isLt)
    simp only [exec_laneWrite_eq hs hw, orderEnd_cons, orderEnd_nil, hno, Bool.false_eq_true, if_false, Bool.or_eq_true,
      notIdle_iff, testing_iff, Order.short_iff, not_within_iff, Nat.not_lt_zero, false_or, writeLane_eq hi]
    rfl

end Sys2Proof.Machine
end

section
/-! The own record queue, the cells, and the timers of the rate slots and of the tally record (O18, O20, O22, O38, O48). -/

namespace Sys2Proof.Machine

/-! ## Offers (R177, R178) -/

theorem vital_iff (r : Record) :
    r.vital = true ↔ (∃ e, r = .event e) ∨ (∃ n, r = .notice n) ∨ (∃ q, r = .pulse q) ∨ (∃ y, r = .tally y) := by
  cases r <;> simp [Record.vital]

/-- The table of R177. -/
theorem admitted_iff (f : Nat) (r : Record) (located : Bool) (h : (∃ h, r = .hit h) ∨ located = false) :
    admitted f r located = true ↔ f + r.units ≤ 4096 ∧ (f < 3072 ∨ (f < 3584 ∧ located = false) ∨
      (∃ e, r = .event e) ∨ (∃ n, r = .notice n) ∨ (∃ q, r = .pulse q) ∨ (∃ y, r = .tally y)) := by
  rw [← vital_iff]
  have hvital : located = true → r.vital = false := fun hl => by
    obtain ⟨x, rfl⟩ := h.resolve_right (by simp [hl])
    rfl
  simp only [admitted, Bool.and_eq_true, decide_eq_true_eq]
  refine and_congr_right fun _ => ?_
  split_ifs with h1 h2
  · simp [h1]
  · cases located
    · simp [h2]
    · simp [h1, hvital rfl]
  · simp [h1, h2]

theorem offer_admitted {r : Record} {located : Bool} {s : State} (hb : s.run.bypass = false)
    (h : admitted s.link.fill r located = true) : offer r located s = s.setLink (s.link.enqueue r) := by
  rw [offer_link _ _ _ hb, Link.offer, if_pos h]

theorem offer_shed {r : Record} {located : Bool} {s : State} (hb : s.run.bypass = false)
    (h : ¬ admitted s.link.fill r located = true) : offer r located s = s.setLink (s.link.shed r) := by
  rw [offer_link _ _ _ hb, Link.offer, if_neg h]

theorem notice_admitted {f : Nat} {n : Notice} (h : f + 2 ≤ 4096) : admitted f (.notice n) false = true :=
  (admitted_iff f _ false (.inr rfl)).2 ⟨h, by simp⟩

theorem notify_own {body : NoticeBody} {s : State} (hb : s.run.bypass = false) (h : s.link.fill + 2 ≤ 4096) :
    (notify body s).link.own = s.link.own ++
      [.notice { part := s.run.address, tick := s.timebase.counter, body := body }] := by
  rw [notify, offer_admitted hb (notice_admitted h)]
  rfl

/-- Settles O48: the table of R177, read for the record that is offered. -/
theorem offerAdmitsByFill : Obligations.OfferAdmitsByFill := by
  intro r located s f kindAdmitted admits
  exact ⟨offer_bypass r located s, fun hb hkind => ⟨fun h => offer_admitted hb ((admitted_iff _ _ _ hkind).2 h),
    fun h => offer_shed hb fun ha => h ((admitted_iff _ _ _ hkind).1 ha)⟩⟩

/-! ## The cells -/

theorem changeAlarm_cells (n : Fin 1024) (c : Cell) (a : Alarm) (k : Option CellCause) (s : State) :
    (changeAlarm n c a k s).cells = { s.cells with cells := put s.cells.cells n { c with alarm := a } } := by
  cases k with
  | none => rfl
  | some k => exact notify_same (g := State.cells) ⟨fun _ _ => rfl⟩ _ _

theorem changeAlarm_get (n m : Fin 1024) (c : Cell) (a : Alarm) (k : Option CellCause) (s : State) :
    (changeAlarm n c a k s).cells.cells[m] = if m = n then { c with alarm := a } else s.cells.cells[m] := by
  rw [changeAlarm_cells]
  exact put_get _ _ _ _

/-- Work done once for each cell, read off cell by cell. -/
theorem forEach_cells {γ : Type} {k : State → γ} {h : γ → Cell → Cell} {f : Fin 1024 → State → State}
    (hk : ∀ n s, k (f n s) = k s)
    (hf : ∀ n s (m : Fin 1024), (f n s).cells.cells[m] = if m = n then h (k s) s.cells.cells[n] else s.cells.cells[m])
    (s : State) (n : Fin 1024) : (forEach cellNumbers f s).cells.cells[n] = h (k s) s.cells.cells[n] := by
  unfold cellNumbers
  have hall := forEach_all (g := fun t => t.cells.cells) (h := fun _ => h) hk hf s n
  exact hall

theorem changeAlarm_classes (n : Fin 1024) (c : Cell) (a : Alarm) (k : Option CellCause) (s : State) :
    (changeAlarm n c a k s).cells.classes = s.cells.classes := by rw [changeAlarm_cells]

/-- The alarm state of R116 and R117. -/
theorem Cell.evaluate_alarm (c : Cell) (k : ClassRecord) (p : Phase) :
    (c.evaluate k p).1 = match c.alarm, c.alarmCause k p with
      | .alarm a, _ => .alarm a
      | .watch, some a => .alarm a
      | .watch, none => .watch
      | .quiet, some a => .alarm a
      | .quiet, none => if k.watchRate ≠ 0 ∧ k.watchRate ≤ c.sum then .watch else .quiet := by
  unfold Cell.evaluate
  cases c.alarm with
  | alarm a => rfl
  | watch => cases c.alarmCause k p <;> rfl
  | quiet =>
    cases c.alarmCause k p with
    | some a => rfl
    | none =>
      dsimp only
      split <;> rfl

/-- A notice is made exactly when the alarm state changes, and names the state that was entered (R125). -/
theorem Cell.evaluate_notice (c : Cell) (k : ClassRecord) (p : Phase) :
    ((c.evaluate k p).1 = c.alarm ∧ (c.evaluate k p).2 = none) ∨
      ((c.evaluate k p).1 ≠ c.alarm ∧ (∃ a : AlarmCause, c.evaluate k p = (.alarm a, some a.notice)) ∨
        ((c.evaluate k p).1 ≠ c.alarm ∧ c.evaluate k p = (.watch, some .rate))) := by
  unfold Cell.evaluate
  cases c.alarm with
  | alarm a => exact .inl ⟨rfl, rfl⟩
  | watch =>
    cases c.alarmCause k p with
    | some a => exact .inr (.inl ⟨nofun, a, rfl⟩)
    | none => exact .inl ⟨rfl, rfl⟩
  | quiet =>
    cases c.alarmCause k p with
    | some a => exact .inr (.inl ⟨nofun, a, rfl⟩)
    | none =>
      dsimp only
      split
      · exact .inr (.inr ⟨nofun, rfl⟩)
      · exact .inl ⟨rfl, rfl⟩

/-- An event that its cell accounts. -/
theorem accountEvent_eq {e : EventRecord} {s : State} {n : Fin 1024} (hn : e.cell = some n) (hrun : s.run.state = .run)
    (hh : e.halted = false) :
    accountEvent e s =
      let c := s.cells.cells[n].accounted e
      let r := c.evaluate s.cells.classes[c.cls] e.phase
      changeAlarm n c r.1 r.2 s := by
  simp only [accountEvent, hn]
  rw [if_pos ⟨hrun, hh⟩]

theorem accountEvent_other {e : EventRecord} {s : State}
    (h : e.cell = none ∨ s.run.state ≠ .run ∨ e.halted = true) : accountEvent e s = s := by
  unfold accountEvent
  split
  · rfl
  · next n hn =>
    rw [if_neg]
    rintro ⟨hrun, hh⟩
    rcases h with h | h | h
    · exact nomatch hn.symm.trans h
    · exact h hrun
    · exact nomatch hh.symm.trans h

/-- Settles O18: the cell after an accounted event, its evaluation, and the notice of a change. -/
theorem eventAccounted : Obligations.EventAccounted := by
  intro e s
  refine ⟨accountEvent_other, fun n hn hrun hh => ?_⟩
  intro c d
  have hacc : accountEvent e s = changeAlarm n (c.accounted e)
      ((c.accounted e).evaluate s.cells.classes[(c.accounted e).cls] e.phase).1
      ((c.accounted e).evaluate s.cells.classes[(c.accounted e).cls] e.phase).2 s := accountEvent_eq hn hrun hh
  have hc : (c.accounted e).cls = c.cls := rfl
  have hd : d = { c.accounted e with
      alarm := ((c.accounted e).evaluate s.cells.classes[(c.accounted e).cls] e.phase).1 } := by
    show (accountEvent e s).cells.cells[n] = _
    rw [hacc]
    exact (changeAlarm_get _ _ _ _ _ _).trans (if_pos rfl)
  have hnotice := (c.accounted e).evaluate_notice s.cells.classes[(c.accounted e).cls] e.phase
  have halarm := (c.accounted e).evaluate_alarm s.cells.classes[(c.accounted e).cls] e.phase
  have hlink : ∀ a k, accountEvent e s = changeAlarm n (c.accounted e) a (some k) s → s.run.bypass = false →
      s.link.fill + 2 ≤ 4096 → (accountEvent e s).link.own = s.link.own ++
        [.notice { part := s.run.address, tick := s.timebase.counter, body := .cell n c.alarm a k }] :=
    fun a k h hb hf => h ▸ notify_own (s := s.setCell n { c.accounted e with alarm := a }) hb hf
  generalize (c.accounted e).evaluate s.cells.classes[(c.accounted e).cls] e.phase = r at *
  refine ⟨?events, ?energy, ?slot, fun k hk => ?slots, ?hold, ?reload, ?cls, fun m hm => ?other, ?alarm, fun h => ?same,
    fun h hb hf => ?told⟩
  case events => rw [hd]; rfl
  case energy => rw [hd]; rfl
  case slot => rw [hd]; exact put_same c.slots 0 _
  case slots => rw [hd]; exact put_other _ _ _ _ hk
  case hold => rw [hd]; rfl
  case reload => rw [hd]; rfl
  case cls => rw [hd]; rfl
  case other =>
    rw [hacc]
    exact (changeAlarm_get _ _ _ _ _ _).trans (if_neg hm)
  case alarm =>
    rw [hd]
    exact halarm
  case same =>
    have hsame : r.1 = c.alarm := by rw [hd] at h; exact h
    rcases hnotice with ⟨-, hnone⟩ | ⟨hne, -⟩ | ⟨hne, -⟩
    · rw [hacc, hnone]
      rfl
    · exact absurd hsame hne
    · exact absurd hsame hne
  case told =>
    have hchange : r.1 ≠ c.alarm := fun hsame => h (by rw [hd]; exact hsame)
    have hr : d.alarm = r.1 := by rw [hd]
    rcases hnotice with ⟨hsame, -⟩ | ⟨-, a, rfl⟩ | ⟨-, rfl⟩
    · exact absurd hsame hchange
    · rw [hr]
      refine ⟨_, hlink _ _ hacc hb hf, ?_⟩
      cases a <;> rfl
    · rw [hr]
      exact ⟨_, hlink _ _ hacc hb hf, rfl⟩

/-! ## The rate slots (R118, R119) -/

/-- A WATCH cell whose sum is below half its watch rate, rounded up, returns to QUIET. -/
def Cell.decayed (classes : Vector ClassRecord 8) (x : Cell) : Cell :=
  { x with alarm := if x.alarm = .watch ∧ x.sum < (classes[x.cls].watchRate + 1) / 2 then .quiet else x.alarm }

theorem decayCell_get (n m : Fin 1024) (s : State) :
    (decayCell n s).cells.cells[m] =
      if m = n then s.cells.cells[n].decayed s.cells.classes else s.cells.cells[m] := by
  unfold decayCell Cell.decayed
  dsimp only
  split
  · exact changeAlarm_get _ _ _ _ _ _
  · split
    · next e => rw [e]
    · rfl

theorem decayCell_classes (n : Fin 1024) (s : State) : (decayCell n s).cells.classes = s.cells.classes := by
  unfold decayCell
  dsimp only
  split
  · exact changeAlarm_classes _ _ _ _ _
  · rfl

theorem shiftSlots_classes (s : State) : (shiftSlots s).cells.classes = s.cells.classes := by
  unfold shiftSlots
  rw [forEach_same (fun t => t.cells.classes) _ _ decayCell_classes]
  rfl

theorem shiftSlots_get (s : State) (n : Fin 1024) :
    (shiftSlots s).cells.cells[n] = s.cells.cells[n].shifted.decayed s.cells.classes := by
  have hshift : (mapTable Cell.shifted s.cells.cells)[n] = s.cells.cells[n].shifted := mapTable_get _ _ _
  unfold shiftSlots
  rw [forEach_cells (k := fun t => t.cells.classes) (h := fun k x => x.decayed k) decayCell_classes
    (fun i t j => decayCell_get i j t), State.setCells_cells, hshift]

/-- The next boundary set on the cell unit leaves the rest of the unit. -/
theorem setBoundary_unit (t : State) (b : Option Tick) :
    let u := t.setCells { t.cells with boundary := b }
    u.cells.cells = t.cells.cells ∧ u.cells.classes = t.cells.classes ∧ u.cells.slotLength = t.cells.slotLength :=
  ⟨rfl, rfl, rfl⟩

/-- A slot boundary moves the boundary on and otherwise leaves the cell unit as the shift left it. -/
theorem slotBoundary_unit (s : State) :
    (slotBoundary s).cells.cells = (shiftSlots s).cells.cells ∧
    (slotBoundary s).cells.classes = (shiftSlots s).cells.classes ∧
    (slotBoundary s).cells.slotLength = (shiftSlots s).cells.slotLength := by
  unfold slotBoundary
  exact setBoundary_unit (shiftSlots s) _

theorem slotBoundary_get (s : State) (n : Fin 1024) :
    (slotBoundary s).cells.cells[n] = s.cells.cells[n].shifted.decayed s.cells.classes := by
  rw [(slotBoundary_unit s).1, shiftSlots_get]

theorem slotBoundary_same {β : Type} {g : State → β} (h : BlindCells g) (s : State) : g (slotBoundary s) = g s := by
  unfold slotBoundary
  exact (h.cells _ _).trans (shiftSlots_same h s)

/-- Settles O20: each cell's slots shift and a WATCH cell may return to QUIET; nothing but the cells and the link changes. -/
theorem slotBoundaryShifts : Obligations.SlotBoundaryShifts := by
  intro b s hr hb hreached
  obtain ⟨-, hclasses, hlength⟩ := slotBoundary_unit s
  refine ⟨_, exec_rateSlotBoundary_due hr hb hreached, slotBoundary_boundary hb, hclasses.trans (shiftSlots_classes s),
    hlength.trans (slotLength_of_slotTimer (shiftSlots_slotTimer s)), slotBoundary_get s, ?_, ?_, ?_, ?_, ?_, ?_, ?_, ?_,
    ?_, ?_⟩
  case refine_10 => constructor <;> exact slotBoundary_same ⟨⟨fun _ _ => rfl⟩, fun _ _ => rfl⟩ s
  all_goals exact slotBoundary_same ⟨⟨fun _ _ => rfl⟩, fun _ _ => rfl⟩ s

/-! ## CLEAR-CELL (R122, R123) -/

theorem clearCell_get (n m : Fin 1024) (s : State) :
    (clearCell n s).cells.cells[m] =
      if m = n then { s.cells.cells[n] with holdCount := 0, reloadCount := 0, alarm := .quiet }
      else s.cells.cells[m] := changeAlarm_get _ _ _ _ _ _

theorem clearCell_unit (n : Fin 1024) (s : State) :
    (clearCell n s).cells.classes = s.cells.classes ∧ (clearCell n s).cells.boundary = s.cells.boundary := by
  unfold clearCell
  rw [changeAlarm_cells]
  exact ⟨rfl, rfl⟩

section
variable {s : State} {e : IntakeEntry} {rest : List IntakeEntry}

theorem exec_clearCell_eq (h : Serves s e rest) (hk : TakenAs clearCellKind e) :
    exec .clearCell s = .next (orderEnd s e rest
      (firstReason [(s.run.bypass, .state), (e.order.short 2 || (targetCells e.order).isNone, .range)])
      (forEach ((targetCells e.order).getD []) Machine.clearCell (s.headTaken rest))) :=
  congrArg Host.Outcome.next (executeOrder_eq h ((taken_iff _ _).2 hk))

theorem targetCells_isNone_iff (o : Order) :
    (targetCells o).isNone = true ↔ 1024 ≤ fieldAt o.args 0 2 ∧ fieldAt o.args 0 2 ≠ 65535 := by
  unfold targetCells
  split
  · next h => simp [h]
  · next h => simp [index?_eq_none_iff, h]

theorem exists_targetCells {o : Order} (h : fieldAt o.args 0 2 < 1024 ∨ fieldAt o.args 0 2 = 65535) :
    ∃ l, targetCells o = some l ∧ l.Nodup ∧
      ∀ n : Fin 1024, n ∈ l ↔ n.val = fieldAt o.args 0 2 ∨ fieldAt o.args 0 2 = 65535 := by
  unfold targetCells
  split
  · next hall => exact ⟨_, rfl, List.nodup_finRange 1024, fun n => by simp [cellNumbers, hall]⟩
  · next hone =>
    obtain ⟨i, hi⟩ : ∃ i : Fin 1024, i.val = fieldAt o.args 0 2 := ⟨⟨_, h.resolve_right hone⟩, rfl⟩
    rw [← hi, index?_fin]
    refine ⟨[i], rfl, List.nodup_singleton i, fun n => ?_⟩
    rw [List.mem_singleton, Fin.ext_iff]
    exact (or_iff_left (hi ▸ hone)).symm

end

/-- Settles O38: the cells of the target are cleared one by one. -/
theorem clearCellClears : Obligations.ClearCellClears := by
  intro s e rest hs hk target
  have hrange : (e.order.short 2 || (targetCells e.order).isNone) = true ↔
      e.order.args.length < 2 ∨ (1024 ≤ target ∧ target ≠ 65535) := by
    rw [Bool.or_eq_true, Order.short_iff, targetCells_isNone_iff]
  refine ⟨fun hb => ?state, fun hb hbad => ?range, fun hb hlen htarget => ?done⟩
  case state => simp only [exec_clearCell_eq hs hk, orderEnd_cons, hb, if_true]
  case range =>
    simp only [exec_clearCell_eq hs hk, orderEnd_cons, hb, hrange, Bool.false_eq_true, if_false]
    rw [if_pos hbad]
  case done =>
    obtain ⟨l, hl, hnodup, hmem⟩ := exists_targetCells htarget
    have hgood : ¬ (e.order.args.length < 2 ∨ (1024 ≤ target ∧ target ≠ 65535)) := by omega
    have hsame : ∀ {β : Type} {g : State → β}, BlindCells g →
        g (forEach l Machine.clearCell (s.headTaken rest)) = g (s.headTaken rest) := fun h =>
      forEach_same _ _ _ (clearCell_same h) _
    refine ⟨forEach l Machine.clearCell (s.headTaken rest), ?_, fun n => ?_, ?_, ?_, ?_, ?_, ?_, ?_, ?_, ?_, ?_, ?_⟩
    case refine_1 =>
      rw [exec_clearCell_eq hs hk, orderEnd_cons, if_neg (by simp [hb]), orderEnd_cons,
        if_neg fun h => hgood (hrange.1 h), orderEnd_nil, hl]
      rfl
    case refine_2 =>
      refine (forEach_some (g := fun t => t.cells.cells) (k := fun _ => ())
        (h := fun _ _ (x : Cell) => { x with holdCount := 0, reloadCount := 0, alarm := .quiet }) (fun _ _ => rfl)
        (fun i t j => clearCell_get i j t) hnodup _ n).trans (if_congr (hmem n) rfl rfl)
    case refine_3 => exact forEach_same (fun t => t.cells.classes) _ _ (fun n t => (clearCell_unit n t).1) _
    case refine_4 => exact forEach_same (fun t => t.cells.boundary) _ _ (fun n t => (clearCell_unit n t).2) _
    case refine_12 => constructor <;> exact hsame ⟨⟨fun _ _ => rfl⟩, fun _ _ => rfl⟩
    all_goals exact hsame ⟨⟨fun _ _ => rfl⟩, fun _ _ => rfl⟩

/-! ## The tally timer (R189, R190) -/

theorem exec_tallyTimerExpiry_due {s : State} {x : Tick} (hr : s.running = true) (hx : s.link.tallyExpiry = some x)
    (hreached : atOrAfter s.timebase.counter x = true) : exec .tallyTimerExpiry s = .next (tallyExpires s) := by
  have hdue : s.expired s.link.tallyExpiry = true := by rw [hx]; exact hreached
  exact congrArg Host.Outcome.next ((whileRunning_of_running hr _).trans (if_pos hdue))

theorem tallyRecord_admitted_iff (f : Nat) (y : TallyRecord) :
    admitted f (.tally y) false = true ↔ f + 4 ≤ 4096 :=
  (admitted_iff f _ false (.inr rfl)).trans (and_iff_left (by simp))

/-- The tally timer set one interval later. -/
def State.nextTally (s : State) : State :=
  s.setLink { s.link with tallyExpiry := s.link.tallyExpiry.map (fun x => tickAdd x s.link.tallyInterval) }

theorem tallyExpires_eq (s : State) :
    tallyExpires s = if s.run.bypass = true then s.nextTally else offerTally s.nextTally := rfl

theorem offerTally_of_fits {s : State} (h : s.link.fill + 4 ≤ 4096) :
    offerTally s = (s.setLink { s.link.enqueue (.tally (tallyRecord s)) with
      counts := TallyCounts.zero, highWater := s.link.fill + 4 }).setLanes (mapTable Lane.tallied s.lanes) := by
  have ha := (tallyRecord_admitted_iff s.link.fill (tallyRecord s)).2 h
  have hk : s.link.offer (.tally (tallyRecord s)) false = s.link.enqueue (.tally (tallyRecord s)) := if_pos ha
  unfold offerTally
  dsimp only
  rw [if_pos ha, hk, Link.fill_enqueue]
  rfl

theorem offerTally_of_full {s : State} (h : 4096 < s.link.fill + 4) :
    offerTally s = s.setLink (s.link.shed (.tally (tallyRecord s))) := by
  have ha : ¬ admitted s.link.fill (.tally (tallyRecord s)) false = true := fun ha =>
    Nat.not_le.2 h ((tallyRecord_admitted_iff _ _).1 ha)
  have hk : s.link.offer (.tally (tallyRecord s)) false = s.link.shed (.tally (tallyRecord s)) := if_neg ha
  unfold offerTally
  dsimp only
  rw [if_neg ha, hk]

theorem offerTally_same {β : Type} {g : State → β} (hlink : ∀ s x, g (s.setLink x) = g s)
    (hlanes : ∀ s x, g (s.setLanes x) = g s) (s : State) : g (offerTally s) = g s := by
  unfold offerTally
  dsimp only
  split
  · rw [hlanes, hlink]
  · exact hlink _ _

theorem tallyExpires_same {β : Type} {g : State → β} (hlink : ∀ s x, g (s.setLink x) = g s)
    (hlanes : ∀ s x, g (s.setLanes x) = g s) (s : State) : g (tallyExpires s) = g s := by
  unfold tallyExpires
  dsimp only
  split
  · exact hlink _ _
  · rw [offerTally_same hlink hlanes, hlink]

theorem offerTally_expiry (s : State) : (offerTally s).link.tallyExpiry = s.link.tallyExpiry := by
  unfold offerTally Link.offer
  dsimp only
  split <;> rfl

/-- Settles O22: the expiry in bypass, with a record that fits, and with one that does not. -/
theorem tallyExpiryReports : Obligations.TallyExpiryReports := by
  intro x s hr hx hreached
  refine ⟨tallyExpires s, exec_tallyTimerExpiry_due hr hx hreached, ?expiry, fun hb => ?bypass, fun hb hfit => ?fits,
    fun hb hfit => ?shed, tallyExpires_same (fun _ _ => rfl) (fun _ _ => rfl) s,
    by constructor <;> exact tallyExpires_same (fun _ _ => rfl) (fun _ _ => rfl) s,
    by constructor <;> exact tallyExpires_same (fun _ _ => rfl) (fun _ _ => rfl) s⟩
  case expiry =>
    unfold tallyExpires
    dsimp only
    split
    · rw [hx]; rfl
    · rw [offerTally_expiry, hx]; rfl
  case bypass =>
    rw [tallyExpires_eq, if_pos hb]
    exact ⟨rfl, rfl, rfl⟩
  case fits =>
    rw [tallyExpires_eq, if_neg (by simp [hb]), offerTally_of_fits (s := s.nextTally) hfit]
    exact ⟨rfl, rfl, rfl, fun l => mapTable_get _ _ _⟩
  case shed =>
    rw [tallyExpires_eq, if_neg (by simp [hb]), offerTally_of_full (s := s.nextTally) hfit]
    exact ⟨rfl, rfl, rfl⟩

end Sys2Proof.Machine
end

section
/-! The record link: its ports, the orders that arrive at the near port, and the two transmitters (O43, O44, O47). -/

namespace Sys2Proof.Machine

/-! ## The ports (R175, R176) -/

theorem exec_idleFrame_eq (p : Port) (frame : List Byte) {s : State} (hr : s.running = true) :
    exec (.idleFrame p frame) s = .next (portArrival p frame s) :=
  congrArg Host.Outcome.next (whileRunning_of_running hr _)

theorem portArrival_up {p : Port} {s : State} (h : (s.link.port p).state = .up) (frame : List Byte) :
    portArrival p frame s = upPortFrame p frame s := by
  simp only [portArrival, h]

theorem portArrival_down {p : Port} {s : State} (h : (s.link.port p).state = .down) (frame : List Byte) :
    portArrival p frame s = alignPort p frame s := by
  simp only [portArrival, h]

theorem upPortFrame_failed {p : Port} {frame : List Byte} (h : readLinkFrame p frame = none) (s : State) :
    upPortFrame p frame s = failPortFrame p s := by
  simp only [upPortFrame, h]

theorem upPortFrame_taken {p : Port} {frame : List Byte} {f : LinkFrame} (h : readLinkFrame p frame = some f) (s : State) :
    upPortFrame p frame s = takeFrame f (s.setPort p { s.link.port p with failures := 0 }) := by
  simp only [upPortFrame, h]

theorem ordersWaiting_eq (k : Link) :
    k.ordersWaiting =
      ((if ∃ x, k.farSending = some x ∧ x.source = .forward ∧ x.queued = true then k.forward.tail else k.forward).filter
        (fun e => decide (e ≠ .burst))).length := by
  rw [Link.ordersWaiting, List.countP_eq_length_filter]
  rcases k.farSending with _ | ⟨src, q, f⟩
  · simp
  · cases src <;> cases q <;> simp

/-- The orders that a departure of the far port from UP loses. -/
theorem waitingForward_orders (k : Link) : k.waitingForward.countP Forward.isOrder = k.ordersWaiting := by
  have horder : ∀ e : Forward, e.isOrder = decide (e ≠ .burst) := fun e => by cases e <;> rfl
  rw [ordersWaiting_eq, ← List.countP_eq_length_filter, Link.waitingForward, funext horder]
  rcases k.farSending with _ | ⟨src, q, f⟩
  · simp
  · cases src <;> cases q <;> simp

/-- The record link after a port in UP, with whatever else it holds, has gone to DOWN. -/
def Link.portDown (k : Link) (p : Port) : Link :=
  (k.setPort p { k.port p with state := .down, alignCount := 0, prevSeq := none }).leftUp p

theorem portDown_eq (p : Port) (s : State) : Machine.portDown p s = s.setLink (s.link.portDown p) := rfl

theorem Link.portDown_far_counts (k : Link) :
    (k.portDown .far).counts =
      { k.counts with discardedOrders := min 65535 (k.counts.discardedOrders + k.ordersWaiting) } := by
  rw [← waitingForward_orders]
  rfl

/-- A departure from UP at a port: what the port, the other port, the flow of pauses, the queues and the counts become. -/
theorem Link.portDown_spec (k : Link) (p : Port) :
    (k.portDown p).port p = { k.port p with state := .down, alignCount := 0, prevSeq := none } ∧
    (p = .near → (k.portDown p).nearPause = false ∧ (k.portDown p).far = k.far ∧ (k.portDown p).forward = k.forward ∧
      (k.portDown p).marks = k.marks ∧ (k.portDown p).farPause = k.farPause ∧ (k.portDown p).counts = k.counts) ∧
    (p = .far → (k.portDown p).farPause = false ∧ (k.portDown p).near = k.near ∧ (k.portDown p).forward = [] ∧
      (k.portDown p).marks = [] ∧ (k.portDown p).nearPause = k.nearPause ∧
      (k.portDown p).counts =
        { k.counts with discardedOrders := min 65535 (k.counts.discardedOrders + k.ordersWaiting) }) ∧
    (k.portDown p).own = k.own ∧ (k.portDown p).answers = k.answers ∧ (k.portDown p).intake = k.intake ∧
    (k.portDown p).pass = k.pass ∧ (k.portDown p).turn = k.turn := by
  cases p with
  | near => exact ⟨rfl, fun _ => ⟨rfl, rfl, rfl, rfl, rfl, rfl⟩, nofun, rfl, rfl, rfl, rfl, rfl⟩
  | far =>
    exact ⟨rfl, nofun, fun _ => ⟨rfl, rfl, rfl, rfl, rfl, Link.portDown_far_counts k⟩, rfl, rfl, rfl, rfl, rfl⟩

theorem portSignalLost_down {p : Port} {s : State} (h : (s.link.port p).state = .down) :
    portSignalLost p s =
      s.setLink (s.link.setPort p { s.link.port p with signal := false, alignCount := 0, prevSeq := none }) := by
  simp only [portSignalLost, h]
  cases p <;> rfl

theorem portSignalLost_up {p : Port} {s : State} (h : (s.link.port p).state = .up) :
    portSignalLost p s = s.setLink ((s.link.setPort p { s.link.port p with signal := false }).portDown p) := by
  simp only [portSignalLost, h]
  rfl

theorem failPortFrame_eq (p : Port) (s : State) :
    failPortFrame p s =
      let t := countBad p (s.setPort p { s.link.port p with failures := (s.link.port p).failures + 1 })
      if 3 ≤ (s.link.port p).failures + 1 then Machine.portDown p t else t := rfl

theorem alignPort_failed {p : Port} {frame : List Byte} (h : readLinkFrame p frame = none) (s : State) :
    alignPort p frame s =
      countBad p (s.setLink (s.link.setPort p { s.link.port p with alignCount := 0, prevSeq := none })) := by
  simp only [alignPort, h]
  rfl

theorem alignPort_passed {p : Port} {frame : List Byte} (h : readLinkFrame p frame ≠ none) (s : State) :
    alignPort p frame s =
      if (s.link.port p).signal then
        (if 8 ≤ portAlign (s.link.port p).alignCount (s.link.port p).prevSeq (frameSeq frame) then
          portUp p (frameSeq frame) s
        else s.setPort p
          { s.link.port p with
            alignCount := portAlign (s.link.port p).alignCount (s.link.port p).prevSeq (frameSeq frame)
            prevSeq := some (frameSeq frame) })
      else s := by
  obtain ⟨f, hf⟩ := Option.ne_none_iff_exists'.1 h
  simp only [alignPort, hf]

/-- The far port enters UP with room in the pass-through buffer, or with the far pause asserted. -/
theorem portUp_far_quiet (seq : Byte) {s : State} (h : ¬ (48 ≤ s.link.passFill ∧ s.link.farPause = false)) :
    portUp .far seq s = s.setLink (s.link.setPort .far
      { s.link.far with state := .up, alignCount := 8, prevSeq := some seq, failures := 0 }) :=
  if_neg fun hp => h hp.2

/-- The far port enters UP with 48 units or more in the pass-through buffer: it makes a PAUSE mark (R176). -/
theorem portUp_far_pauses (seq : Byte) {s : State} (h : 48 ≤ s.link.passFill ∧ s.link.farPause = false) :
    portUp .far seq s = s.setLink
      { s.link with
        far := { s.link.far with state := .up, alignCount := 8, prevSeq := some seq, failures := 0 }
        marks := s.link.marks ++ [.pause], farPause := true } :=
  if_pos ⟨rfl, h⟩

/-- A frame that passes the check at a port in DOWN with signal detect present. -/
theorem alignPort_counts {p : Port} {frame : List Byte} {s : State} (h : readLinkFrame p frame ≠ none)
    (hsignal : (s.link.port p).signal = true) :
    let x := s.link.port p
    let n := portAlign x.alignCount x.prevSeq (frameSeq frame)
    let pauses := p = .far ∧ 8 ≤ n ∧ 48 ≤ s.link.passFill ∧ s.link.farPause = false
    ∃ k, alignPort p frame s = s.setLink k ∧
      k.port p =
        (if 8 ≤ n then { x with state := .up, alignCount := 8, prevSeq := some (frameSeq frame), failures := 0 }
         else { x with alignCount := n, prevSeq := some (frameSeq frame) }) ∧
      (p = .near → k.far = s.link.far) ∧ (p = .far → k.near = s.link.near) ∧
      (pauses → k.marks = s.link.marks ++ [.pause] ∧ k.farPause = true) ∧
      (¬ pauses → k.marks = s.link.marks ∧ k.farPause = s.link.farPause) ∧
      k.counts = s.link.counts ∧ k.own = s.link.own ∧ k.answers = s.link.answers ∧ k.intake = s.link.intake ∧
      k.pass = s.link.pass ∧ k.forward = s.link.forward ∧ k.nearPause = s.link.nearPause ∧ k.turn = s.link.turn := by
  intro x n pauses
  have hstep : alignPort p frame s = if 8 ≤ n then portUp p (frameSeq frame) s
      else s.setPort p { x with alignCount := n, prevSeq := some (frameSeq frame) } :=
    (alignPort_passed h s).trans (if_pos hsignal)
  rw [hstep]
  by_cases hn : 8 ≤ n
  · rw [if_pos hn, if_pos hn]
    cases p with
    | near =>
      exact ⟨_, rfl, rfl, fun _ => rfl, nofun, (nomatch ·.1), fun _ => ⟨rfl, rfl⟩, rfl, rfl, rfl, rfl, rfl, rfl, rfl, rfl⟩
    | far =>
      by_cases hp : 48 ≤ s.link.passFill ∧ s.link.farPause = false
      · rw [portUp_far_pauses _ hp]
        exact ⟨_, rfl, rfl, nofun, fun _ => rfl, fun _ => ⟨rfl, rfl⟩, fun hno => absurd ⟨rfl, hn, hp⟩ hno, rfl, rfl, rfl,
          rfl, rfl, rfl, rfl, rfl⟩
      · rw [portUp_far_quiet _ hp]
        exact ⟨_, rfl, rfl, nofun, fun _ => rfl, fun hyes => absurd hyes.2.2 hp, fun _ => ⟨rfl, rfl⟩, rfl, rfl, rfl, rfl,
          rfl, rfl, rfl, rfl⟩
  · rw [if_neg hn, if_neg hn]
    cases p with
    | near =>
      exact ⟨_, rfl, rfl, fun _ => rfl, nofun, fun hp => absurd hp.2.1 hn, fun _ => ⟨rfl, rfl⟩, rfl, rfl, rfl, rfl, rfl,
        rfl, rfl, rfl⟩
    | far =>
      exact ⟨_, rfl, rfl, nofun, fun _ => rfl, fun hp => absurd hp.2.1 hn, fun _ => ⟨rfl, rfl⟩, rfl, rfl, rfl, rfl, rfl,
        rfl, rfl, rfl⟩

/-- Settles O43: the inputs of a port, its departure from UP, and its arrivals by state and by the frame check. -/
theorem portStateChanges : Obligations.PortStateChanges := by
  refine ⟨fun p s hr => ⟨congrArg Host.Outcome.next (if_pos hr), fun hdown => ?lostDown, fun hup => ?lostUp⟩,
    ordersWaiting_eq, fun p frame s hr => ?arrival⟩
  case lostDown => exact congrArg Host.Outcome.next ((if_pos hr).trans (portSignalLost_down hdown))
  case lostUp =>
    obtain ⟨hport, hnear, hfar, hrest⟩ :=
      Link.portDown_spec (s.link.setPort p { s.link.port p with signal := false }) p
    refine ⟨_, congrArg Host.Outcome.next ((if_pos hr).trans (portSignalLost_up hup)), ?_⟩
    cases p with
    | near => exact ⟨hport, hnear, nofun, hrest⟩
    | far => exact ⟨hport, nofun, hfar, hrest⟩
  case arrival =>
    intro x
    rw [exec_idleFrame_eq p frame hr]
    refine ⟨fun hup hf => ?idle, fun hup hf hfew => ?fail, fun hup hf hmany => ?third, fun hdown hf => ?restart,
      fun hdown hf hsignal => ?count, fun hdown hf hsignal => ?dark⟩
    case idle =>
      rw [portArrival_up hup, upPortFrame_taken hf]
      rfl
    case fail =>
      have hno : ¬ 3 ≤ (s.link.port p).failures + 1 := by
        have : (s.link.port p).failures < 2 := hfew
        omega
      rw [portArrival_up hup, upPortFrame_failed hf, failPortFrame_eq]
      exact congrArg Host.Outcome.next (if_neg hno)
    case third =>
      have hyes : 3 ≤ (s.link.port p).failures + 1 := Nat.succ_le_succ hmany
      obtain ⟨hport, hnear, hfar, hrest⟩ := Link.portDown_spec
        (countBad p (s.setPort p { x with failures := x.failures + 1 })).link p
      rw [portArrival_up hup, upPortFrame_failed hf, failPortFrame_eq]
      cases p with
      | near => exact ⟨_, congrArg Host.Outcome.next (if_pos hyes), hport, hnear, nofun, hrest⟩
      | far => exact ⟨_, congrArg Host.Outcome.next (if_pos hyes), hport, nofun, hfar, hrest⟩
    case restart => rw [portArrival_down hdown, alignPort_failed hf]
    case count =>
      rw [portArrival_down hdown]
      obtain ⟨k, hk, hspec⟩ := alignPort_counts hf hsignal
      exact ⟨k, congrArg Host.Outcome.next hk, hspec⟩
    case dark =>
      have hno : ¬ (s.link.port p).signal = true := Bool.eq_false_iff.1 hsignal
      rw [portArrival_down hdown, alignPort_passed hf, if_neg hno]

/-! ## Orders at the near port (R183 to R185) -/

theorem placeOrder_far (o : Order) (b : Bool) (s : State) : (placeOrder o b s).link.far = s.link.far := by
  unfold placeOrder
  split <;> rfl

theorem passOrder_up {s : State} (h : s.link.far.state = .up) (o : Order) :
    passOrder o s = forwardEntry (.order o) s := by
  rw [passOrder, State.farUp, h]
  rfl

theorem passOrder_down {s : State} (h : s.link.far.state = .down) (o : Order) : passOrder o s = placeOrder o false s := by
  rw [passOrder, State.farUp, h]
  rfl

/-- The part takes the order: an ASSIGN while it is unassigned and not in bypass, another by its address (R184, R185). -/
def takesOrder (o : Order) (s : State) : Prop :=
  if o.kind = assignKind then s.run.address = 0 ∧ s.run.bypass = false else o.address.toNat = s.run.address

theorem orderArrives_taken {o : Order} {s : State} (h : takesOrder o s) : orderArrives o s = placeOrder o true s := by
  unfold takesOrder at h
  unfold orderArrives
  split_ifs at h ⊢
  · rfl
  · rfl

theorem orderArrives_broadcast {o : Order} {s : State} (hkind : o.kind ≠ assignKind) (h : ¬ takesOrder o s)
    (haddress : o.address = 31#8) :
    orderArrives o s =
      if (placeOrder o true s).farUp then forwardEntry (.order o) (placeOrder o true s) else placeOrder o true s := by
  rw [takesOrder, if_neg hkind] at h
  rw [orderArrives, if_neg hkind, if_neg h, if_pos haddress]

theorem orderArrives_passed {o : Order} {s : State} (h : ¬ takesOrder o s)
    (hbroadcast : ¬ (o.kind ≠ assignKind ∧ ¬ takesOrder o s ∧ o.address = 31#8)) :
    orderArrives o s = passOrder o s := by
  by_cases hkind : o.kind = assignKind
  · rw [takesOrder, if_pos hkind] at h
    rw [orderArrives, if_pos hkind, if_neg h]
  · have haddress : o.address ≠ 31#8 := fun ha => hbroadcast ⟨hkind, h, ha⟩
    rw [takesOrder, if_neg hkind] at h
    rw [orderArrives, if_neg hkind, if_neg h, if_neg haddress]

/-- Settles O44: an order is taken, broadcast or passed on; the intake and the forward queue take it while they have room. -/
theorem orderFrameAddressed : Obligations.OrderFrameAddressed := by
  intro frame o s hr hup hf t takes broadcast
  have hexec : exec (.orderFrame frame) s = .next (orderArrives o t) := by
    refine congrArg Host.Outcome.next ((whileRunning_of_running hr _).trans ?_)
    rw [portArrival_up (p := .near) hup, upPortFrame_taken hf]
    rfl
  rw [hexec]
  refine ⟨fun h => ?take, fun h hfar => ?both, fun h hfar => ?alone, fun h hb hfar => ?forward, fun h hb hfar => ?unclaimed,
    fun b hlen => if_pos hlen, fun b hlen => if_neg (Nat.not_lt.2 hlen), fun u hlen => if_pos hlen,
    fun u hlen => (if_neg (Nat.not_lt.2 hlen)).trans (if_pos rfl)⟩
  case take => rw [orderArrives_taken (s := t) h]
  case both =>
    obtain ⟨hkind, hno, haddress⟩ := h
    have hfarUp : (placeOrder o true t).farUp = true := by rw [State.farUp, placeOrder_far, beq_iff_eq]; exact hfar
    rw [orderArrives_broadcast (s := t) hkind hno haddress, if_pos hfarUp]
  case alone =>
    obtain ⟨hkind, hno, haddress⟩ := h
    have hfarDown : ¬ (placeOrder o true t).farUp = true := by
      rw [State.farUp, placeOrder_far, beq_iff_eq]
      exact fun h => nomatch h.symm.trans hfar
    rw [orderArrives_broadcast (s := t) hkind hno haddress, if_neg hfarDown]
  case forward => rw [orderArrives_passed (s := t) h hb, passOrder_up (s := t) hfar]
  case unclaimed => rw [orderArrives_passed (s := t) h hb, passOrder_down (s := t) hfar]

/-! ## The transmitters (R175, R180, R182, R183) -/

/-- The source that the near-port transmitter chooses. -/
theorem nearChoice_source (s : State) :
    (nearChoice s).1 =
      if s.link.near.state = .up ∧ s.link.nearPause = false then
        if s.link.answers ≠ [] then .answer
        else if s.link.pass ≠ [] ∧ (s.link.own = [] ∨ s.link.turn = .pass) then .pass
        else if s.link.own ≠ [] then .own
        else .idle
      else .idle := by
  unfold nearChoice
  split
  · cases s.link.answers with
    | cons a l => simp
    | nil => cases s.link.pass <;> cases s.link.own <;> cases s.link.turn <;> simp
  · rfl

/-- The frame that the near-port transmitter builds around the entry at the head of the source's queue. -/
theorem nearChoice_frame (s : State) :
    (∀ a l, (nearChoice s).1 = .answer → s.link.answers = a :: l →
      (nearChoice s).2 = recordFrame a.body s.link.near.txSeq) ∧
    (∀ b l, (nearChoice s).1 = .pass → s.link.pass = b :: l → (nearChoice s).2 = recordFrame b s.link.near.txSeq) ∧
    (∀ r l, (nearChoice s).1 = .own → s.link.own = r :: l → (nearChoice s).2 = recordFrame r.body s.link.near.txSeq) ∧
    ((nearChoice s).1 = .idle → (nearChoice s).2 = idleFrame s.link.near.txSeq) := by
  unfold nearChoice
  split
  · cases s.link.answers with
    | cons a l => simp
    | nil => cases s.link.pass <;> cases s.link.own <;> cases s.link.turn <;> simp
  · simp

theorem farChoice_source (s : State) :
    (farChoice s).1 =
      if s.link.far.state = .up then
        if s.link.marks ≠ [] then .mark else if s.link.forward ≠ [] then .forward else .idle
      else .idle := by
  unfold farChoice
  split
  · cases s.link.marks with
    | cons m l => simp
    | nil => cases s.link.forward <;> simp
  · rfl

theorem farChoice_frame (s : State) :
    (∀ m l, (farChoice s).1 = .mark → s.link.marks = m :: l → (farChoice s).2 = markFrame m s.link.far.txSeq) ∧
    (∀ e l, (farChoice s).1 = .forward → s.link.forward = e :: l →
      (farChoice s).2 = forwardFrame e s.link.far.txSeq) ∧
    ((farChoice s).1 = .idle → (farChoice s).2 = idleFrame s.link.far.txSeq) := by
  unfold farChoice
  split
  · cases s.link.marks with
    | cons m l => simp
    | nil => cases s.link.forward <;> simp
  · simp

theorem beginNear_free {s : State} (h : s.link.nearSending = none) :
    beginNear s = s.setLink
      { s.link with
        nearSending := some { source := (nearChoice s).1, queued := true, frame := (nearChoice s).2 }
        near := { s.link.near with txSeq := s.link.near.txSeq + 1 } } := by
  simp only [beginNear, h]

theorem beginFar_free {s : State} (h : s.link.farSending = none) :
    beginFar s = s.setLink
      { s.link with
        farSending := some { source := (farChoice s).1, queued := true, frame := (farChoice s).2 }
        far := { s.link.far with txSeq := s.link.far.txSeq + 1 } } := by
  simp only [beginFar, h]

theorem resumeIfDrained_drained {s : State} (h : s.link.passFill ≤ 16 ∧ s.link.farPause = true) :
    resumeIfDrained s = s.setLink
      { s.link with
        farPause := false, marks := s.link.marks ++ if s.link.far.state = .up then [.resume] else [] } := by
  rw [resumeIfDrained, if_pos h, makeMark]
  by_cases hup : s.link.far.state = .up
  · rw [if_pos hup, if_pos hup]
    rfl
  · rw [if_neg hup, if_neg hup, List.append_nil]

theorem resumeIfDrained_other {s : State} (h : ¬ (s.link.passFill ≤ 16 ∧ s.link.farPause = true)) :
    resumeIfDrained s = s := if_neg h

/-- The link when the frame in transmission on the near port has left, before the next is chosen. -/
def Link.nearLeft (k : Link) (x : Sending NearSource) : Link :=
  let m := k.nearSent x
  if x.source = .pass ∧ m.passFill ≤ 16 ∧ m.farPause = true then
    { m with farPause := false, marks := m.marks ++ if m.far.state = .up then [.resume] else [] }
  else m

theorem endNear_eq {s : State} {x : Sending NearSource} (hx : s.link.nearSending = some x) :
    endNear s = beginNear (s.setLink (s.link.nearLeft x)) := by
  have hleft : (if x.source = .pass then resumeIfDrained (s.setLink (s.link.nearSent x))
      else s.setLink (s.link.nearSent x)) = s.setLink (s.link.nearLeft x) := by
    unfold Link.nearLeft
    dsimp only
    by_cases hp : x.source = .pass
    · rw [if_pos hp]
      by_cases hd : (s.link.nearSent x).passFill ≤ 16 ∧ (s.link.nearSent x).farPause = true
      · have hdrains : x.source = .pass ∧ (s.link.nearSent x).passFill ≤ 16 ∧ (s.link.nearSent x).farPause = true :=
          ⟨hp, hd⟩
        rw [resumeIfDrained_drained (s := s.setLink (s.link.nearSent x)) hd, if_pos hdrains]
        rfl
      · rw [resumeIfDrained_other (s := s.setLink (s.link.nearSent x)) hd, if_neg fun h => hd h.2]
    · rw [if_neg hp, if_neg fun h => hp h.1]
  simp only [endNear, hx]
  rw [hleft]

/-- What has left with the frame, the turn, and what the flow of pauses made of it. -/
theorem Link.nearSent_spec (k : Link) (x : Sending NearSource) :
    (k.nearSent x).nearSending = none ∧
    (k.nearSent x).answers = (if x.source = .answer ∧ x.queued = true then k.answers.tail else k.answers) ∧
    (k.nearSent x).pass = (if x.source = .pass ∧ x.queued = true then k.pass.tail else k.pass) ∧
    (k.nearSent x).own = (if x.source = .own ∧ x.queued = true then k.own.tail else k.own) ∧
    (k.nearSent x).turn = (if x.source = .pass then .own else if x.source = .own then .pass else k.turn) ∧
    (k.nearSent x).near = k.near ∧ (k.nearSent x).far = k.far ∧ (k.nearSent x).farPause = k.farPause ∧
    (k.nearSent x).marks = k.marks ∧ (k.nearSent x).forward = k.forward ∧ (k.nearSent x).intake = k.intake ∧
    (k.nearSent x).counts = k.counts ∧ (k.nearSent x).nearPause = k.nearPause := by
  obtain ⟨src, q, f⟩ := x
  cases src <;> cases q <;>
    exact ⟨rfl, rfl, rfl, rfl, rfl, rfl, rfl, rfl, rfl, rfl, rfl, rfl, rfl⟩

/-- The pauses aside, the link is as the frame's departure left it. -/
theorem Link.nearLeft_spec (k : Link) (x : Sending NearSource) :
    let m := k.nearLeft x
    let sent := k.nearSent x
    m.nearSending = sent.nearSending ∧ m.answers = sent.answers ∧ m.pass = sent.pass ∧ m.own = sent.own ∧
    m.turn = sent.turn ∧ m.near = sent.near ∧ m.far = sent.far ∧ m.forward = sent.forward ∧ m.intake = sent.intake ∧
    m.counts = sent.counts ∧ m.nearPause = sent.nearPause ∧
    (let drained := x.source = .pass ∧ m.passFill ≤ 16 ∧ sent.farPause = true
     (drained → m.farPause = false ∧ m.marks = sent.marks ++ if sent.far.state = .up then [.resume] else []) ∧
     (¬ drained → m.farPause = sent.farPause ∧ m.marks = sent.marks)) := by
  unfold Link.nearLeft
  dsimp only
  split
  · next h => exact ⟨rfl, rfl, rfl, rfl, rfl, rfl, rfl, rfl, rfl, rfl, rfl, fun _ => ⟨rfl, rfl⟩, fun hno => absurd h hno⟩
  · next h => exact ⟨rfl, rfl, rfl, rfl, rfl, rfl, rfl, rfl, rfl, rfl, rfl, fun hyes => absurd hyes h, fun _ => ⟨rfl, rfl⟩⟩

theorem Link.farSent_spec (k : Link) (x : Sending FarSource) :
    (k.farSent x).farSending = none ∧
    (k.farSent x).marks = (if x.source = .mark ∧ x.queued = true then k.marks.tail else k.marks) ∧
    (k.farSent x).forward = (if x.source = .forward ∧ x.queued = true then k.forward.tail else k.forward) ∧
    (k.farSent x).far = k.far ∧ (k.farSent x).near = k.near ∧ (k.farSent x).own = k.own ∧
    (k.farSent x).answers = k.answers ∧ (k.farSent x).pass = k.pass ∧ (k.farSent x).intake = k.intake ∧
    (k.farSent x).counts = k.counts ∧ (k.farSent x).nearPause = k.nearPause ∧
    (k.farSent x).farPause = k.farPause ∧ (k.farSent x).turn = k.turn := by
  obtain ⟨src, q, f⟩ := x
  cases src <;> cases q <;>
    exact ⟨rfl, rfl, rfl, rfl, rfl, rfl, rfl, rfl, rfl, rfl, rfl, rfl, rfl⟩

/-- Settles O47: the frame's departure from its queue, then the choice among the queues as they stand. -/
theorem transmissionEndChooses : Obligations.TransmissionEndChooses := by
  intro s hr
  refine ⟨fun x hx => ?near, fun x hx => ?far⟩
  case near =>
    obtain ⟨hnone, hanswers, hpass, hown, hturn, hnear, hfar, hforward, hintake, hcounts, hpause, hdrained⟩ :=
      s.link.nearLeft_spec x
    obtain ⟨gnone, ganswers, gpass, gown, gturn, gnear, gfar, gfarPause, gmarks, gforward, gintake, gcounts, gpause⟩ :=
      s.link.nearSent_spec x
    have hq : (s.link.nearLeft x).near.txSeq = s.link.near.txSeq := by rw [hnear, gnear]
    have hsource := nearChoice_source (s.setLink (s.link.nearLeft x))
    have hframe := nearChoice_frame (s.setLink (s.link.nearLeft x))
    simp only [State.setLink_link, hnear, gnear, hpause, gpause] at hsource hframe
    rw [gfarPause, gmarks, gfar] at hdrained
    refine ⟨_, _, congrArg Host.Outcome.next ((whileRunning_of_running hr _).trans ((endNear_eq hx).trans
      (beginNear_free (s := s.setLink (s.link.nearLeft x)) (hnone.trans gnone)))), rfl, rfl, hanswers.trans ganswers,
      hpass.trans gpass, hown.trans gown, hturn.trans gturn, hsource, hframe, ?_, hfar.trans gfar, hdrained,
      hforward.trans gforward, hintake.trans gintake, hcounts.trans gcounts, hpause.trans gpause⟩
    simp only [State.setLink_link, hnear, gnear]
  case far =>
    obtain ⟨gnone, gmarks, gforward, gfar, gnear, gown, ganswers, gpass, gintake, gcounts, gpause, gfarPause, gturn⟩ :=
      s.link.farSent_spec x
    have hq : (s.link.farSent x).far.txSeq = s.link.far.txSeq := by rw [gfar]
    have hsource := farChoice_source (s.setLink (s.link.farSent x))
    obtain ⟨hmark, hforward, hidle⟩ := farChoice_frame (s.setLink (s.link.farSent x))
    simp only [State.setLink_link, gfar] at hsource hmark hforward hidle
    have hend : endFar s = beginFar (s.setLink (s.link.farSent x)) := by simp only [endFar, hx]
    refine ⟨_, _, congrArg Host.Outcome.next ((whileRunning_of_running hr _).trans (hend.trans
      (beginFar_free (s := s.setLink (s.link.farSent x)) gnone))), rfl, rfl, gmarks, gforward, hsource,
      ⟨fun m l hm hl => ?_, fun o l => hforward (.order o) l, fun l => hforward .burst l, hidle⟩, ?_, gnear, gown, ganswers, gpass,
      gintake, gcounts, gpause, gfarPause, gturn⟩
    · rw [hmark m l hm hl]
      cases m <;> rfl
    · simp only [State.setLink_link, gfar]

end Sys2Proof.Machine
end

section
/-! The wire formats (12.2): frames are read back as they were sent, and the records lie byte by byte at the offsets of their
layouts (O54, O55). -/

namespace Sys2Proof.Machine

/-! ## Frames read back -/

theorem readSampleFrame_bytes {f : SampleFrame} (h : f.samples.length = 128) : readSampleFrame f.bytes = some f := by
  have hbody : (f.samples.flatMap (fun x => be 2 x.toNat)).length = 256 := by simp [List.length_flatMap, h]
  have hkind : sampleKind = sampleKind ∧ f.bytes.length = 264 := ⟨rfl, by simp [SampleFrame.bytes, hbody]⟩
  unfold readSampleFrame
  rw [SampleFrame.bytes, checked_withCheck]
  refine (if_pos hkind).trans (congrArg some ?_)
  show SampleFrame.mk f.seq f.marks f.fire (samplesOf (f.samples.flatMap (fun x => be 2 x.toNat))) = f
  rw [samplesOf_bytes]

theorem readGaugeFrame_bytes {f : GaugeFrame} (h : f.pressure < 65536) : readGaugeFrame f.bytes = some f := by
  have hkind : gaugeKind = gaugeKind ∧ f.bytes.length = 8 := ⟨rfl, by simp [GaugeFrame.bytes]⟩
  have hfield : fieldAt ([gaugeKind, f.seq] ++ be 2 f.pressure) 2 2 = f.pressure := by
    rw [fieldAt_append_right _ _ (Nat.le_refl 2), ← List.append_nil (be 2 f.pressure)]
    exact (fieldAt_be 2 f.pressure []).trans (Nat.mod_eq_of_lt h)
  unfold readGaugeFrame
  rw [GaugeFrame.bytes, checked_withCheck]
  refine (if_pos hkind).trans (congrArg some ?_)
  show GaugeFrame.mk f.seq (fieldAt ([gaugeKind, f.seq] ++ be 2 f.pressure) 2 2) = f
  rw [hfield]

theorem unitsByte {n k : Nat} (h : n ≤ k) (hk : k < 256) : (BitVec.ofNat 8 (16 * n / 16)).toNat = n := by
  rw [BitVec.toNat_ofNat]
  omega

/-- The bytes of an order frame before its check code. -/
def orderBytes (o : Order) (seq : Byte) : List Byte :=
  [orderKind, seq, o.address, o.kind] ++ be 2 o.tag.toNat ++ [BitVec.ofNat 8 (o.args.length / 16), 0] ++ o.args

theorem readOrder_bytes {o : Order} {n : Nat} (hn : n ≤ 7) (h : o.args.length = 16 * n) (seq : Byte) :
    readOrder (orderFrame o seq) (orderBytes o seq) = some (.order o) := by
  have hunits : (byteAt (orderBytes o seq) 6).toNat = n := by
    show (BitVec.ofNat 8 (o.args.length / 16)).toNat = n
    rw [h]
    exact unitsByte hn (by decide)
  have hlength : (orderFrame o seq).length = 12 + 16 * n := by
    simp [orderFrame, h]
    omega
  have htag : BitVec.ofNat 16 (fieldAt (orderBytes o seq) 4 2) = o.tag := by
    have hfield : fieldAt (orderBytes o seq) 4 2 = o.tag.toNat % 256 ^ 2 := fieldAt_be 2 o.tag.toNat []
    rw [hfield]
    apply BitVec.eq_of_toNat_eq
    rw [BitVec.toNat_ofNat]
    have := o.tag.isLt
    omega
  unfold readOrder
  dsimp only
  rw [hunits, if_pos ⟨hn, hlength⟩, htag]
  rfl

theorem readNearFrame_order {o : Order} {n : Nat} (hn : n ≤ 7) (h : o.args.length = 16 * n) (seq : Byte) :
    readNearFrame (orderFrame o seq) = some (.order o) := by
  unfold readNearFrame
  rw [orderFrame, checked_withCheck]
  exact (if_pos rfl).trans (readOrder_bytes hn h seq)

/-- A frame of four bytes and their check code. -/
theorem shortFrame_length (k seq : Byte) : (withCheck [k, seq, 0, 0]).length = 8 := by simp

theorem readNearFrame_mark (m : Mark) (seq : Byte) : readNearFrame (markFrame m seq) = some (.mark m) := by
  unfold readNearFrame
  rw [markFrame, checked_withCheck]
  cases m <;> simp [byteAt, Mark.kind, orderKind, idleKind, pauseKind, resumeKind, burstKind]

theorem readLinkFrame_idle (p : Port) (seq : Byte) : readLinkFrame p (idleFrame seq) = some .idle := by
  cases p with
  | near =>
    unfold readLinkFrame readNearFrame
    rw [idleFrame, checked_withCheck]
    simp [byteAt, orderKind, idleKind]
  | far =>
    unfold readLinkFrame readFarFrame
    rw [idleFrame, checked_withCheck]
    simp [byteAt, recordKind, idleKind]

theorem readFarFrame_record {body : List Byte} {n : Nat} (h1 : 1 ≤ n) (hn : n ≤ 32) (h : body.length = 16 * n)
    (seq : Byte) : readFarFrame (recordFrame body seq) = some (.record body) := by
  have hunits : (BitVec.ofNat 8 (body.length / 16)).toNat = n := by rw [h]; exact unitsByte hn (by decide)
  have hlength : (recordFrame body seq).length = 8 + 16 * n := by
    simp [recordFrame, h]
    omega
  have hread : readRecord (recordFrame body seq)
      ([recordKind, seq, BitVec.ofNat 8 (body.length / 16), 0] ++ body) = some (.record body) := by
    unfold readRecord
    dsimp only
    show (if 1 ≤ (BitVec.ofNat 8 (body.length / 16)).toNat ∧ (BitVec.ofNat 8 (body.length / 16)).toNat ≤ 32 ∧
      (recordFrame body seq).length = 8 + 16 * (BitVec.ofNat 8 (body.length / 16)).toNat then
      some (LinkFrame.record body) else none) = _
    rw [hunits, if_pos ⟨h1, hn, hlength⟩]
  unfold readFarFrame
  rw [recordFrame, checked_withCheck]
  exact (if_pos rfl).trans hread

/-- Settles O55: the check code passes, and each field is read where it was written. -/
theorem framesReadBack : Obligations.FramesReadBack :=
  ⟨fun _ => readSampleFrame_bytes, fun _ => readGaugeFrame_bytes,
    fun q _ _ hn h => ⟨readNearFrame_order hn h q, rfl⟩, fun q m => readNearFrame_mark m q,
    fun q p => readLinkFrame_idle p q, fun q _ _ h1 hn h => readFarFrame_record h1 hn h q⟩

/-! ## Fields and bytes of a layout -/

theorem fieldAt_be_skip {n i : Nat} (v : Nat) (b : List Byte) (m : Nat) (h : n ≤ i) :
    fieldAt (be n v ++ b) i m = fieldAt b (i - n) m := by
  rw [fieldAt_append_right _ _ (by rwa [be_length]), be_length]

theorem byteAt_be_skip {n i : Nat} (v : Nat) (b : List Byte) (h : n ≤ i) :
    byteAt (be n v ++ b) i = byteAt b (i - n) := by
  rw [byteAt_append_right _ (by rwa [be_length]), be_length]

theorem fieldAt_be_end (n v : Nat) : fieldAt (be n v) 0 n = v % 256 ^ n := by
  rw [← List.append_nil (be n v), fieldAt_be]

theorem fieldAt_byte_skip {i : Nat} (x : Byte) (b : List Byte) (m : Nat) (h : 1 ≤ i) :
    fieldAt ([x] ++ b) i m = fieldAt b (i - 1) m := fieldAt_append_right b m h

theorem byteAt_byte_skip {i : Nat} (x : Byte) (b : List Byte) (h : 1 ≤ i) : byteAt ([x] ++ b) i = byteAt b (i - 1) :=
  byteAt_append_right b h

theorem byteAt_byte_here (x : Byte) (b : List Byte) : byteAt ([x] ++ b) 0 = x := rfl

theorem be_zero (n : Nat) : be n 0 = List.replicate n 0 := by
  induction n with
  | zero => rfl
  | succ n ih => rw [be, ih, Nat.zero_div]; rfl

theorem byteAt_zeros_left {n i : Nat} (b : List Byte) (h : i < n) : byteAt (List.replicate n 0 ++ b) i = 0 := by
  rw [byteAt_append_left _ (by rwa [List.length_replicate]), byteAt_zeros]

theorem byteAt_be_zero {n i : Nat} (b : List Byte) (h : i < n) : byteAt (be n 0 ++ b) i = 0 := by
  rw [be_zero, byteAt_zeros_left b h]

theorem fin_mod {n m : Nat} (i : Fin n) (h : n ≤ m) : i.val % m = i.val := Nat.mod_eq_of_lt (lt_of_lt_of_le i.isLt h)

theorem tick_mod (t : Tick) : t.toNat % 281474976710656 = t.toNat := Nat.mod_eq_of_lt t.isLt

theorem fieldAt_skip_of_length {a : List Byte} {k i : Nat} (b : List Byte) (m : Nat) (ha : a.length = k) (h : k ≤ i) :
    fieldAt (a ++ b) i m = fieldAt b (i - k) m := by
  rw [fieldAt_append_right _ _ (ha ▸ h), ha]

theorem byteAt_skip_of_length {a : List Byte} {k i : Nat} (b : List Byte) (ha : a.length = k) (h : k ≤ i) :
    byteAt (a ++ b) i = byteAt b (i - k) := by
  rw [byteAt_append_right _ (ha ▸ h), ha]

/-- The bytes `i` to `n - 1` are zero. -/
def ZeroBytes (b : List Byte) (i n : Nat) : Prop := ∀ j : Nat, i ≤ j → j < n → byteAt b j = 0

/-- The bytes before which a body ends are zero. -/
theorem zeroBytes_padTo {l : List Byte} {k : Nat} (u n : Nat) (h : l.length ≤ k) : ZeroBytes (padTo u l) k n :=
  fun j hj _ => by rw [padTo, byteAt_append_right _ (by omega), byteAt_zeros]

theorem padTo_length {l : List Byte} {u : Nat} (h : l.length ≤ 16 * u) : (padTo u l).length = 16 * u := by
  rw [padTo, List.length_append, List.length_replicate]
  omega

/-- Zero bytes that stand after the first `i` bytes of a layout. -/
theorem zeroBytes_middle {a : List Byte} {i k n : Nat} (b : List Byte) (ha : a.length = i) (hn : n = i + k) :
    ZeroBytes (a ++ (List.replicate k 0 ++ b)) i n := fun j hi hj => by
  rw [byteAt_skip_of_length _ ha hi, byteAt_zeros_left _ (by omega)]

/-- The entries of a list that all have `m` bytes: entry `i` begins at byte `m * i`. -/
theorem fieldAt_entries {α : Type} {f : α → List Byte} {m : Nat} (hf : ∀ a, (f a).length = m) {l : List α} {i : Nat}
    {a : α} (h : l[i]? = some a) (rest : List Byte) {k n : Nat} (hk : k + n ≤ m) :
    fieldAt (l.flatMap f ++ rest) (m * i + k) n = fieldAt (f a) k n := by
  induction l generalizing i with
  | nil => exact nomatch h
  | cons x l ih =>
    rw [List.flatMap_cons, List.append_assoc]
    cases i with
    | zero =>
      obtain rfl := Option.some.inj h
      rw [Nat.mul_zero, Nat.zero_add, fieldAt_append_left _ (by rw [hf]; exact hk)]
    | succ i =>
      rw [fieldAt_skip_of_length _ _ (hf x) (by rw [Nat.mul_succ]; omega), ← ih h]
      congr 1
      rw [Nat.mul_succ]
      omega

theorem flatMap_length {α : Type} {f : α → List Byte} {m : Nat} (hf : ∀ a, (f a).length = m) (l : List α) :
    (l.flatMap f).length = m * l.length := by
  simp [List.length_flatMap, hf, Nat.mul_comm]

/-- What every record begins with (R192). -/
def StartsWith (b : List Byte) (kind part units fourth : Nat) : Prop :=
  b.length = 16 * units ∧ fieldAt b 0 1 = kind ∧ fieldAt b 1 1 = part % 256 ∧ fieldAt b 2 1 = units % 256 ∧
    fieldAt b 3 1 = fourth

/-! ## Codes and flags -/

theorem bit_toNat (b : Bool) : bit b = b.toNat := by cases b <;> rfl

theorem flagByte_lt (l : List Bool) : flagByte l < 2 ^ l.length := by
  induction l with
  | nil => exact Nat.one_pos
  | cons b l ih =>
    have := Bool.toNat_le b
    rw [flagByte, bit_toNat, List.length_cons, Nat.pow_succ]
    omega

theorem HitRecord.flags_eq (h : HitRecord) :
    h.flags = h.sat.toNat + 2 * h.test.toNat + 4 * h.nocap.toNat + 8 * h.shared.toNat + 16 * h.pressure.isSome.toNat +
      32 * h.segment.isSome.toNat + 64 * h.group.isSome.toNat := by
  simp only [HitRecord.flags, flagByte, bit_toNat]
  omega

theorem EventRecord.flags_eq (e : EventRecord) :
    e.flags = e.crowded.toNat + 2 * e.late.toNat + 4 * e.halted.toNat + 8 * e.behind.toNat + 16 * e.afterburst.toNat +
      32 * e.splitvote.toNat + 64 * e.cell.isSome.toNat + 128 * e.pressure.isSome.toNat := by
  simp only [EventRecord.flags, flagByte, bit_toNat]
  omega

theorem TraceRecord.flags_eq (t : TraceRecord) :
    t.flags = t.gap.toNat + 2 * t.damaged.toNat + 4 * (decide (t.cut ≠ 0)).toNat + 8 * t.lost.toNat +
      16 * t.isEnd.toNat + 32 * t.dump.toNat + 64 * t.samples.isSome.toNat := by
  simp only [TraceRecord.flags, flagByte, bit_toNat]
  omega

theorem CloseCause.code_mod (c : CloseCause) : c.code % 256 = c.code := by cases c <;> rfl

theorem Phase.code_mod (p : Phase) : p.code % 256 = p.code := by cases p <;> rfl

theorem Method.code_mod (m : Method) : m.code % 256 = m.code := by cases m <;> rfl

theorem LaneState.code_mod (x : LaneState) : x.code % 256 = x.code := by cases x <;> rfl

theorem LaneCause.code_mod (x : LaneCause) : x.code % 256 = x.code := by cases x <;> rfl

theorem Alarm.code_mod (x : Alarm) : x.code % 256 = x.code := by cases x <;> rfl

theorem CellCause.code_mod (x : CellCause) : x.code % 256 = x.code := by cases x <;> rfl

theorem BurstCause.code_mod (x : BurstCause) : x.code % 256 = x.code := by cases x <;> rfl

theorem AccessKind.code_mod (x : AccessKind) : x.code % 256 = x.code := by cases x <;> rfl

theorem AccessOutcome.code_mod (x : AccessOutcome) : x.code % 256 = x.code := by cases x <;> rfl

theorem EndCause.code_mod (x : EndCause) : x.code % 256 = x.code := by cases x <;> rfl

theorem Reason.code_mod (x : Reason) : x.code % 256 = x.code := by cases x <;> rfl

theorem bool_mod (b : Bool) : b.toNat % 256 = b.toNat := by cases b <;> rfl

theorem option_fin_mod {n m : Nat} (h : n ≤ m) (i : Option (Fin n)) (hm : 0 < m) :
    (i.map Fin.val).getD 0 % m = (i.map Fin.val).getD 0 := by
  cases i with
  | none => exact Nat.mod_eq_of_lt hm
  | some i => exact fin_mod i h

theorem option_word_mod {n m : Nat} (h : 2 ^ n = m) (i : Option (BitVec n)) :
    (i.map BitVec.toNat).getD 0 % m = (i.map BitVec.toNat).getD 0 := by
  subst h
  cases i with
  | none => exact Nat.zero_mod _
  | some i => exact Nat.mod_eq_of_lt i.isLt

/-! ## The records -/

theorem hit_laidOut (h : HitRecord) :
    let b := padTo 4 h.bytes
    StartsWith b 1 h.part 4 (h.sat.toNat + 2 * h.test.toNat + 4 * h.nocap.toNat + 8 * h.shared.toNat +
      16 * h.pressure.isSome.toNat + 32 * h.segment.isSome.toNat + 64 * h.group.isSome.toNat) ∧
    fieldAt b 4 1 = h.channel.val ∧ fieldAt b 5 1 = h.sensor.val ∧ fieldAt b 6 6 = h.arrival.toNat ∧
    fieldAt b 12 2 = h.rise % 2 ^ 16 ∧ fieldAt b 14 3 = h.duration % 2 ^ 24 ∧ fieldAt b 17 1 = h.cause.code ∧
    fieldAt b 18 1 = h.bank.val ∧ fieldAt b 19 1 = h.phase.code ∧ fieldAt b 20 2 = h.crossings % 2 ^ 16 ∧
    fieldAt b 22 2 = h.peak % 2 ^ 16 ∧ fieldAt b 24 4 = h.energy % 2 ^ 32 ∧
    fieldAt b 28 2 = h.pressure.getD 0 % 2 ^ 16 ∧ fieldAt b 30 1 = (h.segment.map Fin.val).getD 0 ∧
    ZeroBytes b 31 32 ∧ fieldAt b 32 4 = (h.group.map BitVec.toNat).getD 0 ∧ ZeroBytes b 36 64 := by
  intro b
  have hlength : h.bytes.length = 36 := by simp [HitRecord.bytes, tickBytes, optBytes]
  have hlt : h.flags < 2 ^ 7 := flagByte_lt _
  have hflags : h.flags % 256 = h.flags := Nat.mod_eq_of_lt (hlt.trans (by decide))
  have hb : b.length = 16 * 4 := padTo_length (by omega)
  have hend : ZeroBytes b 36 64 := zeroBytes_padTo _ _ (by omega)
  have hzero : ZeroBytes b 31 32 := fun j h1 h2 => by
    obtain rfl : j = 31 := by omega
    simp only [b, padTo, HitRecord.bytes, tickBytes, optBytes, List.append_assoc, byteAt_be_skip, Nat.reduceLeDiff,
      Nat.reduceSub]
    exact byteAt_be_zero _ Nat.one_pos
  rw [← h.flags_eq, StartsWith]
  refine ⟨⟨hb, ?start⟩, ?rest⟩
  case' rest => simp only [hend, hzero]
  all_goals
    simp only [b, padTo, HitRecord.bytes, tickBytes, optBytes, List.append_assoc, fieldAt_be,
      fieldAt_be_skip, Nat.reduceLeDiff, Nat.reduceSub, Nat.le_refl, Nat.sub_self, Nat.reducePow, Nat.reduceMod, fin_mod,
      tick_mod, hflags, CloseCause.code_mod, Phase.code_mod, option_fin_mod, option_word_mod, Nat.reduceLT, and_self]

/-- The EVENT record body before its member entries. -/
def EventRecord.head (e : EventRecord) : List Byte :=
  be 1 2 ++ be 1 e.part ++ be 1 (Record.units (.event e)) ++ be 1 e.flags ++ be 4 e.group.toNat ++ tickBytes e.anchor
    ++ be 1 e.members.length ++ be 1 e.method.code ++ optBytes 2 (e.cell.map Fin.val) ++ optBytes 2 e.pressure
    ++ be 1 e.phase.code ++ be 3 0 ++ be 4 e.energy ++ List.replicate 20 0

theorem EventRecord.head_length (e : EventRecord) : e.head.length = 48 := by
  simp [EventRecord.head, tickBytes, optBytes]

theorem MemberEntry.bytes_length (m : MemberEntry) : m.bytes.length = 8 := by simp [MemberEntry.bytes]

/-- A member entry of an EVENT record, field by field. -/
theorem member_laidOut (m : MemberEntry) :
    fieldAt m.bytes 0 1 = m.sensor.val ∧ fieldAt m.bytes 1 1 = m.sat.toNat ∧ fieldAt m.bytes 2 2 = m.delay % 2 ^ 16 ∧
    fieldAt m.bytes 4 2 = m.peak % 2 ^ 16 ∧ fieldAt m.bytes 6 2 = 0 := by
  simp only [MemberEntry.bytes, List.append_assoc, fieldAt_be, fieldAt_be_skip, fieldAt_be_end, Nat.reduceLeDiff,
    Nat.reduceSub, Nat.le_refl, Nat.sub_self, Nat.reducePow, Nat.zero_mod, fin_mod, bit_toNat, bool_mod, and_self]

theorem event_laidOut (e : EventRecord) :
    let n := e.members.length
    let b := padTo (3 + (n + 1) / 2) e.bytes
    StartsWith b 2 e.part (3 + (n + 1) / 2) (e.crowded.toNat + 2 * e.late.toNat + 4 * e.halted.toNat +
      8 * e.behind.toNat + 16 * e.afterburst.toNat + 32 * e.splitvote.toNat + 64 * e.cell.isSome.toNat +
      128 * e.pressure.isSome.toNat) ∧
    fieldAt b 4 4 = e.group.toNat ∧ fieldAt b 8 6 = e.anchor.toNat ∧ fieldAt b 14 1 = n % 256 ∧
    fieldAt b 15 1 = e.method.code ∧ fieldAt b 16 2 = (e.cell.map Fin.val).getD 0 ∧
    fieldAt b 18 2 = e.pressure.getD 0 % 2 ^ 16 ∧ fieldAt b 20 1 = e.phase.code ∧ ZeroBytes b 21 24 ∧
    fieldAt b 24 4 = e.energy % 2 ^ 32 ∧ ZeroBytes b 28 48 ∧
    (∀ (i : Nat) (m : MemberEntry), e.members[i]? = some m →
      fieldAt b (48 + 8 * i) 1 = m.sensor.val ∧ fieldAt b (49 + 8 * i) 1 = m.sat.toNat ∧
      fieldAt b (50 + 8 * i) 2 = m.delay % 2 ^ 16 ∧ fieldAt b (52 + 8 * i) 2 = m.peak % 2 ^ 16 ∧
      fieldAt b (54 + 8 * i) 2 = 0) ∧
    ZeroBytes b (48 + 8 * n) b.length := by
  intro n b
  obtain ⟨rest, hrest⟩ : ∃ rest, b = e.head ++ (e.members.flatMap MemberEntry.bytes ++ rest) :=
    ⟨_, List.append_assoc _ _ _⟩
  have hlength : e.bytes.length = 48 + 8 * n := by
    show (e.head ++ e.members.flatMap MemberEntry.bytes).length = _
    rw [List.length_append, e.head_length, flatMap_length MemberEntry.bytes_length]
  have hlt : e.flags < 2 ^ 8 := flagByte_lt _
  have hflags : e.flags % 256 = e.flags := Nat.mod_eq_of_lt hlt
  have hb : b.length = 16 * (3 + (n + 1) / 2) := padTo_length (by omega)
  have hend : ZeroBytes b (48 + 8 * n) b.length := zeroBytes_padTo _ _ (by omega)
  have hgap : ZeroBytes b 21 24 := fun j h1 h2 => by
    rw [hrest]
    simp (disch := omega) only [EventRecord.head, tickBytes, optBytes, List.append_assoc, byteAt_be_skip]
    exact byteAt_be_zero _ (by omega)
  have htail : ZeroBytes b 28 48 := fun j h1 h2 => by
    rw [hrest]
    simp (disch := omega) only [EventRecord.head, tickBytes, optBytes, List.append_assoc, byteAt_be_skip]
    exact byteAt_zeros_left _ (by omega)
  have hmembers : ∀ (i : Nat) (m : MemberEntry), e.members[i]? = some m → ∀ j k w, j = 48 + (8 * i + k) → k + w ≤ 8 →
      fieldAt b j w = fieldAt m.bytes k w := fun i m hm j k w hj hk => by
    rw [hrest, hj, fieldAt_skip_of_length _ _ e.head_length (Nat.le_add_right _ _), Nat.add_sub_cancel_left,
      fieldAt_entries MemberEntry.bytes_length hm _ hk]
  rw [← e.flags_eq, StartsWith]
  refine ⟨⟨hb, ?start⟩, ?group, ?anchor, ?count, ?method, ?cell, ?pressure, ?phase, hgap, ?energy, htail,
    fun i m hm => ?members, hend⟩
  case members =>
    obtain ⟨h0, h1, h2, h4, h6⟩ := member_laidOut m
    exact ⟨(hmembers i m hm _ 0 1 (by omega) (by omega)).trans h0, (hmembers i m hm _ 1 1 (by omega) (by omega)).trans h1,
      (hmembers i m hm _ 2 2 (by omega) (by omega)).trans h2, (hmembers i m hm _ 4 2 (by omega) (by omega)).trans h4,
      (hmembers i m hm _ 6 2 (by omega) (by omega)).trans h6⟩
  all_goals
    rw [hrest]
    simp only [EventRecord.head, Record.units, n, tickBytes, optBytes, List.append_assoc, fieldAt_be, fieldAt_be_skip,
      Nat.reduceLeDiff, Nat.reduceSub, Nat.le_refl, Nat.sub_self, Nat.reducePow, Nat.reduceMod, tick_mod, hflags,
      Method.code_mod, Phase.code_mod, option_fin_mod, Nat.reduceLT, and_self]
  case group => exact Nat.mod_eq_of_lt e.group.isLt

theorem sampleBytes_length (x : Sample) : (be 2 x.toNat).length = 2 := be_length _ _

/-- The TRACE record body before its samples. -/
def TraceRecord.head (t : TraceRecord) : List Byte :=
  be 1 3 ++ be 1 t.part ++ be 1 3 ++ be 1 t.flags
    ++ be 1 (match t.segment with | some n => n.val | none => 255) ++ be 1 t.sensor ++ tickBytes t.tick
    ++ offsetBytes t.offset ++ be 2 t.cut

theorem TraceRecord.head_length (t : TraceRecord) : t.head.length = 16 := by
  simp [TraceRecord.head, tickBytes, offsetBytes]

theorem trace_laidOut (t : TraceRecord) (ht : ∀ l, t.samples = some l → l.length = 16) :
    let b := padTo 3 t.bytes
    StartsWith b 3 t.part 3 (t.gap.toNat + 2 * t.damaged.toNat + 4 * (decide (t.cut ≠ 0)).toNat + 8 * t.lost.toNat +
      16 * t.isEnd.toNat + 32 * t.dump.toNat + 64 * t.samples.isSome.toNat) ∧
    fieldAt b 4 1 = (t.segment.map Fin.val).getD 255 ∧ fieldAt b 5 1 = t.sensor.val ∧ fieldAt b 6 6 = t.tick.toNat ∧
    fieldAt b 12 2 = (BitVec.ofInt 16 (t.offset.getD 0)).toNat ∧ fieldAt b 14 2 = t.cut % 2 ^ 16 ∧
    (∀ l (i : Nat) (x : Sample), t.samples = some l → l[i]? = some x → fieldAt b (16 + 2 * i) 2 = x.toNat) ∧
    (t.samples = none → ZeroBytes b 16 48) := by
  intro b
  obtain ⟨rest, hrest⟩ : ∃ rest, b = t.head ++ ((t.samples.getD []).flatMap (fun x => be 2 x.toNat) ++ rest) :=
    ⟨_, List.append_assoc _ _ _⟩
  have hlength : t.bytes.length = 16 + 2 * (t.samples.getD []).length := by
    show (t.head ++ (t.samples.getD []).flatMap (fun x => be 2 x.toNat)).length = _
    rw [List.length_append, t.head_length, flatMap_length sampleBytes_length]
  have hsamples : (t.samples.getD []).length ≤ 16 := by
    cases h : t.samples with
    | none => exact Nat.zero_le _
    | some l => exact (ht l h).le
  have hlt : t.flags < 2 ^ 7 := flagByte_lt _
  have hflags : t.flags % 256 = t.flags := Nat.mod_eq_of_lt (hlt.trans (by decide))
  have hb : b.length = 16 * 3 := padTo_length (by omega)
  have hsegment : (match t.segment with | some n => n.val | none => 255) % 256 = (t.segment.map Fin.val).getD 255 := by
    cases t.segment with
    | none => exact Nat.mod_eq_of_lt (show 255 < 256 by decide)
    | some n => exact fin_mod n (by decide)
  have hoffset : (BitVec.ofInt 16 (t.offset.getD 0)).toNat % 65536 = (BitVec.ofInt 16 (t.offset.getD 0)).toNat :=
    Nat.mod_eq_of_lt (BitVec.isLt _)
  rw [← t.flags_eq, StartsWith]
  refine ⟨⟨hb, ?start⟩, ?segment, ?sensor, ?tick, ?offset, ?cut, fun l i x hl hx => ?samples, fun h => ?empty⟩
  case samples =>
    rw [hl, Option.getD_some] at hrest
    have hentry := fieldAt_entries sampleBytes_length hx rest (k := 0) (n := 2) (by omega)
    rw [hrest, fieldAt_skip_of_length _ _ t.head_length (Nat.le_add_right _ _), Nat.add_sub_cancel_left]
    exact hentry.trans ((fieldAt_be_end 2 x.toNat).trans (Nat.mod_eq_of_lt x.isLt))
  case empty => exact zeroBytes_padTo _ _ (by rw [hlength, h]; rfl)
  all_goals
    rw [hrest]
    simp only [TraceRecord.head, tickBytes, offsetBytes, List.append_assoc, fieldAt_be, fieldAt_be_skip, Nat.reduceLeDiff,
      Nat.reduceSub, Nat.le_refl, Nat.sub_self, Nat.reducePow, Nat.reduceMod, tick_mod, hflags, hsegment, hoffset, fin_mod,
      and_self]

/-- What every notice begins with, and its contents from byte 10 on. -/
theorem notice_laidOut (n : Notice) (h : n.body.bytes.length ≤ 22) :
    let b := padTo 2 n.bytes
    StartsWith b 4 n.part 2 n.body.code ∧ fieldAt b 4 6 = n.tick.toNat ∧
    (∃ rest, ∀ i m, 10 ≤ i → fieldAt b i m = fieldAt (n.body.bytes ++ rest) (i - 10) m) ∧
    ZeroBytes b (10 + n.body.bytes.length) 32 := by
  intro b
  have hlength : n.bytes.length = 10 + n.body.bytes.length := by simp [Notice.bytes, tickBytes]; omega
  have hcode : n.body.code % 256 = n.body.code := by cases n.body <;> rfl
  have hb : b.length = 16 * 2 := padTo_length (by omega)
  rw [StartsWith]
  refine ⟨⟨hb, ?start⟩, ?tick, ⟨List.replicate (16 * 2 - n.bytes.length) 0, fun i m hi => ?contents⟩,
    zeroBytes_padTo _ _ hlength.le⟩
  case contents =>
    have hhead : (be 1 4 ++ be 1 n.part ++ be 1 2 ++ be 1 n.body.code ++ tickBytes n.tick).length = 10 := by
      simp [tickBytes]
    simp only [b, padTo, Notice.bytes, List.append_assoc] at hhead ⊢
    rw [← List.append_assoc (be 1 4), ← List.append_assoc (_ ++ _), ← List.append_assoc (_ ++ _),
      ← List.append_assoc (_ ++ _), fieldAt_skip_of_length _ _ (by simp [tickBytes]) hi]
  all_goals
    simp only [b, padTo, Notice.bytes, tickBytes, List.append_assoc, fieldAt_be, fieldAt_be_skip, Nat.reduceLeDiff,
      Nat.reduceSub, Nat.le_refl, Nat.sub_self, Nat.reducePow, Nat.reduceMod, tick_mod, hcode, and_self]

/-- The TALLY record body before its lane tallies. -/
def TallyRecord.head (t : TallyRecord) : List Byte :=
  be 1 5 ++ be 1 t.part ++ be 1 4 ++ be 1 0 ++ tickBytes t.tick
    ++ be 2 t.counts.shedHit ++ be 2 t.counts.shedEvent ++ be 2 t.counts.shedTrace ++ be 2 t.counts.shedNotice
    ++ be 2 t.counts.shedPulse ++ be 2 t.counts.shedTally

/-- The TALLY record body after its lane tallies. -/
def TallyRecord.tail (t : TallyRecord) : List Byte :=
  be 2 t.counts.split ++ be 2 t.counts.fault ++ be 2 t.counts.discardedOrders ++ be 2 t.counts.badOrders
    ++ be 2 t.counts.badRecords ++ be 2 t.counts.overflow ++ be 2 t.highWater ++ be 1 t.openGroups
    ++ be 1 t.freeSegments

/-- The two tallies of a lane. -/
def tallyLane (p : Nat × Nat) : List Byte := be 2 p.1 ++ be 2 p.2

theorem tallyLane_length (p : Nat × Nat) : (tallyLane p).length = 4 := by simp [tallyLane]

theorem TallyRecord.head_length (t : TallyRecord) : t.head.length = 22 := by simp [TallyRecord.head, tickBytes]

theorem TallyRecord.tail_length (t : TallyRecord) : t.tail.length = 16 := by simp [TallyRecord.tail]

theorem TallyRecord.bytes_eq (t : TallyRecord) : t.bytes = t.head ++ (t.lanes.toList.flatMap tallyLane ++ t.tail) := by
  unfold TallyRecord.bytes TallyRecord.head TallyRecord.tail
  have hlane : tallyLane = fun p => be 2 p.1 ++ be 2 p.2 := rfl
  rw [hlane]
  simp only [List.append_assoc]

theorem tallyLanes_length (t : TallyRecord) : (t.lanes.toList.flatMap tallyLane).length = 16 := by
  rw [flatMap_length tallyLane_length, Vector.length_toList]

theorem TallyRecord.bytes_length (t : TallyRecord) : t.bytes.length = 54 := by
  rw [t.bytes_eq, List.length_append, List.length_append, t.head_length, t.tail_length, tallyLanes_length]

theorem tally_laidOut (t : TallyRecord) :
    let b := padTo 4 t.bytes
    let k := t.counts
    StartsWith b 5 t.part 4 0 ∧ fieldAt b 4 6 = t.tick.toNat ∧ fieldAt b 10 2 = k.shedHit % 2 ^ 16 ∧
    fieldAt b 12 2 = k.shedEvent % 2 ^ 16 ∧ fieldAt b 14 2 = k.shedTrace % 2 ^ 16 ∧
    fieldAt b 16 2 = k.shedNotice % 2 ^ 16 ∧ fieldAt b 18 2 = k.shedPulse % 2 ^ 16 ∧
    fieldAt b 20 2 = k.shedTally % 2 ^ 16 ∧
    (∀ l : Fin 4, fieldAt b (22 + 4 * l.val) 2 = (t.lanes[l]).1 % 2 ^ 16 ∧
      fieldAt b (24 + 4 * l.val) 2 = (t.lanes[l]).2 % 2 ^ 16) ∧
    fieldAt b 38 2 = k.split % 2 ^ 16 ∧ fieldAt b 40 2 = k.fault % 2 ^ 16 ∧
    fieldAt b 42 2 = k.discardedOrders % 2 ^ 16 ∧ fieldAt b 44 2 = k.badOrders % 2 ^ 16 ∧
    fieldAt b 46 2 = k.badRecords % 2 ^ 16 ∧ fieldAt b 48 2 = k.overflow % 2 ^ 16 ∧
    fieldAt b 50 2 = t.highWater % 2 ^ 16 ∧ fieldAt b 52 1 = t.openGroups % 256 ∧
    fieldAt b 53 1 = t.freeSegments % 256 ∧ ZeroBytes b 54 64 := by
  intro b k
  obtain ⟨rest, hrest⟩ : ∃ rest, b = t.head ++ (t.lanes.toList.flatMap tallyLane ++ (t.tail ++ rest)) :=
    ⟨List.replicate (16 * 4 - t.bytes.length) 0, by
      simp only [b, padTo, t.bytes_eq, List.append_assoc]⟩
  have hb : b.length = 16 * 4 := padTo_length (by rw [t.bytes_length]; decide)
  have hend : ZeroBytes b 54 64 := zeroBytes_padTo _ _ t.bytes_length.le
  have hafter : ∀ i m, 38 ≤ i → fieldAt b i m = fieldAt (t.tail ++ rest) (i - 38) m := fun i m hi => by
    rw [hrest, fieldAt_skip_of_length _ _ t.head_length (by omega),
      fieldAt_skip_of_length _ _ (tallyLanes_length t) (by omega), Nat.sub_sub]
  have hlane : ∀ (l : Fin 4) (i j : Nat), i = 22 + (4 * l.val + j) → j + 2 ≤ 4 →
      fieldAt b i 2 = fieldAt (tallyLane t.lanes[l]) j 2 := fun l i j hi hj => by
    have hl : t.lanes.toList[l.val]? = some t.lanes[l] := by simp
    rw [hrest, hi, fieldAt_skip_of_length _ _ t.head_length (Nat.le_add_right _ _), Nat.add_sub_cancel_left,
      fieldAt_entries tallyLane_length hl _ hj]
  rw [StartsWith]
  refine ⟨⟨hb, ?start⟩, ?tick, ?hit, ?event, ?trace, ?notice, ?pulse, ?tally, fun l => ⟨?checks, ?skips⟩, ?rest⟩
  case checks => exact (hlane l _ 0 (by omega) (by omega)).trans (fieldAt_be 2 _ _)
  case skips =>
    refine (hlane l _ 2 (by omega) (by omega)).trans ?_
    rw [tallyLane, fieldAt_be_skip _ _ _ (Nat.le_refl 2), Nat.sub_self]
    exact fieldAt_be_end 2 _
  case rest =>
    simp only [hafter, TallyRecord.tail, List.append_assoc, fieldAt_be, fieldAt_be_skip, Nat.reduceLeDiff,
      Nat.reduceSub, Nat.le_refl, Nat.sub_self, Nat.reducePow, k, hend, and_self]
  all_goals
    rw [hrest]
    simp only [TallyRecord.head, tickBytes, List.append_assoc, fieldAt_be, fieldAt_be_skip, Nat.reduceLeDiff,
      Nat.reduceSub, Nat.le_refl, Nat.sub_self, Nat.reducePow, Nat.reduceMod, tick_mod, k, and_self]

/-- The PULSE-RESULT record body before its entries. -/
def PulseRecord.head (p : PulseRecord) : List Byte :=
  be 1 7 ++ be 1 p.part ++ be 1 (Record.units (.pulse p)) ++ be 1 p.cause.code ++ be 2 p.tag ++ be 1 p.source
    ++ be 1 p.entries.length ++ be 2 p.window ++ tickBytes p.sendTick ++ optBytes 6 (p.fireTick.map BitVec.toNat)
    ++ be 1 (bit p.fireTick.isSome) ++ List.replicate 9 0

theorem PulseRecord.head_length (p : PulseRecord) : p.head.length = 32 := by
  simp [PulseRecord.head, tickBytes, optBytes]

theorem entryBytes_length (p : Fin 32 × TestEntry) : (entryBytes p).length = 8 := by simp [entryBytes]

theorem entry_laidOut (m : Fin 32) (x : TestEntry) :
    let b := entryBytes (m, x)
    fieldAt b 0 1 = m.val ∧ fieldAt b 1 1 = 0 ∧ fieldAt b 2 2 = x.delay % 2 ^ 16 ∧ fieldAt b 4 2 = x.peak % 2 ^ 16 ∧
    fieldAt b 6 2 = 0 := by
  simp only [entryBytes, List.append_assoc, fieldAt_be, fieldAt_be_skip, fieldAt_be_end, Nat.reduceLeDiff,
    Nat.reduceSub, Nat.le_refl, Nat.sub_self, Nat.reducePow, Nat.zero_mod, fin_mod, and_self]

theorem pulse_laidOut (q : PulseRecord) :
    let n := q.entries.length
    let b := padTo (2 + (n + 1) / 2) q.bytes
    StartsWith b 7 q.part (2 + (n + 1) / 2) q.cause.code ∧
    fieldAt b 4 2 = q.tag % 2 ^ 16 ∧ fieldAt b 6 1 = q.source.val ∧ fieldAt b 7 1 = n % 256 ∧
    fieldAt b 8 2 = q.window % 2 ^ 16 ∧ fieldAt b 10 6 = q.sendTick.toNat ∧
    fieldAt b 16 6 = (q.fireTick.map BitVec.toNat).getD 0 ∧ fieldAt b 22 1 = q.fireTick.isSome.toNat ∧
    ZeroBytes b 23 32 ∧
    (∀ (i : Nat) (m : Fin 32) (x : TestEntry), q.entries[i]? = some (m, x) →
      fieldAt b (32 + 8 * i) 1 = m.val ∧ fieldAt b (33 + 8 * i) 1 = 0 ∧
      fieldAt b (34 + 8 * i) 2 = x.delay % 2 ^ 16 ∧ fieldAt b (36 + 8 * i) 2 = x.peak % 2 ^ 16 ∧
      fieldAt b (38 + 8 * i) 2 = 0) ∧
    ZeroBytes b (32 + 8 * n) b.length := by
  intro n b
  obtain ⟨rest, hrest⟩ : ∃ rest, b = q.head ++ (q.entries.flatMap entryBytes ++ rest) := ⟨_, List.append_assoc _ _ _⟩
  have hlength : q.bytes.length = 32 + 8 * n := by
    show (q.head ++ q.entries.flatMap entryBytes).length = _
    rw [List.length_append, q.head_length, flatMap_length entryBytes_length]
  have hb : b.length = 16 * (2 + (n + 1) / 2) := padTo_length (by omega)
  have hend : ZeroBytes b (32 + 8 * n) b.length := zeroBytes_padTo _ _ (by omega)
  have hgap : ZeroBytes b 23 32 := fun j h1 h2 => by
    rw [hrest]
    simp (disch := omega) only [PulseRecord.head, tickBytes, optBytes, List.append_assoc, byteAt_be_skip]
    exact byteAt_zeros_left _ (by omega)
  have hentries : ∀ (i : Nat) (p : Fin 32 × TestEntry), q.entries[i]? = some p → ∀ j k w, j = 32 + (8 * i + k) →
      k + w ≤ 8 → fieldAt b j w = fieldAt (entryBytes p) k w := fun i p hp j k w hj hk => by
    rw [hrest, hj, fieldAt_skip_of_length _ _ q.head_length (Nat.le_add_right _ _), Nat.add_sub_cancel_left,
      fieldAt_entries entryBytes_length hp _ hk]
  rw [StartsWith]
  refine ⟨⟨hb, ?start⟩, ?tag, ?source, ?count, ?window, ?send, ?fire, ?fired, hgap, fun i m x hx => ?entries, hend⟩
  case entries =>
    obtain ⟨h0, h1, h2, h4, h6⟩ := entry_laidOut m x
    exact ⟨(hentries i _ hx _ 0 1 (by omega) (by omega)).trans h0, (hentries i _ hx _ 1 1 (by omega) (by omega)).trans h1,
      (hentries i _ hx _ 2 2 (by omega) (by omega)).trans h2, (hentries i _ hx _ 4 2 (by omega) (by omega)).trans h4,
      (hentries i _ hx _ 6 2 (by omega) (by omega)).trans h6⟩
  all_goals
    rw [hrest]
    simp only [PulseRecord.head, Record.units, n, tickBytes, optBytes, List.append_assoc, fieldAt_be, fieldAt_be_skip,
      Nat.reduceLeDiff, Nat.reduceSub, Nat.le_refl, Nat.sub_self, Nat.reducePow, Nat.reduceMod, tick_mod, fin_mod,
      EndCause.code_mod, option_word_mod, bit_toNat, bool_mod, and_self]

/-- The ANSWER record body before its contents. -/
def Answer.head (a : Answer) : List Byte :=
  be 1 6 ++ be 1 a.part ++ be 1 a.units ++ be 1 (bit a.reason.isSome) ++ be 2 a.tag.toNat ++ [a.kind]
    ++ optBytes 1 (a.reason.map Reason.code) ++ [a.item] ++ be 1 0 ++ be 2 a.index ++ List.replicate 20 0

theorem Answer.head_length (a : Answer) : a.head.length = 32 := by simp [Answer.head, optBytes]

theorem answer_laidOut (a : Answer) :
    let b := a.body
    let n := a.contents.length
    StartsWith b 6 a.part (2 + (n + 15) / 16) a.reason.isSome.toNat ∧ fieldAt b 4 2 = a.tag.toNat ∧
    byteAt b 6 = a.kind ∧ fieldAt b 7 1 = (a.reason.map Reason.code).getD 0 ∧ byteAt b 8 = a.item ∧
    ZeroBytes b 9 10 ∧ fieldAt b 10 2 = a.index % 2 ^ 16 ∧ ZeroBytes b 12 32 ∧ (b.drop 32).take n = a.contents ∧
    ZeroBytes b (32 + n) b.length := by
  intro b n
  obtain ⟨rest, hrest⟩ : ∃ rest, b = a.head ++ (a.contents ++ rest) := ⟨_, List.append_assoc _ _ _⟩
  have hlength : (a.head ++ a.contents).length = 32 + n := by rw [List.length_append, a.head_length]
  have hb : b.length = 16 * (2 + (n + 15) / 16) :=
    padTo_length (l := a.head ++ a.contents) (u := 2 + (n + 15) / 16) (by omega)
  have hend : ZeroBytes b (32 + n) b.length := zeroBytes_padTo (l := a.head ++ a.contents) _ _ (by omega)
  have hgap : ZeroBytes b 9 10 := fun j h1 h2 => by
    rw [hrest]
    simp (disch := omega) only [Answer.head, optBytes, List.append_assoc, byteAt_be_skip, byteAt_byte_skip]
    exact byteAt_be_zero _ (by omega)
  have htail : ZeroBytes b 12 32 := fun j h1 h2 => by
    rw [hrest]
    simp (disch := omega) only [Answer.head, optBytes, List.append_assoc, byteAt_be_skip, byteAt_byte_skip]
    exact byteAt_zeros_left _ (by omega)
  have hreason : (a.reason.map Reason.code).getD 0 % 256 = (a.reason.map Reason.code).getD 0 := by
    cases a.reason with
    | none => rfl
    | some r => exact r.code_mod
  have htag : a.tag.toNat % 65536 = a.tag.toNat := Nat.mod_eq_of_lt a.tag.isLt
  rw [StartsWith]
  refine ⟨⟨hb, ?start⟩, ?tag, ?code, ?reason, ?item, hgap, ?index, htail, ?contents, hend⟩
  case contents =>
    rw [hrest, List.drop_left' a.head_length, List.take_left' rfl]
  all_goals
    rw [hrest]
    simp only [Answer.head, Answer.units, n, optBytes, List.append_assoc, fieldAt_be, fieldAt_be_skip, fieldAt_byte_skip,
      byteAt_be_skip, byteAt_byte_skip, byteAt_byte_here, Nat.reduceLeDiff, Nat.reduceSub, Nat.le_refl, Nat.sub_self,
      Nat.reducePow, Nat.reduceMod, htag, hreason, bit_toNat, bool_mod, and_self]

theorem reason_code (r : Option Reason) :
    (r.map Reason.code).getD 0 =
      (match r with
       | none => 0 | some .state => 1 | some .busy => 2 | some .range => 3 | some .inUse => 4
       | some .duplicate => 5 | some .conflict => 6 | some .noItem => 7 | some .readonly => 8 | some .time => 9
       | some .lane => 10 | some .nosensor => 11 | some .unclaimed => 12) := by
  cases r with
  | none => rfl
  | some r => cases r <;> rfl

theorem NoticeBody.bytes_length_le (n : NoticeBody) : n.bytes.length ≤ 22 := by
  cases n <;> simp [NoticeBody.bytes, tickBytes, optBytes]

theorem BurstCause.option_code_mod (c : Option BurstCause) :
    (c.map BurstCause.code).getD 0 % 256 = (c.map BurstCause.code).getD 0 := by
  cases c with
  | none => rfl
  | some c => exact c.code_mod

/-- Settles O54: each body is its fields one after another, padded with zero bytes. -/
theorem recordsLaidOut : Obligations.RecordsLaidOut := by
  unfold Obligations.RecordsLaidOut
  intro phase lane alarm burst starts zeros
  refine ⟨hit_laidOut, event_laidOut, trace_laidOut, fun n => ?notice, tally_laidOut, pulse_laidOut, fun a => ?answer⟩
  case notice =>
    obtain ⟨hstart, htick, ⟨rest, hrest⟩, hzero⟩ := notice_laidOut n n.body.bytes_length_le
    obtain ⟨part, tick, body⟩ := n
    refine ⟨htick, ?_⟩
    cases body
    all_goals
      simp only [NoticeBody.bytes, tickBytes, optBytes, List.length_append, be_length, Nat.reduceAdd] at hzero
      simp only [zeros, ← ZeroBytes.eq_1]
      refine ⟨hstart, ?_⟩
      simp only [Record.body, Record.units, hrest, NoticeBody.bytes, tickBytes, optBytes, List.append_assoc, fieldAt_be,
        fieldAt_be_skip, Nat.reduceLeDiff, Nat.reduceSub, Nat.le_refl, Nat.sub_self, Nat.reducePow, tick_mod,
        fin_mod, LaneState.code_mod, LaneCause.code_mod, Phase.code_mod, Alarm.code_mod, CellCause.code_mod,
        BurstCause.code_mod, BurstCause.option_code_mod, AccessKind.code_mod, AccessOutcome.code_mod, bit_toNat, bool_mod,
        option_word_mod, true_and]
    case lane => exact ⟨rfl, rfl, rfl, hzero⟩
    case phase => exact ⟨rfl, rfl, hzero⟩
    case cell => exact ⟨rfl, rfl, rfl, hzero⟩
    case burst => exact ⟨rfl, hzero⟩
    case frozen => exact ⟨rfl, hzero⟩
    case capture => exact ⟨rfl, fun h => h ▸ rfl, fun h => h ▸ rfl, hzero⟩
    case dump => exact hzero
  case answer =>
    obtain ⟨hstart, htag, hkind, hreason, hrest⟩ := answer_laidOut a
    exact ⟨hstart, htag, hkind, hreason.trans (reason_code a.reason), hrest⟩

end Sys2Proof.Machine
end

section
/-! A burst declaration, said once (R165): what work on hits, groups and the capture unit leaves of the part, what a declaration
leaves, and the rows that declare (O36, O45, O46). -/

namespace Sys2Proof.Machine

/-! ## Work on hits, groups and the capture unit -/

/-- What work on hits, groups and the capture unit leaves as it was: run control, the tracker but for its saturation list, the
rate slot timer, the record link but for what is offered, and the blocks that it does not touch. -/
structure Steady (s t : State) : Prop extends SameSettings s t where
  lanes : t.lanes = s.lanes
  fireMark : t.fireMark = s.fireMark
  run : t.run = s.run
  tracker : t.tracker = { s.tracker with satList := t.tracker.satList }
  quiet : s.tracker.armed = false → t.tracker = s.tracker
  boundary : t.cells.boundary = s.cells.boundary
  link : t.link = { s.link with own := t.link.own, counts := t.link.counts, highWater := t.link.highWater }
  own : s.link.own <+: t.link.own
  overflow : t.link.counts.overflow = s.link.counts.overflow

theorem Steady.refl (s : State) : Steady s s :=
  ⟨⟨rfl, rfl, rfl, rfl, rfl, rfl⟩, rfl, rfl, rfl, rfl, fun _ => rfl, rfl, rfl, ⟨[], List.append_nil _⟩, rfl⟩

theorem steady_tests (s : State) : KeepsTests (Steady s) :=
  { KeepsBlocks.toKeepsWork
      { tracker := fun t _ ha h => { h with
          tracker := by rw [State.setTracker_tracker, h.tracker]
          quiet := fun hs => absurd ((h.quiet hs ▸ ha : s.tracker.armed = true)) (by simp [hs]) }
        groups := fun _ _ _ h => { h with }
        cells := fun _ _ hx h => { h with boundary := hx.trans h.boundary }
        capture := fun _ _ _ h => { h with }
        pulse := fun _ _ _ h => { h with }
        link := fun t x hx h => { h with
          link := by
            rw [State.setLink_link, hx.same, h.link]
          own := h.own.trans hx.own
          overflow := hx.overflow.trans h.overflow } }
      fun _ _ h => { h with } with
    channels := fun _ _ h => { h with }
    off := fun _ _ _ h => { h with } }

theorem Steady.setRun {s t : State} (h : Steady s t) (x : RunControl) : Steady (s.setRun x) (t.setRun x) :=
  { h with run := rfl }

theorem SameSettings.trans {s t u : State} (h : SameSettings s t) (h' : SameSettings t u) : SameSettings s u where
  power := h'.power.trans h.power
  timebase := h'.timebase.trans h.timebase
  phaseMap := h'.phaseMap.trans h.phaseMap
  sensorMap := h'.sensorMap.trans h.sensorMap
  pairs := h'.pairs.trans h.pairs
  pending := h'.pending.trans h.pending

theorem Steady.trans {s t u : State} (h : Steady s t) (h' : Steady t u) : Steady s u where
  toSameSettings := h.toSameSettings.trans h'.toSameSettings
  lanes := h'.lanes.trans h.lanes
  fireMark := h'.fireMark.trans h.fireMark
  run := h'.run.trans h.run
  tracker := by rw [h'.tracker, h.tracker]
  quiet := fun hs => (h'.quiet ((congrArg Tracker.armed (h.quiet hs)).trans hs)).trans (h.quiet hs)
  boundary := h'.boundary.trans h.boundary
  link := by rw [h'.link, h.link]
  own := h.own.trans h'.own
  overflow := h'.overflow.trans h.overflow

theorem Steady.marks {s t : State} (h : Steady s t) : t.link.marks = s.link.marks := by rw [h.link]

theorem Steady.forward {s t : State} (h : Steady s t) : t.link.forward = s.link.forward := by rw [h.link]

theorem Steady.pass {s t : State} (h : Steady s t) : t.link.pass = s.link.pass := by rw [h.link]

theorem Steady.far {s t : State} (h : Steady s t) : t.link.far = s.link.far := by rw [h.link]

theorem Steady.farPause {s t : State} (h : Steady s t) : t.link.farPause = s.link.farPause := by rw [h.link]

theorem Steady.armed {s t : State} (h : Steady s t) : t.tracker.armed = s.tracker.armed := by rw [h.tracker]

theorem Steady.phase {s t : State} (h : Steady s t) : t.tracker.phase = s.tracker.phase := by rw [h.tracker]

theorem settleCapture_steady (s : State) : Steady s (settleCapture s) :=
  settleCapture_keeps (steady_tests s).toKeepsBlocks s (.refl s)

theorem notify_steady (x : NoticeBody) (s : State) : Steady s (notify x s) :=
  notify_keeps (steady_tests s).toKeepsBlocks x s (.refl s)

theorem presentQuietly_steady (h : HitRecord) (s : State) : Steady s (presentQuietly h s) :=
  presentQuietly_keeps (steady_tests s).toKeepsWork h s (.refl s)

theorem endTest_steady (m : Tests) (k : EndCause) (s : State) : Steady s (endTest presentQuietly m k s) :=
  endTest_keeps (steady_tests s) (presentQuietly_keeps (steady_tests s).toKeepsWork) m k s (.refl s)

theorem tailHits_steady (s : State) : Steady s (tailHits s) := tailHits_keeps (steady_tests s) s (.refl s)

/-! ## The tail end (R168) -/

/-- Run control once a tail end is past. -/
def RunControl.frozen (r : RunControl) : RunControl := { r with state := .frozen, tailExpiry := none }

theorem tailBlocks_steady (s : State) : Steady (s.setRun s.run.frozen) (tailBlocks s) := by
  have hkeeps := (steady_tests (s.setRun s.run.frozen)).toKeepsBlocks
  exact startDump_keeps hkeeps _ (notify_keeps hkeeps _ _ (freeSegments_keeps hkeeps _ (.refl _)))

theorem tailEnd_steady (s : State) : Steady (s.setRun s.run.frozen) (tailEnd s) := by
  have hhits := (tailHits_steady s).setRun s.run.frozen
  rw [tailEnd_eq]
  refine hhits.trans ?_
  rw [← (tailHits_steady s).run]
  exact tailBlocks_steady _

/-! ## The declaration (R165) -/

/-- Run control once a declaration made now is past. -/
def State.declaredRun (s : State) (k : BurstCause) : RunControl :=
  { s.run with
    cause := some k, burstTick := some s.timebase.counter
    state := if s.run.tailSpan = 0 then .frozen else .tailing
    tailExpiry := if s.run.tailSpan = 0 then none else some (tickAdd s.timebase.counter s.run.tailSpan) }

/-- The tracker disarmed, the rate slot timer stopped and TAILING entered: a declaration before its notice. -/
def declareBlocks (k : BurstCause) (s : State) : State :=
  let s1 := s.setRun { s.run with cause := some k, burstTick := some s.timebase.counter, state := .tailing }
  let s2 := s1.setTracker s1.tracker.disarm
  s2.setCells { s2.cells with boundary := none }

/-- The pressure that a BURST notice carries. -/
def Tracker.burstPressure (t : Tracker) : Option Nat := if t.phase = .nogauge then none else t.pressure

theorem declareFirst_eq (k : BurstCause) (s : State) :
    declareFirst k s = makeMark .burst
      (notify (.burst k s.timebase.counter s.tracker.burstPressure s.tracker.pmax) (declareBlocks k s)) := rfl

theorem makeMark_link (m : Mark) (s : State) :
    makeMark m s = s.setLink { s.link with marks := s.link.marks ++ if s.link.far.state = .up then [m] else [] } := by
  unfold makeMark
  split
  · rfl
  · rw [List.append_nil]
    rfl

theorem declareFirst_run (k : BurstCause) (s : State) : (declareFirst k s).run = (declareBlocks k s).run := by
  rw [declareFirst_eq, makeMark_link]
  exact (notify_steady _ _).run

theorem declareFirst_marks (k : BurstCause) (s : State) :
    (declareFirst k s).link.marks = s.link.marks ++ if s.link.far.state = .up then [.burst] else [] := by
  rw [declareFirst_eq, makeMark_link, State.setLink_link, (notify_steady _ _).marks, (notify_steady _ _).far]
  rfl

theorem declareFirst_own {k : BurstCause} {s : State} (hb : s.run.bypass = false) (h : s.link.fill + 2 ≤ 4096) :
    (declareFirst k s).link.own = s.link.own ++ [burstNotice s k s.tracker.burstPressure s.tracker.pmax] := by
  rw [declareFirst_eq, makeMark_link, State.setLink_link]
  exact notify_own (s := declareBlocks k s) hb h

/-- The state that a declaration has reached before it ends the test, with the run control that it ends with. -/
def declaredFrom (k : BurstCause) (s : State) : State := (declareFirst k s).setRun (s.declaredRun k)

theorem startTail_steady (b : Tick) (s : State) :
    Steady
      (s.setRun { s.run with
        state := if s.run.tailSpan = 0 then .frozen else s.run.state
        tailExpiry := if s.run.tailSpan = 0 then none else some (tickAdd b s.run.tailSpan) })
      (startTail b s) := by
  unfold startTail
  dsimp only
  by_cases h : s.run.tailSpan = 0
  · rw [if_pos h, if_pos h, if_pos h]
    exact tailEnd_steady (s.setRun { s.run with tailExpiry := some (tickAdd b s.run.tailSpan) })
  · rw [if_neg h, if_neg h, if_neg h]
    exact .refl _

theorem declareBurst_run {s : State} (hr : s.run.state = .run) (e : EndCause) (k : BurstCause) :
    declareBurst e k s = startTail s.timebase.counter (endTest presentQuietly (tailTests s) e (declareFirst k s)) := by
  unfold declareBurst
  rw [if_pos hr]

/-- After its first steps a declaration works on hits, groups and the capture unit alone. -/
theorem declareBurst_steady {s : State} (hr : s.run.state = .run) (e : EndCause) (k : BurstCause) :
    Steady (declaredFrom k s) (declareBurst e k s) := by
  have hend := endTest_steady (tailTests s) e (declareFirst k s)
  have hrun := hend.run.trans (declareFirst_run k s)
  have htail := startTail_steady s.timebase.counter (endTest presentQuietly (tailTests s) e (declareFirst k s))
  rw [declareBurst_run hr]
  refine (hend.setRun (s.declaredRun k)).trans ?_
  rw [hrun] at htail
  exact htail

theorem untestedOnly_tests : KeepsTests (fun s => s.pulse.test = .none) :=
  { KeepsBlocks.toKeepsWork { pulse := fun _ _ hf h => hf.test h } fun _ _ h => h with }

theorem declareBurst_test {s : State} (hr : s.run.state = .run) (e : EndCause) (k : BurstCause) :
    (declareBurst e k s).pulse.test = .none := by
  have hend : (endTest presentQuietly (tailTests s) e (declareFirst k s)).pulse.test = .none := endTest_test _ _ _ _
  rw [declareBurst_run hr, startTail]
  dsimp only
  split
  · exact tailEnd_keeps untestedOnly_tests (fun _ _ _ h => h) _ hend
  · exact hend

/-- The blocks that the first steps of a declaration leave alone. -/
structure BlindFirst {α : Type} (g : State → α) : Prop where
  run : ∀ s x, g (s.setRun x) = g s
  tracker : ∀ s x, g (s.setTracker x) = g s
  cells : ∀ s x, g (s.setCells x) = g s
  link : ∀ s x, g (s.setLink x) = g s

theorem declaredFrom_same {α : Type} {g : State → α} (h : BlindFirst g) (k : BurstCause) (s : State) :
    g (declaredFrom k s) = g s := by
  have hnotice := notify_same ⟨h.link⟩ (.burst k s.timebase.counter s.tracker.burstPressure s.tracker.pmax) (declareBlocks k s)
  have hblocks : g (declareBlocks k s) = g s := (h.cells _ _).trans ((h.tracker _ _).trans (h.run _ _))
  rw [declaredFrom, h.run, declareFirst_eq, makeMark_link, h.link, hnotice, hblocks]

theorem declaredFrom_settings (k : BurstCause) (s : State) : SameSettings s (declaredFrom k s) := by
  constructor <;> exact declaredFrom_same ⟨fun _ _ => rfl, fun _ _ => rfl, fun _ _ => rfl, fun _ _ => rfl⟩ k s

theorem declaredFrom_lanes (k : BurstCause) (s : State) : (declaredFrom k s).lanes = s.lanes :=
  declaredFrom_same ⟨fun _ _ => rfl, fun _ _ => rfl, fun _ _ => rfl, fun _ _ => rfl⟩ k s

theorem declareFirst_armed (k : BurstCause) (s : State) : (declareFirst k s).tracker.armed = false := by
  rw [declareFirst_eq, makeMark_link]
  exact (notify_steady _ (declareBlocks k s)).armed

theorem declareFirst_boundary (k : BurstCause) (s : State) : (declareFirst k s).cells.boundary = none := by
  rw [declareFirst_eq, makeMark_link]
  exact (notify_steady _ (declareBlocks k s)).boundary

/-- A declaration has the effects of R165. -/
theorem declareBurst_declared {s : State} (hr : s.run.state = .run) (e : EndCause) (k : BurstCause) :
    Declared s (declareBurst e k s) k := by
  have h := declareBurst_steady hr e k
  have hrun : (declareBurst e k s).run = s.declaredRun k := h.run
  exact
    { cause := by rw [hrun]; rfl
      tick := by rw [hrun]; rfl
      state := by rw [hrun]; rfl
      timer := by rw [hrun]; rfl
      disarmed := h.armed.trans (declareFirst_armed k s)
      boundary := h.boundary.trans (declareFirst_boundary k s)
      test := declareBurst_test hr e k
      marks := h.marks.trans (declareFirst_marks k s) }

/-- Its BURST notice stands in the own record queue, when there is room for it. -/
theorem declareBurst_own {s : State} (hr : s.run.state = .run) (e : EndCause) (k : BurstCause) (hb : s.run.bypass = false)
    (h : s.link.fill + 2 ≤ 4096) :
    ∃ more, (declareBurst e k s).link.own =
      s.link.own ++ burstNotice s k s.tracker.burstPressure s.tracker.pmax :: more := by
  obtain ⟨more, hmore⟩ := (declareBurst_steady hr e k).own
  refine ⟨more, ?_⟩
  rw [← hmore]
  show (declareFirst k s).link.own ++ more = _
  rw [declareFirst_own hb h, List.append_assoc]
  rfl

theorem declareBurst_settings {s : State} (hr : s.run.state = .run) (e : EndCause) (k : BurstCause) :
    SameSettings s (declareBurst e k s) :=
  (declaredFrom_settings k s).trans (declareBurst_steady hr e k).toSameSettings

theorem declareBurst_lanes {s : State} (hr : s.run.state = .run) (e : EndCause) (k : BurstCause) :
    (declareBurst e k s).lanes = s.lanes := (declareBurst_steady hr e k).lanes.trans (declaredFrom_lanes k s)

/-- Work on hits, groups and the capture unit before a declaration does not change what it declares. -/
theorem Declared.of_steady {s t u : State} {k : BurstCause} (h : Steady s t) (hd : Declared t u k) : Declared s u k where
  cause := hd.cause
  tick := by rw [hd.tick, h.timebase]
  state := by rw [hd.state, h.run]
  timer := by rw [hd.timer, h.run, h.timebase]
  disarmed := hd.disarmed
  boundary := hd.boundary
  test := hd.test
  marks := by rw [hd.marks, h.marks, h.far]

/-- Work on hits, groups and the capture unit after a declaration leaves what it declared. -/
theorem Declared.steady {s t u : State} {k : BurstCause} (hd : Declared s t k) (h : Steady t u)
    (htest : u.pulse.test = .none) : Declared s u k where
  cause := by rw [h.run, hd.cause]
  tick := by rw [h.run, hd.tick]
  state := by rw [h.run, hd.state]
  timer := by rw [h.run, hd.timer]
  disarmed := h.armed.trans hd.disarmed
  boundary := h.boundary.trans hd.boundary
  test := htest
  marks := h.marks.trans hd.marks

/-- A command that ends in a declaration, with the capture unit served at its end. -/
theorem settled_declared {s : State} (hr : s.run.state = .run) (e : EndCause) (k : BurstCause) :
    Declared s (settleCapture (declareBurst e k s)) k :=
  (declareBurst_declared hr e k).steady (settleCapture_steady _)
    (settleCapture_keeps untestedOnly_tests.toKeepsBlocks _ (declareBurst_test hr e k))

theorem Steady.own_more {s t : State} (h : Steady s t) {l : List Record} {r : Record}
    (hown : ∃ more, s.link.own = l ++ r :: more) : ∃ more, t.link.own = l ++ r :: more := by
  obtain ⟨more, hs⟩ := hown
  obtain ⟨rest, ht⟩ := h.own
  exact ⟨more ++ rest, by rw [← ht, hs, List.append_assoc]; rfl⟩

end Sys2Proof.Machine
end

section
/-! The rows that declare on what arrives or is ordered: marks, records, FREEZE, and RELEASE (O36, O45, O46). -/

namespace Sys2Proof.Machine

/-! ## Arrivals at a port in UP -/

/-- A port whose frame passed the check, with its failures forgotten. -/
def State.portHeard (s : State) (p : Port) : State := s.setPort p { s.link.port p with failures := 0 }

theorem portArrival_taken {p : Port} {frame : List Byte} {f : LinkFrame} {s : State} (h : (s.link.port p).state = .up)
    (hf : readLinkFrame p frame = some f) : portArrival p frame s = takeFrame f (s.portHeard p) :=
  (portArrival_up h frame).trans (upPortFrame_taken hf s)

section
variable {frame : List Byte} {s : State} (hr : s.running = true)
include hr

theorem exec_pauseMark_eq : exec (.pauseMark frame) s = .next (portArrival .near frame s) :=
  congrArg Host.Outcome.next (whileRunning_of_running hr _)

theorem exec_resumeMark_eq : exec (.resumeMark frame) s = .next (portArrival .near frame s) :=
  congrArg Host.Outcome.next (whileRunning_of_running hr _)

theorem exec_burstMark_eq : exec (.burstMark frame) s = .next (settleCapture (portArrival .near frame s)) :=
  congrArg Host.Outcome.next (whileRunning_of_running hr _)

theorem exec_recordFrame_eq : exec (.recordFrame frame) s = .next (settleCapture (portArrival .far frame s)) :=
  congrArg Host.Outcome.next (whileRunning_of_running hr _)

end

theorem beginNear_busy {s : State} (h : s.link.nearSending.isSome = true) : beginNear s = s := by
  obtain ⟨x, hx⟩ := Option.isSome_iff_exists.1 h
  unfold beginNear
  rw [hx]

/-! ## A chained declaration (R167) -/

theorem chained_run {s : State} (hb : s.run.bypass = false) :
    chained s = declareBurst .aborted .chained s := by
  unfold chained
  rw [hb]
  rfl

theorem chained_other {s : State} (h : s.run.state ≠ .run ∨ s.run.bypass = true) : chained s = s := by
  unfold chained
  split
  · rfl
  · next hb => exact declareBurst_outside _ _ _ (h.resolve_right hb)

/-- What neither a declaration nor the service of the capture unit changes. -/
structure Undeclared (s t : State) : Prop extends SameSettings s t where
  lanes : t.lanes = s.lanes
  forward : t.link.forward = s.link.forward
  pass : t.link.pass = s.link.pass
  farPause : t.link.farPause = s.link.farPause
  overflow : t.link.counts.overflow = s.link.counts.overflow

theorem Steady.undeclared {s t : State} (h : Steady s t) : Undeclared s t :=
  { h with forward := h.forward, pass := h.pass, farPause := h.farPause }

theorem Undeclared.trans {s t u : State} (h : Undeclared s t) (h' : Undeclared t u) : Undeclared s u where
  toSameSettings := h.toSameSettings.trans h'.toSameSettings
  lanes := h'.lanes.trans h.lanes
  forward := h'.forward.trans h.forward
  pass := h'.pass.trans h.pass
  farPause := h'.farPause.trans h.farPause
  overflow := h'.overflow.trans h.overflow

theorem declaredFrom_undeclared (k : BurstCause) (s : State) : Undeclared s (declaredFrom k s) := by
  have hnotice := (notify_steady (.burst k s.timebase.counter s.tracker.burstPressure s.tracker.pmax)
    (declareBlocks k s)).undeclared
  rw [declaredFrom, declareFirst_eq, makeMark_link]
  exact { hnotice with }

theorem declareBurst_undeclared {s : State} (hr : s.run.state = .run) (e : EndCause) (k : BurstCause) :
    Undeclared s (declareBurst e k s) :=
  (declaredFrom_undeclared k s).trans (declareBurst_steady hr e k).undeclared

theorem chained_undeclared (s : State) : Undeclared s (chained s) := by
  by_cases h : s.run.state ≠ .run ∨ s.run.bypass = true
  · rw [chained_other h]
    exact (Steady.refl s).undeclared
  · obtain ⟨hr, hb⟩ := not_or.1 h
    rw [chained_run (Bool.eq_false_iff.2 hb)]
    exact declareBurst_undeclared (not_not.1 hr) _ _

/-- The declaration of a mark or a notice, with the capture unit served at the end of the command. -/
theorem settled_chained {s : State} (hr : s.run.state = .run) (hb : s.run.bypass = false) :
    Declared s (settleCapture (chained s)) .chained ∧
      (s.link.fill + 2 ≤ 4096 → ∃ more, (settleCapture (chained s)).link.own =
        s.link.own ++ burstNotice s .chained s.tracker.burstPressure s.tracker.pmax :: more) := by
  rw [chained_run hb]
  exact ⟨settled_declared hr .aborted .chained, fun h =>
    (settleCapture_steady _).own_more (declareBurst_own hr .aborted .chained hb h)⟩

/-! ## Marks at the near port (R180, R183) -/

/-- The forward queue once a BURST mark has arrived. -/
def Link.burstForwarded (k : Link) : List Forward :=
  k.forward ++ if k.far.state = .up ∧ k.forward.length < 8 then [.burst] else []

theorem forwardBurst_eq (s : State) :
    (if s.farUp then forwardEntry .burst s else s) = s.setLink { s.link with forward := s.link.burstForwarded } := by
  have hup : s.farUp = true ↔ s.link.far.state = .up := beq_iff_eq
  unfold Link.burstForwarded
  by_cases hf : s.link.far.state = .up
  · rw [if_pos (hup.2 hf), forwardEntry]
    by_cases hl : s.link.forward.length < 8
    · rw [if_pos hl, if_pos ⟨hf, hl⟩]
    · have hburst : ¬ Forward.burst.isOrder = true := by decide
      rw [if_neg hl, if_neg hburst, if_neg (fun h => hl h.2), List.append_nil]
      rfl
  · rw [if_neg (fun h => hf (hup.1 h)), if_neg (fun h => hf h.1), List.append_nil]
    rfl

/-- Settles O45: the near pause is one flag; a BURST mark is forwarded first and declares after. -/
theorem nearMarksTakeEffect : Obligations.NearMarksTakeEffect := by
  refine ⟨fun frame s hr hup => ⟨fun hf => ?pause, fun hf => ⟨?resume, fun h => beginNear_busy (s := s.setLink _) h⟩⟩,
    fun frame s hr hup hf => ?burst⟩
  case pause => rw [exec_pauseMark_eq hr, portArrival_taken (p := .near) hup hf]; rfl
  case resume => rw [exec_resumeMark_eq hr, portArrival_taken (p := .near) hup hf]; rfl
  case burst =>
    obtain ⟨u, hu⟩ : ∃ u, u = (s.portHeard .near).setLink
      { (s.portHeard .near).link with forward := s.link.burstForwarded } := ⟨_, rfl⟩
    have harrive : portArrival .near frame s = chained u := by
      rw [portArrival_taken (p := .near) hup hf, hu]
      exact congrArg chained (forwardBurst_eq (s.portHeard .near))
    have hrun : u.run = s.run := by rw [hu]; rfl
    have hmarks : u.link.marks = s.link.marks := by rw [hu]; rfl
    have hsettings : SameSettings s u := by rw [hu]; exact ⟨rfl, rfl, rfl, rfl, rfl, rfl⟩
    have hlanes : u.lanes = s.lanes := by rw [hu]; rfl
    have hforward : u.link.forward = s.link.burstForwarded := by rw [hu]; rfl
    have hkept := (chained_undeclared u).trans (settleCapture_steady (chained u)).undeclared
    refine ⟨_, (exec_burstMark_eq hr).trans (congrArg (fun x => Host.Outcome.next (settleCapture x)) harrive),
      hkept.forward.trans hforward, fun h => ?other, fun hst hb => ?declared, hkept.lanes.trans hlanes,
      hsettings.trans hkept.toSameSettings⟩
    case other =>
      rw [chained_other (hrun ▸ h)]
      exact ⟨(settleCapture_steady u).run.trans hrun, (settleCapture_steady u).marks.trans hmarks⟩
    case declared =>
      obtain ⟨hdeclared, hown⟩ := settled_chained (hrun ▸ hst) (hrun ▸ hb)
      subst hu
      exact ⟨{ hdeclared with }, hown⟩

/-! ## Records at the far port (R181, R182) -/

/-- The record link, its far port in UP, once a record has been placed or has overflowed. -/
def Link.recordPlaced (k : Link) (body : List Byte) : Link :=
  if k.passFill + body.length / 16 ≤ 64 then
    if 48 ≤ k.passFill + body.length / 16 ∧ k.farPause = false then
      { k with pass := k.pass ++ [body], marks := k.marks ++ [.pause], farPause := true }
    else { k with pass := k.pass ++ [body] }
  else { k with counts := { k.counts with overflow := tallyAdd k.counts.overflow 1 } }

theorem passFill_append (k : Link) (body : List Byte) :
    Link.passFill { k with pass := k.pass ++ [body] } = k.passFill + body.length / 16 := by
  simp [Link.passFill]

theorem recordArrives_eq {body : List Byte} {s : State} (h : s.link.far.state = .up) :
    recordArrives body s =
      if isBurstNotice body then chained (s.setLink (s.link.recordPlaced body)) else s.setLink (s.link.recordPlaced body) := by
  have hplaced : (if s.link.passFill + body.length / 16 ≤ 64 then
      pauseIfFull (s.setLink { s.link with pass := s.link.pass ++ [body] })
      else s.setCounts { s.link.counts with overflow := tallyAdd s.link.counts.overflow 1 }) =
      s.setLink (s.link.recordPlaced body) := by
    unfold Link.recordPlaced pauseIfFull
    simp only [State.setLink_link, passFill_append, h, true_and]
    split
    · split
      · rw [makeMark_link, State.setLink_link, if_pos h]
        rfl
      · rfl
    · rfl
  unfold recordArrives
  rw [hplaced]

theorem Link.recordPlaced_pass {k : Link} {body : List Byte} (h : k.passFill + body.length / 16 ≤ 64) :
    (k.recordPlaced body).pass = k.pass ++ [body] := by
  rw [Link.recordPlaced, if_pos h]
  split <;> rfl

theorem Link.recordPlaced_overflow {k : Link} {body : List Byte} (h : 64 < k.passFill + body.length / 16) :
    (k.recordPlaced body).pass = k.pass ∧
      (k.recordPlaced body).counts.overflow = min 65535 (k.counts.overflow + 1) := by
  rw [Link.recordPlaced, if_neg (Nat.not_le.2 h)]
  exact ⟨rfl, rfl⟩

theorem Link.recordPlaced_pauses {k : Link} {body : List Byte} (hfull : 48 ≤ k.passFill + body.length / 16)
    (h : k.passFill + body.length / 16 ≤ 64) (hp : k.farPause = false) :
    (k.recordPlaced body).farPause = true ∧ (k.recordPlaced body).marks = k.marks ++ [.pause] := by
  rw [Link.recordPlaced, if_pos h, if_pos ⟨hfull, hp⟩]
  exact ⟨rfl, rfl⟩

theorem Link.recordPlaced_kept (k : Link) (body : List Byte) :
    (k.recordPlaced body).own = k.own ∧ (k.recordPlaced body).far = k.far := by
  unfold Link.recordPlaced
  split
  · split <;> exact ⟨rfl, rfl⟩
  · exact ⟨rfl, rfl⟩

/-- Settles O46: the placement and its PAUSE mark come first; a BURST notice declares after. -/
theorem recordFramePlaced : Obligations.RecordFramePlaced := by
  intro frame body s hr hup hf
  obtain ⟨u, hu⟩ : ∃ u, u = (s.portHeard .far).setLink ((s.portHeard .far).link.recordPlaced body) := ⟨_, rfl⟩
  have hlink : u.link = (s.portHeard .far).link.recordPlaced body := by rw [hu]; rfl
  have harrive : portArrival .far frame s = if isBurstNotice body then chained u else u := by
    rw [portArrival_taken (p := .far) hup hf, hu]
    exact recordArrives_eq hup
  obtain ⟨hown, hfar⟩ := (s.portHeard .far).link.recordPlaced_kept body
  have hrun : u.run = s.run := by rw [hu]; rfl
  have hlanes : u.lanes = s.lanes := by rw [hu]; rfl
  have hsettings : SameSettings s u := by rw [hu]; exact ⟨rfl, rfl, rfl, rfl, rfl, rfl⟩
  have hnotice : burstNotice u .chained u.tracker.burstPressure u.tracker.pmax =
      burstNotice s .chained s.tracker.burstPressure s.tracker.pmax := by rw [hu]; rfl
  have hfill : u.link.fill = s.link.fill := by rw [Link.fill, hlink, hown]; rfl
  have hfarUp : u.link.far.state = .up := by rw [hlink, hfar]; exact hup
  obtain ⟨w, hw⟩ : ∃ w, w = if isBurstNotice body then chained u else u := ⟨_, rfl⟩
  have hkept : Undeclared u (settleCapture w) := by
    refine Undeclared.trans ?_ (settleCapture_steady w).undeclared
    rw [hw]
    split
    · exact chained_undeclared u
    · exact (Steady.refl u).undeclared
  have hother : isBurstNotice body = false ∨ s.run.state ≠ .run ∨ s.run.bypass = true → w = u := fun h => by
    rw [hw]
    split
    · next hb => exact chained_other (hrun ▸ h.resolve_left (by simp [hb]))
    · rfl
  have hburst : isBurstNotice body = true → w = chained u := fun h => by rw [hw, if_pos h]
  refine ⟨_, (exec_recordFrame_eq hr).trans (congrArg (fun x => Host.Outcome.next (settleCapture x)) (harrive.trans hw.symm)),
    fun h => ?placed, fun h => ?overflow, fun hfull h hp => ?pauses, fun h => ?quiet, fun hb hst hby => ?declared,
    hkept.lanes.trans hlanes, hsettings.trans hkept.toSameSettings⟩
  case placed => exact hkept.pass.trans (hlink ▸ Link.recordPlaced_pass h)
  case overflow =>
    obtain ⟨hpass, hcount⟩ := Link.recordPlaced_overflow (k := (s.portHeard .far).link) h
    exact ⟨hkept.pass.trans (hlink ▸ hpass), hkept.overflow.trans (hlink ▸ hcount)⟩
  case pauses =>
    obtain ⟨hpause, hmarks⟩ := Link.recordPlaced_pauses (k := (s.portHeard .far).link) hfull h hp
    rw [← hlink] at hpause hmarks
    refine ⟨hkept.farPause.trans hpause, ?_⟩
    split
    · next hdeclares =>
      obtain ⟨hb, hst, hby⟩ := hdeclares
      have hdeclared := (settled_chained (hrun ▸ hst) (hrun ▸ hby)).1.marks
      rw [hburst hb, hdeclared, hmarks, if_pos hfarUp]
      rfl
    · next hquiet =>
      rw [hother (by
        by_contra hno
        simp only [not_or, ne_eq, not_not, Bool.not_eq_false, Bool.not_eq_true] at hno
        exact hquiet hno), (settleCapture_steady u).marks, hmarks, List.append_nil]
      rfl
  case quiet => rw [hother h, (settleCapture_steady u).run, hrun]
  case declared =>
    obtain ⟨hdeclared, hnotices⟩ := settled_chained (hrun ▸ hst) (hrun ▸ hby)
    rw [hburst hb]
    refine ⟨hdeclared.cause, fun h => ?_⟩
    have hmore := hnotices (hfill ▸ h)
    rw [hnotice, hlink, hown] at hmore
    exact hmore

/-! ## FREEZE and RELEASE (R166, R170) -/

section
variable {s : State} {e : IntakeEntry} {rest : List IntakeEntry}

theorem exec_freeze_eq (h : Serves s e rest) (hk : TakenAs freezeKind e) :
    exec .freeze s = .next (orderEnd s e rest
      (firstReason [(s.run.bypass, .state), (!(s.run.state == .run), .state)])
      (settleCapture (declareBurst .aborted .manual (s.headTaken rest)))) :=
  congrArg Host.Outcome.next (executeOrder_eq h ((taken_iff _ _).2 hk))

theorem exec_release_eq (h : Serves s e rest) (hk : TakenAs releaseKind e) :
    exec .release s = .next (orderEnd s e rest
      (firstReason [(s.run.bypass, .state), (!(s.run.state == .frozen), .state)])
      (releaseRun (s.headTaken rest))) :=
  congrArg Host.Outcome.next (executeOrder_eq h ((taken_iff _ _).2 hk))

theorem orderEnd_state {t : State} {r : RunState} :
    orderEnd s e rest (firstReason [(s.run.bypass, .state), (!(s.run.state == r), .state)]) t =
      if s.run.bypass = true ∨ s.run.state ≠ r then refusedState s e rest .state else doneState e t := by
  rw [orderEnd_cons, orderEnd_cons, orderEnd_nil, ite_or]
  simp

end

/-- The capture unit once RELEASE has stopped a dump. -/
theorem stopDump_spec (s : State) :
    (stopDump s).capture.dump = none ∧ (stopDump s).capture.rings = s.capture.rings ∧
    (stopDump s).capture.memory = s.capture.memory ∧ (stopDump s).capture.segments = s.capture.segments := by
  unfold stopDump
  cases hd : s.capture.dump with
  | none => exact ⟨hd, rfl, rfl, rfl⟩
  | some d =>
    have hnotice : ∀ (x : NoticeBody) (t : State), (notify x t).capture = t.capture :=
      notify_same ⟨fun _ _ => rfl⟩
    simp only [endDump, State.setCapture_capture, hd, hnotice, and_self]

theorem stopDump_own {s : State} {d : Dump} (hd : s.capture.dump = some d) (hb : s.run.bypass = false)
    (hfill : s.link.fill + 2 ≤ 4096) :
    (stopDump s).link.own = s.link.own ++
      [.notice { part := s.run.address, tick := s.timebase.counter, body := .dump d.sent d.damaged true }] := by
  simp only [stopDump, endDump, State.setCapture_capture, hd]
  exact notify_own (s := (s.setCapture _).setCapture _) hb hfill

theorem stopDump_idle {s : State} (hd : s.capture.dump = none) : stopDump s = s := by
  unfold stopDump
  rw [hd]

/-- What RELEASE leaves of every block that it does not change. -/
theorem releaseRun_same {α : Type} {g : State → α} (h : BlindCapture g) (hr : ∀ s x, g (s.setRun x) = g s) (s : State) :
    g (releaseRun s) = g s := (hr _ _).trans (stopDump_same h s)

theorem releaseRun_run (s : State) :
    (releaseRun s).run = { s.run with state := .idle, cause := none, burstTick := none } := by
  have hrun : (stopDump s).run = s.run := stopDump_same ⟨⟨fun _ _ => rfl⟩, fun _ _ => rfl⟩ s
  show { (stopDump s).run with state := .idle, cause := none, burstTick := none } = _
  rw [hrun]

/-- Settles O36: FREEZE is a declaration with cause MANUAL; RELEASE stops the dump and then changes run control alone. -/
theorem freezeAndRelease : Obligations.FreezeAndRelease := by
  refine ⟨fun s e rest h hk => ⟨fun hc => ?refuseFreeze, fun hb hst => ?freeze⟩,
    fun s e rest h hk => ⟨fun hc => ?refuseRelease, fun hb hst => ?release⟩⟩
  case refuseFreeze => rw [exec_freeze_eq h hk, orderEnd_state, if_pos hc]
  case refuseRelease => rw [exec_release_eq h hk, orderEnd_state, if_pos hc]
  case freeze =>
    have hst' : (s.headTaken rest).run.state = .run := hst
    have hdeclared := settled_declared hst' .aborted .manual
    have hsettle := settleCapture_steady (declareBurst .aborted .manual (s.headTaken rest))
    refine ⟨_, by rw [exec_freeze_eq h hk, orderEnd_state, if_neg (by simp [hb, hst])], hdeclared.cause, hdeclared.tick,
      fun hspan => ⟨?tailing, ?timer⟩, fun hspan => ⟨?frozen, ?stopped⟩, hdeclared.disarmed, hdeclared.boundary,
      hdeclared.test, hdeclared.marks, fun hfill => hsettle.own_more (declareBurst_own hst' .aborted .manual hb hfill),
      hsettle.lanes.trans (declareBurst_lanes hst' _ _), ?settings⟩
    case tailing => exact hdeclared.state.trans (if_neg hspan)
    case timer => exact hdeclared.timer.trans (if_neg hspan)
    case frozen => exact hdeclared.state.trans (if_pos hspan)
    case stopped => exact hdeclared.timer.trans (if_pos hspan)
    case settings =>
      exact { (declareBurst_settings hst' .aborted .manual).trans hsettle.toSameSettings with }
  case release =>
    obtain ⟨hdump, hrings, hmemory, hsegments⟩ := stopDump_spec (s.headTaken rest)
    refine ⟨releaseRun (s.headTaken rest), by rw [exec_release_eq h hk, orderEnd_state, if_neg (by simp [hb, hst])], releaseRun_run _, hdump,
      fun d hd hfill => stopDump_own (s := s.headTaken rest) hd hb hfill,
      fun hd => ?quiet, hrings, hmemory, hsegments, ?_, ?_, ?_, ?_, ?_,
      ?_, ?_, ?settings⟩
    case quiet =>
      show (stopDump (s.headTaken rest)).link = _
      rw [stopDump_idle (s := s.headTaken rest) hd]
    case settings =>
      constructor <;> exact releaseRun_same ⟨⟨fun _ _ => rfl⟩, fun _ _ => rfl⟩ (fun _ _ => rfl) (s.headTaken rest)
    all_goals exact releaseRun_same ⟨⟨fun _ _ => rfl⟩, fun _ _ => rfl⟩ (fun _ _ => rfl) (s.headTaken rest)

end Sys2Proof.Machine
end

section
/-! Departures from the live set: what a detector's entry into OFF does with its hit, the hand-off, the early seal and the loss of a
lane's channels (O11). -/

namespace Sys2Proof.Machine

/-! ## Detector states -/

theorem live_iff (d : Detector) : d.live = true ↔ d.state ≠ .off := by simp [Detector.live]

theorem listening_iff (s : State) : s.listening = true ↔ s.pulse.test ≠ .none ∧ s.run.state = .idle := by
  rw [State.listening, Bool.and_eq_true, inFlight_iff, beq_iff_eq]

/-- A detector that may switch takes the pending bank (R41). -/
theorem applyPending_switches {c : Fin 32} {s : State} (h : s.detectors[c].state.mayswitch = true) :
    applyPending c s = s.setChannel c { s.channels[c] with active := s.channels[c].pending } := if_pos h

theorem enterState_switches {c : Fin 32} {x : DetState} (h : x.mayswitch = true) (s : State) :
    enterState c x s = (s.setDetector c { s.detectors[c] with state := x }).setChannel c
      { s.channels[c] with active := s.channels[c].pending } := by
  unfold enterState
  rw [applyPending_switches]
  · rfl
  · rw [State.setDetector_get, if_pos rfl]
    exact h

theorem enterOff_eq (c : Fin 32) (s : State) :
    enterOff c s = (s.setDetector c s.detectors[c].switchedOff).setChannel c
      { s.channels[c] with active := s.channels[c].pending } := by
  unfold enterOff
  rw [applyPending_switches]
  · rfl
  · rw [State.setDetector_get, if_pos rfl]
    rfl

theorem Detector.switchedOff_eq (d : Detector) :
    d.switchedOff =
      { state := .off, feed := none
        horizon := match d.feed with
          | some f => some (f.stamp + 15)
          | none => d.horizon } := by
  unfold Detector.switchedOff
  cases d.feed <;> rfl

section
variable {c : Fin 32} {s : State} {cause : CloseCause}

theorem detectorOff_off (pres : Presenter) (h : s.detectors[c].state = .off) : detectorOff pres cause c s = s := by
  simp only [detectorOff, h]

theorem detectorOff_quiet (pres : Presenter) (h : s.detectors[c].state = .quiet ∨ ∃ e, s.detectors[c].state = .rearm e) :
    detectorOff pres cause c s = enterOff c s := by
  rcases h with h | ⟨e, h⟩ <;> simp only [detectorOff, h]

theorem detectorOff_opened (pres : Presenter) {h : OpenHit} (ho : s.detectors[c].state = .opened h) :
    detectorOff pres cause c s = handOff pres c (hitRecord s c h cause) (enterOff c s) := by
  simp only [detectorOff, ho]

end

/-! ## Hand-off (R76) -/

theorem CloseCause.seals_iff (k : CloseCause) : k.seals = true ↔ k = .skip ∨ k = .lost := by
  cases k <;> simp [CloseCause.seals]

/-- The capture unit as a hit's hand-off leaves it. -/
def sealed (c : Fin 32) (r : HitRecord) (s : State) : State :=
  if r.cause = .skip ∨ r.cause = .lost then sealChannel c s else s

theorem handOff_eq (pres : Presenter) (c : Fin 32) (r : HitRecord) (s : State) :
    handOff pres c r s =
      if (offerToTest pres r (sealed c r s)).2 then releaseHit pres r (offerToTest pres r (sealed c r s)).1
      else (offerToTest pres r (sealed c r s)).1 := by
  unfold handOff sealed
  simp only [CloseCause.seals_iff]

theorem sealed_same {α : Type} {g : State → α} (h : BlindCapture g) (c : Fin 32) (r : HitRecord) (s : State) :
    g (sealed c r s) = g s := by
  unfold sealed
  split
  · exact sealChannel_same h c s
  · rfl

theorem releaseHit_eq (pres : Presenter) (r : HitRecord) (s : State) :
    releaseHit pres r s = if s.run.state = .run ∨ s.run.state = .tailing then pres r s else s := by
  unfold releaseHit
  simp only [measuring_iff]

theorem offerToTest_none (pres : Presenter) (r : HitRecord) {s : State} (h : s.pulse.test = .none) :
    offerToTest pres r s = (s, true) := by
  simp only [offerToTest, h]

/-- A hit that is handed back has changed nothing. -/
theorem offerToTest_back (pres : Presenter) (r : HitRecord) (s : State) (h : (offerToTest pres r s).2 = true) :
    (offerToTest pres r s).1 = s := by
  unfold offerToTest at h ⊢
  cases ht : s.pulse.test with
  | none => rfl
  | waiting i n =>
    rw [ht] at h
    dsimp only at h ⊢
    split at h
    · next he => rw [if_pos he]
    · exact absurd h Bool.false_ne_true
  | window i f =>
    rw [ht] at h
    dsimp only at h ⊢
    split at h
    · exact absurd h Bool.false_ne_true
    · next he => rw [if_neg he]

theorem handOff_untested (pres : Presenter) (c : Fin 32) (r : HitRecord) {s : State} (h : s.pulse.test = .none) :
    handOff pres c r s = releaseHit pres r (sealed c r s) := by
  have hseal : (sealed c r s).pulse.test = .none :=
    (sealed_same (g := fun t => t.pulse.test) ⟨⟨fun _ _ => rfl⟩, fun _ _ => rfl⟩ c r s).trans h
  rw [handOff_eq, offerToTest_none pres r hseal, if_pos rfl]

theorem handOff_offered (pres : Presenter) (c : Fin 32) (r : HitRecord) (s : State) :
    handOff pres c r s =
      if (offerToTest pres r (sealed c r s)).2 then releaseHit pres r (sealed c r s)
      else (offerToTest pres r (sealed c r s)).1 := by
  rw [handOff_eq]
  split
  · next hback => rw [offerToTest_back _ _ _ hback]
  · rfl

/-! ## The saturation report (R35) -/

theorem watches_iff (t : Tracker) (h : HitRecord) :
    t.watches h = true ↔ h.sat = true ∧ t.armed = true ∧ t.phase = .nogauge := by
  rw [Tracker.watches, Bool.and_eq_true, Bool.and_eq_true, beq_iff_eq, and_assoc]

theorem reportEntry_eq (l : Vector (Option Tick) 32) (h : HitRecord) :
    reportEntry l h =
      if (l[h.sensor]).any (fun e => earlier h.arrival e) then l else put l h.sensor (some h.arrival) := by
  unfold reportEntry
  cases l[h.sensor] with
  | none => rfl
  | some e => rfl

theorem placeHit_tracker (h : HitRecord) (s : State) : (placeHit h s).tracker = s.tracker :=
  placeHit_same ⟨⟨⟨fun _ _ => rfl⟩, fun _ _ => rfl⟩, fun _ _ => rfl⟩ h s

theorem presentQuietly_watched {h : HitRecord} {s : State} (hw : s.tracker.watches h = true) :
    presentQuietly h s = (placeHit h s).setTracker { s.tracker with satList := reportEntry s.tracker.satList h } := by
  unfold presentQuietly reportSaturation
  rw [placeHit_tracker, if_pos hw]

theorem presentQuietly_unwatched {h : HitRecord} {s : State} (hw : ¬ s.tracker.watches h = true) :
    presentQuietly h s = placeHit h s := by
  unfold presentQuietly reportSaturation
  rw [placeHit_tracker, if_neg hw]

/-! ## The early seal (R139) -/

theorem isFilling_iff (s : State) (c : Fin 32) (i : Fin 64) :
    isFilling s c i = true ↔ ∃ g, s.capture.segments[i] = some g ∧ g.channel = c ∧ g.stage = .filling := by
  unfold isFilling
  cases s.capture.segments[i] with
  | none => simp
  | some g => simp

theorem fillingOf_eq_none {c : Fin 32} {s : State}
    (h : ∀ i : Fin 64, ¬ ∃ g, s.capture.segments[i] = some g ∧ g.channel = c ∧ g.stage = .filling) : fillingOf s c = none :=
  List.find?_eq_none.2 fun i _ hi => h i ((isFilling_iff s c i).1 hi)

theorem fillingOf_eq_some {c : Fin 32} {s : State} {i : Fin 64}
    (hi : ∃ g, s.capture.segments[i] = some g ∧ g.channel = c ∧ g.stage = .filling)
    (hall : ∀ j : Fin 64, (∃ g, s.capture.segments[j] = some g ∧ g.channel = c ∧ g.stage = .filling) → j = i) :
    fillingOf s c = some i := by
  have hsome : (fillingOf s c).isSome = true :=
    List.find?_isSome.2 ⟨i, List.mem_finRange i, (isFilling_iff s c i).2 hi⟩
  obtain ⟨j, hj⟩ := Option.isSome_iff_exists.1 hsome
  rw [hj, hall j ((isFilling_iff s c j).1 (List.find?_some hj))]

theorem sealChannel_none {c : Fin 32} {s : State} (h : fillingOf s c = none) : sealChannel c s = s := by
  unfold sealChannel
  rw [h]

theorem sealChannel_some {c : Fin 32} {s : State} {i : Fin 64} {g : Segment} (h : fillingOf s c = some i)
    (hg : s.capture.segments[i] = some g) : sealChannel c s = keepOrEnd i { g with stage := .sealed } s := by
  unfold sealChannel
  rw [h]
  dsimp only
  rw [hg]

theorem keepOrEnd_keeps_segment {i : Fin 64} {g : Segment} {s : State} (h : g.lost = [] ∨ g.unread ≠ []) :
    keepOrEnd i g s = s.setSegment i (some g) :=
  if_neg fun hc => h.elim hc.2.1 (fun hu => hu hc.2.2)

theorem keepOrEnd_ends {i : Fin 64} {g : Segment} {s : State} (hs : g.stage ≠ .filling) (hl : g.lost ≠ [])
    (hu : g.unread = []) : keepOrEnd i g s = endSegment i g true g.damaged s := if_pos ⟨hs, hl, hu⟩

theorem endSegment_segments (i : Fin 64) (g : Segment) (l d : Bool) (s : State) :
    (endSegment i g l d s).capture.segments = put s.capture.segments i none := by
  have hoffer : (offer (.trace (closingTrace s.run.address i g l d)) false s).capture = s.capture :=
    offer_same ⟨fun _ _ => rfl⟩ _ _ s
  show put (offer _ false s).capture.segments i none = _
  rw [hoffer]

/-! ## A lane's channels leave (R5, R9) -/

theorem sourceLane_eq_some_iff (s : State) (l : Fin 4) :
    s.pulse.test.sourceLane = some l ↔ ∃ i fire, InFlight s i fire ∧ laneOf i.channel = l := by
  unfold InFlight
  cases s.pulse.test with
  | none => simp [TestState.sourceLane]
  | waiting i n => simp [TestState.sourceLane]
  | window i f => simp [TestState.sourceLane]

theorem forEach_channelsOf (l : Fin 4) (f : Fin 32 → State → State) (s : State) :
    forEach (channelsOf l) f s = (List.finRange 8).foldl (fun u j => f (channelOf l j) u) s := by
  rw [forEach, channelsOf, List.foldl_map]

theorem podLost_other {l : Fin 4} {s : State} (h : s.pulse.test.sourceLane ≠ some l) :
    podLost l s = forEach (channelsOf l) (channelLost false) s := by
  have hown : (s.pulse.test.sourceLane == some l) = false := beq_false_of_ne h
  simp only [podLost, hown, Bool.false_eq_true, if_false]

theorem podLost_source {l : Fin 4} {s : State} (h : s.pulse.test.sourceLane = some l) :
    podLost l s = endTest (presentWith .laneLost) .made .laneLost (forEach (channelsOf l) (channelLost true) s) := by
  have hown : (s.pulse.test.sourceLane == some l) = true := beq_iff_eq.2 h
  simp only [podLost, hown, if_true]

/-- Settles O11: each operation is read once, case by case. -/
theorem departuresCloseHits : Obligations.DeparturesCloseHits := by
  refine ⟨fun c h cause s hc => ?record, fun pres cause c s => ?off, fun pres c r s => ?handed, fun h s => ?quietly,
    fun c s => ?early, fun own c s => ?lost, fun l s => ?lane⟩
  case record =>
    have hduration : h.duration s.channels[c].banks[h.bank] cause = (h.lastAbove - h.arrival).toNat + 1 := by
      rcases hc with rfl | rfl | rfl <;> rfl
    rw [hitRecord, hduration]
    cases h.capture <;> simp [CaptureAnswer.isNocap, CaptureAnswer.isShared, CaptureAnswer.segment?, ticksFrom]
  case off =>
    intro d u
    have hu : enterOff c s = u := (enterOff_eq c s).trans (congrArg
      (fun x => (s.setDetector c x).setChannel c { s.channels[c] with active := s.channels[c].pending }) d.switchedOff_eq)
    exact ⟨detectorOff_off pres, fun h => (detectorOff_quiet pres h).trans hu,
      fun h ho => (detectorOff_opened pres ho).trans (congrArg (handOff pres c (hitRecord s c h cause)) hu)⟩
  case handed =>
    intro u presented
    have hpresented : releaseHit pres r (sealed c r s) = presented := releaseHit_eq pres r _
    exact ⟨fun h => (handOff_untested pres c r h).trans hpresented,
      fun _ => (handOff_offered pres c r s).trans (by rw [hpresented]; rfl)⟩
  case quietly =>
    intro watched old
    by_cases hw : s.tracker.watches h = true
    · rw [if_pos ((watches_iff _ _).1 hw), presentQuietly_watched hw, reportEntry_eq]
    · rw [if_neg fun h' => hw ((watches_iff _ _).2 h'), presentQuietly_unwatched hw]
  case early =>
    intro mine
    refine ⟨fun h => sealChannel_none (fillingOf_eq_none h), fun i g hg hi hall => ?_⟩
    have hseal := sealChannel_some (fillingOf_eq_some hi hall) hg
    refine ⟨fun hk => hseal.trans (keepOrEnd_keeps_segment hk), fun hl hu => ?_⟩
    rw [hseal, keepOrEnd_ends (g := { g with stage := .sealed }) (nomatch ·) hl hu]
    exact ⟨endSegment_segments _ _ _ _ _, rfl⟩
  case lost =>
    intro a b
    unfold channelLost
    simp only [live_iff, ite_not]
    rfl
  case lane =>
    intro gone
    have hgone : ∀ own, forEach (channelsOf l) (channelLost own) s = gone own := fun own => forEach_channelsOf _ _ _
    refine ⟨fun h => (podLost_other fun hs => ?_).trans (hgone false), fun i fire hf hl => ?_⟩
    · obtain ⟨i, fire, hf, hl⟩ := (sourceLane_eq_some_iff s l).1 hs
      exact h i fire hf hl
    · rw [podLost_source ((sourceLane_eq_some_iff s l).2 ⟨i, fire, hf, hl⟩), hgone]

end Sys2Proof.Machine
end

section
/-! What a lane hands on when it leaves UP: the effects of a phase change, the loss of a POD lane's detectors; and the signal
changes that bring it (O6). -/

namespace Sys2Proof.Machine

/-! ## Phase changes (R28, R31) -/

theorem notify_only (x : NoticeBody) (s : State) : notify x s = s.setLink (notify x s).link := by
  unfold notify offer
  split <;> rfl

/-- The cells after an entry into a phase. -/
def State.phaseCells (s : State) (new : Phase) : Vector Cell 1024 :=
  if new = .hold ∧ s.run.state = .run then mapTable (fun c => { c with holdCount := 0 }) s.cells.cells else s.cells.cells

theorem holdEntered_eq (s : State) (new : Phase) :
    (if new = .hold then holdEntered s else s) = s.setCells { s.cells with cells := s.phaseCells new } := by
  unfold holdEntered State.phaseCells
  by_cases hn : new = .hold
  · rw [if_pos hn]
    split
    · next hr => rw [if_pos ⟨hn, hr⟩]
    · next hr =>
      rw [if_neg fun h => hr h.2]
      rfl
  · rw [if_neg hn, if_neg fun h => hn h.1]
    rfl

theorem phaseCells_get (s : State) (new : Phase) (n : Fin 1024) :
    (s.phaseCells new)[n] =
      if new = .hold ∧ s.run.state = .run then { s.cells.cells[n] with holdCount := 0 } else s.cells.cells[n] := by
  unfold State.phaseCells
  split
  · exact mapTable_get _ _ _
  · rfl

theorem followPhase_eq (s : State) : followPhase s = s.setChannels (followPhase s).channels := followPhase_only s

/-- The PHASE notice of a change. -/
def phaseNotice (old new : Phase) (s : State) : NoticeBody :=
  .phase old new (if new = .nogauge then none else s.tracker.pressure) s.tracker.pmax

/-- A phase change touches the record link, the channels and the cells alone. -/
theorem phaseEffects_eq (old new : Phase) (s : State) :
    phaseEffects old new s = ((s.setLink (notify (phaseNotice old new s) s).link).setChannels
      (followPhase (notify (phaseNotice old new s) s)).channels).setCells
        { s.cells with cells := s.phaseCells new } := by
  have hnotice (v : Vector Channel 32) : (notify (phaseNotice old new s) s).setChannels v =
      (s.setLink (notify (phaseNotice old new s) s).link).setChannels v := congrArg (·.setChannels v) (notify_only _ s)
  have hcells : ∀ (k : Link) (v : Vector Channel 32) (t : State), t = (s.setLink k).setChannels v →
      t.setCells { t.cells with cells := t.phaseCells new } =
        ((s.setLink k).setChannels v).setCells { s.cells with cells := s.phaseCells new } := by
    rintro k v _ rfl
    rfl
  exact (holdEntered_eq _ new).trans (hcells _ _ _ ((followPhase_eq _).trans (hnotice _)))

section
variable (old new : Phase) (s : State)

theorem phaseEffects_link : (phaseEffects old new s).link = (notify (phaseNotice old new s) s).link := by
  rw [phaseEffects_eq]
  rfl

theorem phaseEffects_tracker : (phaseEffects old new s).tracker = s.tracker := by
  rw [phaseEffects_eq, State.setCells_tracker, State.setChannels_tracker, State.setLink_tracker]

theorem phaseEffects_cellUnit : (phaseEffects old new s).cells = { s.cells with cells := s.phaseCells new } :=
  (congrArg State.cells (phaseEffects_eq old new s)).trans rfl

theorem phaseEffects_cells (n : Fin 1024) :
    (phaseEffects old new s).cells.cells[n] =
      if new = .hold ∧ s.run.state = .run then { s.cells.cells[n] with holdCount := 0 } else s.cells.cells[n] := by
  rw [phaseEffects_cellUnit]
  exact phaseCells_get s new n

theorem phaseEffects_boundary : (phaseEffects old new s).cells.boundary = s.cells.boundary := by
  rw [phaseEffects_eq]
  rfl

theorem phaseEffects_channels (c : Fin 32) :
    (phaseEffects old new s).channels[c] =
      if s.channels[c].follow then s.channels[c].taking s.phaseBank s.detectors[c].state else s.channels[c] := by
  have hstart : ∀ (k : Link) (t : State), t = s.setLink k →
      (if t.channels[c].follow then t.channels[c].taking t.phaseBank t.detectors[c].state else t.channels[c]) =
        if s.channels[c].follow then s.channels[c].taking s.phaseBank s.detectors[c].state else s.channels[c] := by
    rintro k _ rfl
    rfl
  rw [phaseEffects_eq, State.setCells_channels, State.setChannels_channels]
  exact (followPhase_channels _ c).trans (hstart _ _ (notify_only _ s))

end

theorem gaugeGone_eq (s : State) :
    gaugeGone s = if s.tracker.phase = .nogauge then s.setTracker s.tracker.nogauge
      else phaseEffects s.tracker.phase .nogauge (s.setTracker s.tracker.nogauge) := rfl

theorem gaugeGone_tracker (s : State) : (gaugeGone s).tracker = s.tracker.nogauge := by
  rw [gaugeGone_eq]
  split
  · rfl
  · exact phaseEffects_tracker _ _ _

/-! ## A detector that is OFF (R54) -/

/-- What the units do, and a declaration, leaves a detector alone that is OFF. -/
theorem offDetector_units {c : Fin 32} {d : Detector} (hd : d.state = .off) :
    KeepsUnits (fun s => s.detectors[c] = d) :=
  { KeepsBlocks.toKeepsWork {} fun _ _ h => h with
    off := fun s b hb h => by
      rw [State.setDetector_get, if_neg ?_]
      · exact h
      · rintro rfl
        exact hb ((congrArg Detector.state h).trans hd) }

theorem offDetector_declare {c : Fin 32} {d : Detector} (hd : d.state = .off) :
    KeepsDeclare (fun s => s.detectors[c] = d) :=
  { offDetector_units hd with declare := declareBurst_keeps (offDetector_units hd) fun _ _ _ h => h }

/-- The detector once it has left the live set. -/
def Detector.departed (d : Detector) : Detector := if d.state = .off then d else d.switchedOff

theorem Detector.departed_off (d : Detector) : d.departed.state = .off := by
  unfold Detector.departed
  split
  · assumption
  · rfl

theorem enterOff_detector (c : Fin 32) (s : State) : (enterOff c s).detectors[c] = s.detectors[c].switchedOff := by
  rw [enterOff_eq]
  exact (State.setDetector_get s c c _).trans (if_pos rfl)

theorem detectorOff_detector {pres : Presenter} {c : Fin 32} {s : State} (k : CloseCause)
    (hp : ∀ x t, t.detectors[c] = s.detectors[c].switchedOff → (pres x t).detectors[c] = s.detectors[c].switchedOff) :
    (detectorOff pres k c s).detectors[c] = s.detectors[c].departed := by
  unfold Detector.departed
  by_cases hoff : s.detectors[c].state = .off
  · rw [detectorOff_off pres hoff, if_pos hoff]
  · rw [if_neg hoff]
    cases hs : s.detectors[c].state with
    | off => exact absurd hs hoff
    | quiet => exact (congrArg (·.detectors[c]) (detectorOff_quiet pres (.inl hs))).trans (enterOff_detector c s)
    | rearm e => exact (congrArg (·.detectors[c]) (detectorOff_quiet pres (.inr ⟨e, hs⟩))).trans (enterOff_detector c s)
    | opened h =>
      rw [detectorOff_opened pres hs]
      exact handOff_keeps (P := fun t => t.detectors[c] = s.detectors[c].switchedOff)
        (offDetector_units (d := s.detectors[c].switchedOff) rfl).toKeepsBlocks hp c _ _ (enterOff_detector c s)

theorem detectorOff_present (k : CloseCause) (c : Fin 32) (s : State) :
    (detectorOff present k c s).detectors[c] = s.detectors[c].departed :=
  detectorOff_detector k fun x t => present_keeps (offDetector_declare (d := s.detectors[c].switchedOff) rfl) x t

theorem detectorOff_quietly (k : CloseCause) (c : Fin 32) (s : State) :
    (detectorOff presentQuietly k c s).detectors[c] = s.detectors[c].departed :=
  detectorOff_detector k fun x t =>
    presentQuietly_keeps (offDetector_units (d := s.detectors[c].switchedOff) rfl).toKeepsWork x t

/-! ## The loss of a lane's channels (R5, R9) -/

theorem offTests_keeps {P : State → Prop} (h : KeepsDeclare P) (own : Bool) (s : State) (hs : P s) : P (offTests own s) := by
  unfold offTests
  split
  · exact closeTest_keeps h.toKeepsBlocks s hs
  · exact unitTests_keeps h s hs

theorem channelLost_detector (own : Bool) (c : Fin 32) (s : State) :
    (channelLost own c s).detectors[c] = { s.detectors[c].departed with horizon := none } := by
  have hoff : ({ s.detectors[c].departed with horizon := none } : Detector).state = .off := Detector.departed_off _
  have hset : ((detectorOff present .lost c s).setDetector c
      { (detectorOff present .lost c s).detectors[c] with horizon := none }).detectors[c] =
      { s.detectors[c].departed with horizon := none } := by
    rw [State.setDetector_get, if_pos rfl, detectorOff_present]
  have hseal := sealChannel_keeps (offDetector_units hoff).toKeepsBlocks c _ hset
  unfold channelLost
  dsimp only
  split
  · exact offTests_keeps (offDetector_declare hoff) own _ hseal
  · exact hseal

/-- The channel has left the live set with its lane. -/
def LostChannel (c : Fin 32) (s : State) : Prop := s.detectors[c].state = .off ∧ s.detectors[c].horizon = none

theorem channelLost_lost (own : Bool) (c : Fin 32) (s : State) : LostChannel c (channelLost own c s) := by
  unfold LostChannel
  rw [channelLost_detector]
  exact ⟨Detector.departed_off _, rfl⟩

/-- Work that leaves a detector which is OFF as it is leaves a lost channel lost. -/
theorem LostChannel.of_same {c : Fin 32} {s t : State} (h : LostChannel c s)
    (hk : t.detectors[c] = s.detectors[c]) : LostChannel c t := by
  unfold LostChannel
  rw [hk]
  exact h

theorem channelLost_keeps_lost (own : Bool) (b c : Fin 32) (s : State) (h : LostChannel c s) :
    LostChannel c (channelLost own b s) := by
  by_cases hb : c = b
  · exact hb ▸ channelLost_lost own c s
  · have hk := offDetector_declare (c := c) h.1
    have hset : ((detectorOff present .lost b s).setDetector b
        { (detectorOff present .lost b s).detectors[b] with horizon := none }).detectors[c] = s.detectors[c] := by
      rw [State.setDetector_get, if_neg hb]
      exact detectorOff_keeps hk.toKeepsTests (fun x t => present_keeps hk x t) .lost b s rfl
    have hseal := sealChannel_keeps hk.toKeepsBlocks b _ hset
    refine h.of_same ?_
    unfold channelLost
    dsimp only
    split
    · exact offTests_keeps hk own _ hseal
    · exact hseal

/-- What each step makes so for its own thing, and keeps for every other, is so for all things in the end. -/
theorem forEach_establishes {α : Type} {Q : α → State → Prop} {f : α → State → State} (hset : ∀ a t, Q a (f a t))
    (hkeep : ∀ a b t, Q a t → Q a (f b t)) (l : List α) (s : State) : ∀ a ∈ l, Q a (forEach l f s) := by
  induction l generalizing s with
  | nil => exact fun _ h => nomatch h
  | cons b l ih =>
    intro a ha
    rw [forEach_cons]
    rcases List.mem_cons.1 ha with rfl | ha
    · exact forEach_keeps (Q a) l f (fun b _ t => hkeep a b t) _ (hset a s)
    · exact ih _ a ha

theorem mem_channelsOf (l : Fin 4) (j : Fin 8) : channelOf l j ∈ channelsOf l :=
  List.mem_map_of_mem (List.mem_finRange j)

theorem podLost_lost (l : Fin 4) (s : State) (j : Fin 8) : LostChannel (channelOf l j) (podLost l s) := by
  have hall : ∀ own, LostChannel (channelOf l j) (forEach (channelsOf l) (channelLost own) s) := fun own =>
    forEach_establishes (Q := LostChannel) (channelLost_lost own) (fun c b t => channelLost_keeps_lost own b c t)
      (channelsOf l) s _ (mem_channelsOf l j)
  by_cases h : s.pulse.test.sourceLane = some l
  · rw [podLost_source h]
    have hk := offDetector_declare (c := channelOf l j) (hall true).1
    exact (hall true).of_same
      (endTest_keeps hk.toKeepsTests (fun x t => presentWith_keeps hk .laneLost x t) .made .laneLost _ rfl)
  · rw [podLost_other h]
    exact hall false

/-! ## Leaving UP -/

theorem put_put {α : Type} {n : Nat} (v : Vector α n) (i : Fin n) (x y : α) : put (put v i x) i y = put v i y := by
  simp [put]

theorem State.setLane_setLane (s : State) (l : Fin 4) (x y : Lane) : (s.setLane l x).setLane l y = s.setLane l y :=
  congrArg s.setLanes (put_put _ _ _ _)

/-- A lane that has lost what it was aligned to. -/
def Lane.lostTo (x : Lane) (state : LaneState) : Lane := { x.cleared with state := state }

theorem laneLeft_lanes (l : Fin 4) (r : LaneRole) (s : State) : (laneLeft l r s).lanes = s.lanes :=
  laneLeft_same ⟨fun _ _ => rfl, fun _ _ => rfl, fun _ _ => rfl, fun _ _ => rfl, fun _ _ => rfl, fun _ _ => rfl,
    fun _ _ => rfl, fun _ _ => rfl, fun _ _ => rfl⟩ l r s

theorem notify_lanes (x : NoticeBody) (s : State) : (notify x s).lanes = s.lanes := notify_same ⟨fun _ _ => rfl⟩ x s

theorem settleCapture_lanes (s : State) : (settleCapture s).lanes = s.lanes := (settleCapture_steady s).lanes

theorem laneDown_up {l : Fin 4} {s : State} (cause : LaneCause) (h : s.lanes[l].state = .up) :
    laneDown l cause s = laneLeft l s.lanes[l].role
      (notify (.lane l .up .down cause) (s.setLane l (s.lanes[l].lostTo .down))) := by
  unfold laneDown
  dsimp only
  rw [if_pos h, h]
  rfl

theorem laneDown_lanes (l : Fin 4) (cause : LaneCause) (s : State) :
    (laneDown l cause s).lanes = put s.lanes l (s.lanes[l].lostTo .down) := by
  unfold laneDown
  dsimp only
  split
  · rw [laneLeft_lanes, notify_lanes]
    rfl
  · rw [notify_lanes]
    rfl

section
variable {l : Fin 4} {s : State}

theorem exec_signalDetect_eq (hr : s.running = true) :
    exec (.signalDetect l) s = .next (tryAlign l (s.setLane l { s.lanes[l] with signal := true })) :=
  congrArg Host.Outcome.next (if_pos hr)

theorem exec_lossOfSignal_eq (hr : s.running = true) :
    exec (.lossOfSignal l) s = .next (settleCapture (laneSignalLost l s)) :=
  congrArg Host.Outcome.next (if_pos hr)

/-- The lane whose signal is gone. -/
def State.signalGone (s : State) (l : Fin 4) : State := s.setLane l { s.lanes[l] with signal := false }

theorem laneSignalLost_idle (h : s.lanes[l].state = .off ∨ s.lanes[l].state = .down) :
    laneSignalLost l s = s.signalGone l := by
  rcases h with h | h <;> simp only [laneSignalLost, h, State.signalGone]

theorem laneSignalLost_aligned (h : s.lanes[l].state = .aligning ∨ s.lanes[l].state = .up) :
    laneSignalLost l s = laneDown l .noSignal (s.signalGone l) := by
  rcases h with h | h <;> simp only [laneSignalLost, h, State.signalGone]

theorem signalGone_lane : (s.signalGone l).lanes[l] = { s.lanes[l] with signal := false } := by
  rw [State.signalGone, State.setLane_get, if_pos rfl]

end

/-- The lanes but for one are as they were. -/
theorem put_others {v w : Vector Lane 4} {l : Fin 4} {x : Lane} (h : w = put v l x) :
    w[l] = x ∧ ∀ k : Fin 4, k ≠ l → w[k] = v[k] := by
  subst h
  exact ⟨put_same v l x, fun k hk => put_other v l k x hk⟩

theorem settledLoss_settings (l : Fin 4) (s : State) : SameSettings s (settleCapture (laneSignalLost l s)) := by
  refine SameSettings.trans ?_ (settleCapture_steady _).toSameSettings
  constructor <;> exact laneSignalLost_same
    ⟨⟨fun _ _ => rfl, fun _ _ => rfl, fun _ _ => rfl, fun _ _ => rfl, fun _ _ => rfl, fun _ _ => rfl,
      fun _ _ => rfl, fun _ _ => rfl, fun _ _ => rfl⟩, fun _ _ => rfl⟩ l s

/-- Settles O6: a lane in UP goes DOWN first and then hands on what it loses. -/
theorem laneSignalChanges : Obligations.LaneSignalChanges := by
  refine ⟨fun l s hr => ⟨fun h => ?detected, fun h => ?seen⟩, fun l s hr => ?lost⟩
  case detected =>
    rw [exec_signalDetect_eq hr, tryAlign]
    have hlane : (s.setLane l { s.lanes[l] with signal := true }).lanes[l] = { s.lanes[l] with signal := true } := by
      rw [State.setLane_get, if_pos rfl]
    dsimp only
    rw [hlane, if_pos ⟨h, rfl⟩, State.setLane_setLane]
  case seen =>
    rw [exec_signalDetect_eq hr, tryAlign]
    have hlane : (s.setLane l { s.lanes[l] with signal := true }).lanes[l] = { s.lanes[l] with signal := true } := by
      rw [State.setLane_get, if_pos rfl]
    dsimp only
    rw [hlane, if_neg fun hc => h hc.1]
  case lost =>
    have hlost : s.lanes[l].state = .aligning ∨ s.lanes[l].state = .up →
        (laneSignalLost l s).lanes = put s.lanes l
          { s.lanes[l] with
            signal := false, state := .down, alignCount := 0, prevSeq := none, expSeq := none, expTick := none,
            failures := 0 } := fun h => by
      rw [laneSignalLost_aligned h, laneDown_lanes, signalGone_lane]
      exact put_put _ _ _ _
    have hidle : s.lanes[l].state = .off ∨ s.lanes[l].state = .down →
        (laneSignalLost l s).lanes = put s.lanes l { s.lanes[l] with signal := false } := fun h => by
      rw [laneSignalLost_idle h]
      rfl
    have hup : s.lanes[l].state = .up → laneSignalLost l s = laneLeft l s.lanes[l].role
        (notify (.lane l .up .down .noSignal) (s.setLane l
          { s.lanes[l] with
            signal := false, state := .down, alignCount := 0, prevSeq := none, expSeq := none, expTick := none,
            failures := 0 })) := fun h => by
      have hstate : (s.signalGone l).lanes[l].state = .up := by rw [signalGone_lane]; exact h
      rw [laneSignalLost_aligned (.inr h), laneDown_up _ hstate, signalGone_lane, State.signalGone, State.setLane_setLane]
      rfl
    have hkept : ∀ k : Fin 4, k ≠ l → (settleCapture (laneSignalLost l s)).lanes[k] = s.lanes[k] := fun k hk => by
      rw [settleCapture_lanes]
      cases hs : s.lanes[l].state with
      | off => exact (put_others (hidle (.inl hs))).2 k hk
      | down => exact (put_others (hidle (.inr hs))).2 k hk
      | aligning => exact (put_others (hlost (.inl hs))).2 k hk
      | up => exact (put_others (hlost (.inr hs))).2 k hk
    refine ⟨_, exec_lossOfSignal_eq hr, hkept, fun h => ?aligned, fun h => ?idle, fun h hrole => ?gauge,
      fun h hrole j => ?pod, fun h => ⟨fun hrole => ?podState, fun hrole => ?gaugeState⟩, settledLoss_settings l s⟩
    case aligned =>
      rw [settleCapture_lanes]
      exact (put_others (hlost h)).1
    case idle =>
      rw [settleCapture_lanes]
      exact (put_others (hidle h)).1
    case gauge =>
      have htracker : (laneSignalLost l s).tracker = s.tracker.nogauge := by
        rw [hup h, hrole]
        refine (gaugeGone_tracker _).trans ?_
        rw [notify_only]
        rfl
      have hsettle := settleCapture_steady (laneSignalLost l s)
      rw [hsettle.tracker, htracker]
      exact ⟨rfl, rfl, rfl, rfl, rfl, rfl⟩
    case pod =>
      have hgone : LostChannel (channelOf l j) (laneSignalLost l s) := by
        rw [hup h, hrole]
        exact podLost_lost l _ j
      exact hgone.of_same (settleCapture_keeps (offDetector_units (c := channelOf l j) hgone.1).toKeepsBlocks _ rfl)
    case podState => rw [hup h, hrole]; rfl
    case gaugeState => rw [hup h, hrole]; rfl

end Sys2Proof.Machine
end

section
/-! The lanes: SET-ROLE, and the frames that align a lane (O7, O33). -/

namespace Sys2Proof.Machine

/-! ## SET-ROLE (R3 to R5) -/

section
variable {s : State} {e : IntakeEntry} {rest : List IntakeEntry}

theorem exec_setRole_eq (h : Serves s e rest) (hk : TakenAs setRoleKind e) :
    exec .setRole s = .next (orderEnd s e rest
      (firstReason [(s.run.bypass, .state), ((roleChange e).isNone, .range), (roleConflict e s, .conflict)])
      (match roleChange e with
       | none => s.headTaken rest
       | some (l, r) => settleCapture (changeRole l r (s.headTaken rest)))) :=
  congrArg Host.Outcome.next (executeOrder_eq h ((taken_iff _ _).2 hk))

theorem roleOf_eq_none_iff (v : Nat) : roleOf v = none ↔ 2 < v := by
  match v with
  | 0 => simp [roleOf]
  | 1 => simp [roleOf]
  | 2 => simp [roleOf]
  | n + 3 => simp [roleOf]

theorem roleChange_eq_some {l : Fin 4} {r : LaneRole} (hlen : 2 ≤ e.order.args.length)
    (hl : l.val = fieldAt e.order.args 0 1) (hr : roleOf (fieldAt e.order.args 1 1) = some r) :
    roleChange e = some (l, r) := by
  have hshort : ¬ e.order.short 2 = true := by rw [Order.short_iff]; omega
  rw [roleChange, if_neg hshort, index?_eq_some_iff.2 hl.symm, hr]
  rfl

theorem roleChange_eq_none (h : e.order.args.length < 2 ∨ 3 < fieldAt e.order.args 0 1 ∨ 2 < fieldAt e.order.args 1 1) :
    roleChange e = none := by
  unfold roleChange
  split
  · rfl
  · next hs =>
    rcases h with h | h | h
    · exact absurd ((Order.short_iff _ _).2 h) hs
    · rw [index?_eq_none_iff.2 h]
      rfl
    · rw [(roleOf_eq_none_iff _).2 h]
      cases index? 4 (fieldAt e.order.args 0 1) <;> rfl

theorem roleConflict_iff {l : Fin 4} {r : LaneRole} (h : roleChange e = some (l, r)) :
    roleConflict e s = true ↔ r = .gauge ∧ ∃ k : Fin 4, k ≠ l ∧ s.lanes[k].role = .gauge := by
  simp [roleConflict, h, allLanes, List.any_eq_true]

end

/-- A lane after the local reset of SET-ROLE, before it aligns again. -/
def Lane.resetTo (x : Lane) (r : LaneRole) (state : LaneState) : Lane :=
  { x.cleared with role := r, state := state, checkTally := 0, skipTally := 0 }

theorem changeRole_eq (l : Fin 4) (r : LaneRole) (s : State) :
    changeRole l r s = tryAlign l (laneLeft l s.lanes[l].role
      (notify (.lane l s.lanes[l].state (if r = .off then LaneState.off else .down) .role)
        (s.setLane l (s.lanes[l].resetTo r (if r = .off then LaneState.off else .down))))) := rfl

theorem changeRole_lanes (l : Fin 4) (r : LaneRole) (s : State) (k : Fin 4) :
    (changeRole l r s).lanes[k] =
      if k = l then s.lanes[l].resetTo r (if r = .off then .off else if s.lanes[l].signal then .aligning else .down)
      else s.lanes[k] := by
  rw [changeRole_eq, tryAlign_lanes, laneLeft_lanes, notify_lanes, State.setLane_get, State.setLane_get, if_pos rfl]
  by_cases hk : k = l
  · rw [if_pos hk, if_pos hk]
    by_cases hr : r = .off
    · rw [if_pos hr, if_pos hr, if_neg (nomatch ·.1)]
    · rw [if_neg hr, if_neg hr]
      cases hs : s.lanes[l].signal with
      | true => rw [if_pos ⟨rfl, hs⟩, if_pos rfl]; rfl
      | false => rw [if_neg (fun h => by simpa [hs] using h.2.symm.trans hs), if_neg Bool.false_ne_true]
  · rw [if_neg hk, if_neg hk, if_neg hk]

/-- An attempt to align touches the lanes and the record link alone. -/
theorem tryAlign_only (l : Fin 4) (s : State) :
    tryAlign l s = (s.setLanes (tryAlign l s).lanes).setLink (tryAlign l s).link := by
  unfold tryAlign
  dsimp only
  split
  · rw [notify_only]
    rfl
  · rfl

theorem tryAlign_tracker (l : Fin 4) (s : State) : (tryAlign l s).tracker = s.tracker := by
  rw [tryAlign_only]
  rfl

theorem tryAlign_detectors (l : Fin 4) (s : State) : (tryAlign l s).detectors = s.detectors := by
  rw [tryAlign_only]
  rfl

theorem laneLeft_gauge_tracker (l : Fin 4) (x : NoticeBody) (s : State) :
    (laneLeft l .gauge (notify x s)).tracker = s.tracker.nogauge := by
  refine (gaugeGone_tracker _).trans ?_
  rw [notify_only]
  rfl

/-- Settles O33: the lane is reset first, and then hands on what it was. -/
theorem setRoleResetsLane : Obligations.SetRoleResetsLane := by
  intro s e rest h hk
  refine ⟨fun hb => ?bypass, fun hb => ⟨fun hbad => ?range, fun hlen l r hl hr => ?role⟩⟩
  case bypass => rw [exec_setRole_eq h hk, orderEnd_cons, if_pos hb]
  case range =>
    rw [exec_setRole_eq h hk, orderEnd_cons, orderEnd_cons, roleChange_eq_none hbad, hb]
    rfl
  case role =>
    have hchange := roleChange_eq_some hlen hl hr
    have hexec := exec_setRole_eq h hk
    rw [hchange, orderEnd_cons, orderEnd_cons, orderEnd_cons, orderEnd_nil, hb, if_neg Bool.false_ne_true,
      if_neg (by simp)] at hexec
    refine ⟨fun hc => ?conflict, fun hc => ⟨settleCapture (changeRole l r (s.headTaken rest)),
      hexec.trans (by rw [if_neg (fun h => hc ((roleConflict_iff hchange).1 h))]),
      fun k hk => ?others, ?lane, fun hrole => ?gauge, fun hrole j => ?pod, ?state, ?settings⟩⟩
    case conflict => exact hexec.trans (by rw [if_pos ((roleConflict_iff hchange).2 hc)])
    case others =>
      rw [settleCapture_lanes, changeRole_lanes, if_neg hk]
      rfl
    case lane =>
      rw [settleCapture_lanes, changeRole_lanes, if_pos rfl]
      rfl
    case gauge =>
      have htracker : (changeRole l r (s.headTaken rest)).tracker = s.tracker.nogauge := by
        rw [changeRole_eq, tryAlign_tracker]
        show (laneLeft l s.lanes[l].role _).tracker = _
        rw [hrole]
        exact laneLeft_gauge_tracker _ _ _
      rw [(settleCapture_steady _).tracker, htracker]
      exact ⟨rfl, rfl⟩
    case pod =>
      have hgone : LostChannel (channelOf l j) (changeRole l r (s.headTaken rest)) := by
        rw [changeRole_eq]
        refine LostChannel.of_same (s := laneLeft l s.lanes[l].role _) ?_ (by rw [tryAlign_detectors]; rfl)
        rw [hrole]
        exact podLost_lost l _ j
      exact hgone.of_same (settleCapture_keeps (offDetector_units (c := channelOf l j) hgone.1).toKeepsBlocks _ rfl)
    case state =>
      intro state u
      rw [changeRole_eq]
      show settleCapture (tryAlign l (laneLeft l s.lanes[l].role u)) = _
      cases s.lanes[l].role <;> rfl
    case settings =>
      refine SameSettings.trans ?_ (settleCapture_steady _).toSameSettings
      constructor <;> exact changeRole_same
        ⟨⟨fun _ _ => rfl, fun _ _ => rfl, fun _ _ => rfl, fun _ _ => rfl, fun _ _ => rfl, fun _ _ => rfl,
          fun _ _ => rfl, fun _ _ => rfl, fun _ _ => rfl⟩, fun _ _ => rfl⟩ l r (s.headTaken rest)

end Sys2Proof.Machine
end

section
/-! The frames that align a lane, and the detectors that become live (O7). -/

namespace Sys2Proof.Machine

/-! ## Live detectors (R54, R55) -/

/-- Each channel's detector beside its record. -/
def State.units (s : State) : Vector (Detector × Channel) 32 := Vector.ofFn fun c => (s.detectors[c], s.channels[c])

theorem units_get (s : State) (c : Fin 32) : s.units[c] = (s.detectors[c], s.channels[c]) := vector_ofFn_get _ _

/-- A detector and its channel when the detector wakes from OFF. -/
def woken (p : Detector × Channel) : Detector × Channel :=
  ({ p.1 with state := .quiet, feed := none }, { p.2 with active := p.2.pending })

/-- A detector in OFF wakes when it may. -/
def wakeIf (b : Bool) (p : Detector × Channel) : Detector × Channel :=
  if b = true ∧ p.1.state = .off then woken p else p

theorem makeLive_units (c d : Fin 32) (s : State) :
    (makeLive c s).units[d] = if d = c then wakeIf (s.mayLive c) s.units[c] else s.units[d] := by
  have hlive : (s.mayLive c && !(s.detectors[c].live)) = true ↔ s.mayLive c = true ∧ s.detectors[c].state = .off := by
    simp [Detector.live]
  rw [units_get, units_get, units_get, wakeIf]
  unfold makeLive
  by_cases h : s.mayLive c = true ∧ s.detectors[c].state = .off
  · have hquiet : ((s.setDetector c { s.detectors[c] with state := .quiet, feed := none }).detectors[c]).state.mayswitch
        = true := by
      rw [State.setDetector_get, if_pos rfl]
      rfl
    rw [if_pos (hlive.2 h), applyPending_switches hquiet, if_pos h]
    by_cases hd : d = c
    · subst hd
      rw [if_pos rfl, State.setChannel_get, if_pos rfl]
      exact congrArg (fun x => (x, _)) ((State.setDetector_get s d d _).trans (if_pos rfl))
    · rw [if_neg hd, State.setChannel_get, if_neg hd]
      exact congrArg (fun x => (x, _)) ((State.setDetector_get s c d _).trans (if_neg hd))
  · rw [if_neg fun hl => h (hlive.1 hl), if_neg h]
    split
    · next hd => rw [hd]
    · rfl

theorem makeLive_mayLive (c d : Fin 32) (s : State) : (makeLive c s).mayLive d = s.mayLive d :=
  makeLive_same (g := fun t => t.mayLive d) (fun _ _ => rfl) (fun _ _ => rfl) c s

/-- A mapped channel's detector when its lane enters UP. -/
def raised (t : Tick) (mapped live : Bool) (p : Detector × Channel) : Detector × Channel :=
  if mapped then wakeIf live ({ p.1 with horizon := some (tickAdd t 15) }, p.2) else p

theorem channelUp_units (t : Tick) (c d : Fin 32) (s : State) :
    (channelUp t c s).units[d] =
      if d = c then raised t (s.sensorMap[c]).isSome (s.mayLive c) s.units[c] else s.units[d] := by
  unfold channelUp raised
  split
  · rw [makeLive_units]
    split
    · rw [units_get, units_get, State.setDetector_get, if_pos rfl]
      rfl
    · next hd =>
      rw [units_get, units_get, State.setDetector_get, if_neg hd]
      rfl
  · split
    · next hd => rw [hd]
    · rfl

/-- Only detectors and channels differ. -/
def OnlyUnits (s t : State) : Prop := t = (s.setDetectors t.detectors).setChannels t.channels

theorem OnlyUnits.refl (s : State) : OnlyUnits s s := rfl

theorem OnlyUnits.trans {s t u : State} (h : OnlyUnits s t) (k : OnlyUnits t u) : OnlyUnits s u := by
  unfold OnlyUnits at *
  rw [h] at k
  exact k

theorem OnlyUnits.same {s t : State} {β : Type} {g : State → β} (h : OnlyUnits s t)
    (hg : ∀ s x y, g ((s.setDetectors x).setChannels y) = g s) : g t = g s := h ▸ hg s _ _

theorem makeLive_onlyUnits (c : Fin 32) (s : State) : OnlyUnits s (makeLive c s) := by
  unfold makeLive applyPending
  split
  · split <;> rfl
  · exact .refl s

theorem channelUp_only (t : Tick) (c : Fin 32) (s : State) : OnlyUnits s (channelUp t c s) := by
  unfold channelUp
  split
  · exact OnlyUnits.trans (t := s.setDetector c _) rfl (makeLive_onlyUnits _ _)
  · exact .refl s

theorem forEach_onlyUnits {α : Type} {f : α → State → State} (hf : ∀ a s, OnlyUnits s (f a s)) (l : List α) (s : State) :
    OnlyUnits s (forEach l f s) :=
  forEach_keeps (P := OnlyUnits s) l f (fun a _ t ht => ht.trans (hf a t)) s (.refl s)

/-- What decides how a lane's entry into UP treats its channels. -/
def State.liveness (s : State) : (Fin 32 → Bool) × Vector (Option (Fin 32)) 32 := (s.mayLive, s.sensorMap)

theorem channelUp_liveness (t : Tick) (c : Fin 32) (s : State) : (channelUp t c s).liveness = s.liveness :=
  (channelUp_only t c s).same fun _ _ _ => rfl

theorem channelsOf_nodup (l : Fin 4) : (channelsOf l).Nodup := by
  refine (List.nodup_finRange 8).map fun i j h => Fin.ext ?_
  have hval := congrArg Fin.val h
  simp only [channelOf] at hval
  omega

theorem mem_channelsOf_iff (l : Fin 4) (c : Fin 32) : c ∈ channelsOf l ↔ laneOf c = l := by
  simp only [channelsOf, List.mem_map, List.mem_finRange, true_and]
  constructor
  · rintro ⟨j, rfl⟩
    refine Fin.ext ?_
    simp only [laneOf, channelOf]
    omega
  · rintro rfl
    refine ⟨slotOf c, Fin.ext ?_⟩
    simp only [laneOf, channelOf, slotOf]
    omega

/-- The channels of a lane that enters UP, each once. -/
theorem channelsUp_units (t : Tick) (l : Fin 4) (s : State) (c : Fin 32) :
    (forEach (channelsOf l) (channelUp t) s).units[c] =
      if laneOf c = l then raised t (s.sensorMap[c]).isSome (s.mayLive c) s.units[c] else s.units[c] := by
  refine (forEach_some (g := State.units) (k := State.liveness)
    (h := fun c k p => raised t (k.2[c]).isSome (k.1 c) p) (channelUp_liveness t) (fun c s d => channelUp_units t c d s)
    (channelsOf_nodup l) s c).trans ?_
  simp only [mem_channelsOf_iff]
  rfl

/-! ## A lane in ALIGNING (R7, R9) -/

theorem settleCapture_only (s : State) : settleCapture s = s.setCapture (settleCapture s).capture := by
  have hselect : ∀ t : State, selectReadout t = t.setCapture (selectReadout t).capture := fun t => by
    unfold selectReadout
    repeat' split
    all_goals rfl
  have hbegin : ∀ t : State, beginWrite t = t.setCapture (beginWrite t).capture := fun t => by
    unfold beginWrite
    split <;> rfl
  unfold settleCapture
  rw [hbegin (selectReadout s), hselect s]
  rfl

section
variable {l : Fin 4} {frame : List Byte} {s : State}

theorem exec_sampleFrame_eq (hr : s.running = true) :
    exec (.sampleFrame l frame) s = .next (settleCapture (laneArrival l frame s)) :=
  congrArg Host.Outcome.next (whileRunning_of_running hr _)

theorem exec_gaugeFrame_eq (hr : s.running = true) :
    exec (.gaugeFrame l frame) s = .next (settleCapture (laneArrival l frame s)) :=
  congrArg Host.Outcome.next (whileRunning_of_running hr _)

theorem laneArrival_aligning (h : s.lanes[l].state = .aligning) : laneArrival l frame s = alignLane l frame s := by
  simp only [laneArrival, h]

theorem alignLane_failed (h : readLaneFrame s.lanes[l].role frame = none) :
    alignLane l frame s = s.setLane l
      { s.lanes[l] with alignCount := 0, prevSeq := none, checkTally := tallyAdd s.lanes[l].checkTally 1 } := by
  simp only [alignLane, h]

theorem alignLane_counted {f : LaneFrame} (h : readLaneFrame s.lanes[l].role frame = some f)
    (hn : ¬ 8 ≤ countAfter s.lanes[l] f.seq) :
    alignLane l frame s = s.setLane l
      { s.lanes[l] with alignCount := countAfter s.lanes[l] f.seq, prevSeq := some f.seq } := by
  have hcount : nextAlign s.lanes[l].alignCount s.lanes[l].prevSeq f.seq = countAfter s.lanes[l] f.seq := rfl
  simp only [alignLane, h, hcount, hn, if_false]

theorem alignLane_up {f : LaneFrame} (h : readLaneFrame s.lanes[l].role frame = some f)
    (hn : 8 ≤ countAfter s.lanes[l] f.seq) : alignLane l frame s = laneUp l f.seq s := by
  have hcount : nextAlign s.lanes[l].alignCount s.lanes[l].prevSeq f.seq = countAfter s.lanes[l] f.seq := rfl
  simp only [alignLane, h, hcount, hn, if_true]

end

/-- A lane that enters UP now. -/
def State.upLane (s : State) (l : Fin 4) (seq : Byte) : Lane :=
  { s.lanes[l] with
    state := .up, alignCount := 8, prevSeq := some seq, expSeq := some (seq + 1), failures := 0
    expTick := if s.lanes[l].role = .pod then some (tickAdd (stampNow s l) 16) else s.lanes[l].expTick }

/-- The lane's entry into UP before its channels. -/
def State.laneRaised (s : State) (l : Fin 4) (seq : Byte) : State :=
  (s.setLane l (s.upLane l seq)).setLink (notify (.lane l .aligning .up .aligned) s).link

theorem notify_setLane (x : NoticeBody) (l : Fin 4) (y : Lane) (s : State) :
    notify x (s.setLane l y) = (s.setLane l y).setLink (notify x s).link := by
  unfold notify offer
  by_cases hb : s.run.bypass = true
  · exact (if_pos hb).trans (by rw [if_pos hb]; rfl)
  · exact (if_neg hb).trans (by rw [if_neg hb]; rfl)

theorem laneUp_eq (l : Fin 4) (seq : Byte) (s : State) :
    laneUp l seq s =
      if s.lanes[l].role = .pod then forEach (channelsOf l) (channelUp (stampNow s l)) (s.laneRaised l seq)
      else s.laneRaised l seq := by
  unfold State.laneRaised
  rw [← notify_setLane]
  rfl

/-- What a lane's entry into UP does not read or change beside lanes, record link, detectors and channels. -/
theorem laneUp_kept {β : Type} {g : State → β} (l : Fin 4) (seq : Byte) (s : State)
    (hu : ∀ s x y, g ((s.setDetectors x).setChannels y) = g s) : g (laneUp l seq s) = g (s.laneRaised l seq) := by
  rw [laneUp_eq]
  split
  · exact (forEach_onlyUnits (channelUp_only _) _ _).same hu
  · rfl

theorem laneUp_lanes (l : Fin 4) (seq : Byte) (s : State) :
    (laneUp l seq s).lanes = put s.lanes l (s.upLane l seq) := laneUp_kept (g := State.lanes) l seq s fun _ _ _ => rfl

theorem laneUp_units (l : Fin 4) (seq : Byte) (s : State) (c : Fin 32) :
    (laneUp l seq s).units[c] =
      if s.lanes[l].role = .pod ∧ laneOf c = l then
        raised (stampNow s l) (s.sensorMap[c]).isSome ((s.laneRaised l seq).mayLive c) s.units[c]
      else s.units[c] := by
  rw [laneUp_eq]
  by_cases hpod : s.lanes[l].role = .pod
  · rw [if_pos hpod, channelsUp_units]
    simp only [hpod, true_and]
    rfl
  · rw [if_neg hpod, if_neg fun h => hpod h.1]
    rfl

/-- The run states and the test under which a detector of an UP POD lane is live (R54). -/
def State.watched (s : State) : Prop :=
  s.run.state = .run ∨ s.run.state = .tailing ∨ (s.run.state = .idle ∧ s.pulse.test ≠ .none)

theorem mayLive_iff (s : State) (c : Fin 32) :
    s.mayLive c = true ↔ s.watched ∧ s.podUp (laneOf c) = true ∧ s.sensorMap[c] ≠ none := by
  rw [State.mayLive, Bool.and_eq_true, Bool.and_eq_true, Bool.or_eq_true, measuring_iff, listening_iff, State.watched,
    and_assoc, Option.isSome_iff_ne_none, or_assoc, and_comm (a := s.pulse.test ≠ .none)]

theorem podUp_iff (s : State) (l : Fin 4) : s.podUp l = true ↔ s.lanes[l].role = .pod ∧ s.lanes[l].state = .up := by
  rw [State.podUp, Bool.and_eq_true, beq_iff_eq, beq_iff_eq]

theorem laneRaised_mayLive {l : Fin 4} {s : State} {c : Fin 32} (seq : Byte) (hpod : s.lanes[l].role = .pod)
    (hl : laneOf c = l) (hm : s.sensorMap[c] ≠ none) : (s.laneRaised l seq).mayLive c = true ↔ s.watched := by
  have hlane : (s.laneRaised l seq).lanes[l] = s.upLane l seq := (State.setLane_get s l l _).trans (if_pos rfl)
  have hup : (s.laneRaised l seq).podUp (laneOf c) = true := by
    rw [podUp_iff, hl, hlane]
    exact ⟨hpod, rfl⟩
  rw [mayLive_iff]
  exact ⟨fun h => h.1, fun h => ⟨h, hup, hm⟩⟩

theorem raised_reached (t : Tick) (b : Bool) (p : Detector × Channel) :
    (raised t true b p).1.horizon = some (tickAdd t 15) ∧
    (p.1.state = .off ∧ b = true → (raised t true b p).1.state = .quiet ∧
      (raised t true b p).2 = { p.2 with active := p.2.pending }) ∧
    (¬ (p.1.state = .off ∧ b = true) → (raised t true b p).1.state = p.1.state ∧ (raised t true b p).2 = p.2) := by
  rw [raised, if_pos rfl, wakeIf]
  by_cases h : p.1.state = .off ∧ b = true
  · rw [if_pos ⟨h.2, h.1⟩]
    exact ⟨rfl, fun _ => ⟨rfl, rfl⟩, fun hn => absurd h hn⟩
  · rw [if_neg fun h' => h ⟨h'.2, h'.1⟩]
    exact ⟨rfl, fun h' => absurd h' h, fun _ => ⟨rfl, rfl⟩⟩

/-- The units of a channel after a lane's entry into UP, for a channel that it reaches and for one that it does not. -/
theorem laneUp_channel (l : Fin 4) (seq : Byte) (s : State) (c : Fin 32) :
    let reached := s.lanes[l].role = .pod ∧ laneOf c = l ∧ s.sensorMap[c] ≠ none
    let wakes := s.detectors[c].state = .off ∧ s.watched
    let t := laneUp l seq s
    (reached → t.detectors[c].horizon = some (tickAdd (stampNow s l) 15) ∧
      (wakes → t.detectors[c].state = .quiet ∧ t.channels[c] = { s.channels[c] with active := s.channels[c].pending }) ∧
      (¬ wakes → t.detectors[c].state = s.detectors[c].state ∧ t.channels[c] = s.channels[c])) ∧
    (¬ reached → t.detectors[c] = s.detectors[c] ∧ t.channels[c] = s.channels[c]) := by
  intro reached wakes t
  have hunits := laneUp_units l seq s c
  have ht := units_get t c
  refine ⟨fun ⟨hpod, hl, hm⟩ => ?_, fun h => ?_⟩
  · have hlive := laneRaised_mayLive seq hpod hl hm
    rw [if_pos ⟨hpod, hl⟩, Option.isSome_iff_ne_none.2 hm, ht, units_get] at hunits
    obtain ⟨hhorizon, hwake, hkeep⟩ :=
      raised_reached (stampNow s l) ((s.laneRaised l seq).mayLive c) (s.detectors[c], s.channels[c])
    rw [← hunits] at hhorizon hwake hkeep
    exact ⟨hhorizon, fun h => hwake ⟨h.1, hlive.2 h.2⟩, fun h => hkeep fun h' => h ⟨h'.1, hlive.1 h'.2⟩⟩
  · have hsame : t.units[c] = s.units[c] := by
      rw [hunits]
      split
      · next hpl =>
        have hnone : (s.sensorMap[c]).isSome = false := by
          rw [Option.isSome_eq_false_iff, Option.isNone_iff_eq_none]
          by_contra hm
          exact h ⟨hpl.1, hpl.2, hm⟩
        rw [hnone]
        rfl
      · rfl
    rw [ht, units_get] at hsame
    exact ⟨congrArg Prod.fst hsame, congrArg Prod.snd hsame⟩

/-- Settles O7: a frame that does not bring the count to 8 changes the lane alone. -/
theorem aligningLaneCounts : Obligations.AligningLaneCounts := by
  intro l frame s hr hs
  have hexec : ∀ t, alignLane l frame s = t →
      exec (.sampleFrame l frame) s = .next (settleCapture t) ∧ exec (.gaugeFrame l frame) s = .next (settleCapture t) :=
    fun t ht => by
      rw [exec_sampleFrame_eq hr, exec_gaugeFrame_eq hr, laneArrival_aligning hs, ht]
      exact ⟨rfl, rfl⟩
  by_cases henters : ∃ f, readLaneFrame s.lanes[l].role frame = some f ∧ 8 ≤ countAfter s.lanes[l] f.seq
  · obtain ⟨f, hf, hn⟩ := henters
    have hu := alignLane_up hf hn
    have hothers := put_others (laneUp_lanes l f.seq s)
    have hkept {β : Type} {g : State → β} (hg : ∀ s x y, g ((s.setDetectors x).setChannels y) = g s) :
        g (laneUp l f.seq s) = g (s.laneRaised l f.seq) := laneUp_kept l f.seq s hg
    refine ⟨_, (hexec _ hu).1, (hexec _ hu).2, ?_⟩
    rw [settleCapture_only]
    refine ⟨fun k hk => hothers.2 k hk, fun hnone => ?failed, fun f' hf' => ?counted, ?units,
      hkept (g := State.tracker) fun _ _ _ => rfl, hkept (g := State.pulse) fun _ _ _ => rfl,
      hkept (g := State.grouping) fun _ _ _ => rfl, hkept (g := State.cells) fun _ _ _ => rfl,
      hkept (g := State.run) fun _ _ _ => rfl, ?settings⟩
    case failed => exact nomatch hnone.symm.trans hf
    case counted =>
      obtain rfl : f = f' := Option.some.inj (hf.symm.trans hf')
      rw [if_pos hn]
      exact hothers.1
    case units =>
      refine ⟨fun _ => hkept (g := State.link) fun _ _ _ => rfl, fun h => absurd ⟨f, hf, hn⟩ h, fun c => ?_⟩
      obtain ⟨hreached, hnot⟩ := laneUp_channel l f.seq s c
      exact ⟨fun h => hreached h.2, fun h => hnot fun h' => h ⟨⟨f, hf, hn⟩, h'⟩⟩
    case settings =>
      exact
        { power := hkept (g := State.power) fun _ _ _ => rfl
          timebase := hkept (g := State.timebase) fun _ _ _ => rfl
          phaseMap := hkept (g := State.phaseMap) fun _ _ _ => rfl
          sensorMap := hkept (g := State.sensorMap) fun _ _ _ => rfl
          pairs := hkept (g := State.pairs) fun _ _ _ => rfl
          pending := hkept (g := State.pending) fun _ _ _ => rfl }
  · obtain ⟨y, hy, hfailed, hcounted⟩ : ∃ y, alignLane l frame s = s.setLane l y ∧
        (readLaneFrame s.lanes[l].role frame = none → y =
          { s.lanes[l] with
            alignCount := 0, prevSeq := none, checkTally := min 65535 (s.lanes[l].checkTally + 1) }) ∧
        (∀ f, readLaneFrame s.lanes[l].role frame = some f →
          y = { s.lanes[l] with alignCount := countAfter s.lanes[l] f.seq, prevSeq := some f.seq }) := by
      cases hf : readLaneFrame s.lanes[l].role frame with
      | none => exact ⟨_, alignLane_failed hf, fun _ => rfl, fun _ h => nomatch h⟩
      | some f =>
        have hn : ¬ 8 ≤ countAfter s.lanes[l] f.seq := fun h => henters ⟨f, hf, h⟩
        refine ⟨_, alignLane_counted hf hn, (nomatch ·), fun f' h => ?_⟩
        obtain rfl := Option.some.inj h
        rfl
    have hothers := put_others (v := s.lanes) (l := l) (x := y) rfl
    refine ⟨_, (hexec _ hy).1, (hexec _ hy).2, ?_⟩
    rw [settleCapture_only]
    refine ⟨fun k hk => hothers.2 k hk, fun hnone => hothers.1.trans (hfailed hnone), fun f hf => ?quiet,
      ⟨fun h => absurd h henters, fun _ => rfl, fun c => ⟨fun h => absurd h.1 henters, fun _ => ⟨rfl, rfl⟩⟩⟩,
      rfl, rfl, rfl, rfl, rfl, ⟨rfl, rfl, rfl, rfl, rfl, rfl⟩⟩
    case quiet =>
      rw [if_neg fun h => henters ⟨f, hf, h⟩]
      exact hothers.1.trans (hcounted f hf)

end Sys2Proof.Machine
end

section
/-! Pressure samples: the phase decision, the effects of a phase change, and the declaration that a sample may make (O9). -/

namespace Sys2Proof.Machine

/-! ## The tracker takes a sample (R29, R30) -/

theorem choosePhase_ne_nogauge (t : Tracker) (p : Nat) (slope : Int) : (t.choosePhase p slope).1 ≠ .nogauge := by
  unfold Tracker.choosePhase
  split
  · exact (nomatch ·)
  split
  · exact (nomatch ·)
  split
  · dsimp only
    split <;> exact (nomatch ·)
  dsimp only
  split
  · exact (nomatch ·)
  dsimp only
  split
  · exact (nomatch ·)
  · assumption

theorem Tracker.decided_eq (t : Tracker) (r : Phase × Nat) (h : r.1 ≠ .nogauge) :
    t.decided r =
      { t with
        phase := r.1, steady := if r.1 = t.phase then r.2 else 0
        satList := if t.phase = .nogauge then noSaturation else t.satList } := by
  unfold Tracker.decided
  by_cases hp : r.1 = t.phase
  · rw [if_pos hp, if_pos hp, if_neg fun ht => h (hp.trans ht), hp]
  · rw [if_neg hp, if_neg hp]

theorem choosePhase_phase (t : Tracker) (p : Nat) (slope : Int) :
    (t.choosePhase p slope).1 =
      if p < t.params.startLevel then .below
      else if slope ≤ -(t.params.fallThreshold : Int) then .fall
      else if (t.params.rampThreshold : Int) ≤ slope then if p + t.params.reloadMargin < t.pmax then .reload else .ramp
      else if t.params.holdEntryCount ≤ min 255 (t.steady + 1) then .hold
      else if t.phase = .nogauge then .ramp
      else t.phase := by
  simp only [Tracker.choosePhase, apply_ite Prod.fst]
  rfl

theorem choosePhase_steady (t : Tracker) (p : Nat) (slope : Int) :
    (t.choosePhase p slope).2 =
      if p < t.params.startLevel ∨ slope ≤ -(t.params.fallThreshold : Int) ∨ (t.params.rampThreshold : Int) ≤ slope then 0
      else min 255 (t.steady + 1) := by
  simp only [Tracker.choosePhase, apply_ite Prod.snd, ite_self, ite_or]
  rfl

/-- The tracker after a sample. -/
def Tracker.sampled (t : Tracker) (p : Nat) (measuring : Bool) : Tracker :=
  (t.take p measuring).decided ((t.take p measuring).choosePhase p (t.slope p))

theorem trackSample_eq (p : Nat) (s : State) :
    trackSample p s =
      if (s.tracker.sampled p s.measuring).phase = s.tracker.phase then
        s.setTracker (s.tracker.sampled p s.measuring)
      else phaseEffects s.tracker.phase (s.tracker.sampled p s.measuring).phase
        (s.setTracker (s.tracker.sampled p s.measuring)) := rfl

theorem Tracker.slope_eq (t : Tracker) (p : Nat) :
    t.slope p =
      if t.history.length < t.params.slopeWindow then 0
      else match t.history[t.history.length - t.params.slopeWindow]? with
        | some r => (p : Int) - (r : Int)
        | none => 0 := by
  unfold Tracker.slope Tracker.slopeReference
  split
  · next h =>
    split at h
    · next hl => rw [if_pos hl]
    · next hl => rw [if_neg hl, h]
  · next r h =>
    split at h
    · exact nomatch h
    · next hl => rw [if_neg hl, h]

theorem drops_iff (t : Tracker) (p : Nat) :
    t.drops p = true ↔ t.armed = true ∧ (t.phase = .ramp ∨ t.phase = .hold ∨ t.phase = .reload) ∧
      ∃ r ∈ t.history.drop (t.history.length - t.params.dropWindow), p + t.params.dropLimit ≤ r := by
  have hloaded : t.phase.loaded = true ↔ t.phase = .ramp ∨ t.phase = .hold ∨ t.phase = .reload := by
    cases t.phase <;> simp [Phase.loaded]
  rw [Tracker.drops, Bool.and_eq_true, Bool.and_eq_true, hloaded, and_assoc, Tracker.dropReference]
  refine and_congr_right fun _ => and_congr_right fun _ => ?_
  cases h : (t.history.drop (t.history.length - t.params.dropWindow)).max? with
  | none =>
    rw [List.max?_eq_none_iff.1 h]
    simp
  | some m =>
    obtain ⟨hm, hmax⟩ := List.max?_eq_some_iff.1 h
    simp only [decide_eq_true_iff]
    exact ⟨fun hd => ⟨m, hm, hd⟩, fun ⟨r, hr, hd⟩ => hd.trans (hmax r hr)⟩

/-! ## A gauge frame in order (R14, R16) -/

theorem laneArrival_up {l : Fin 4} {s : State} (h : s.lanes[l].state = .up) (frame : List Byte) :
    laneArrival l frame s = upFrame l frame s := by
  simp only [laneArrival, h]

theorem drainLane_gauge {l : Fin 4} {s : State} (h : s.lanes[l].role = .gauge) : drainLane l s = s := by
  simp only [drainLane, h]

theorem classifyFrame_ordered {l : Fin 4} {s : State} {f : LaneFrame} (h : s.lanes[l].expSeq = some f.seq) :
    classifyFrame l f s = deliverFrame l f s := by
  have hzero : (f.seq - s.lanes[l].expSeq.getD f.seq).toNat = 0 := by
    rw [h, Option.getD_some, BitVec.sub_self]
    rfl
  unfold classifyFrame
  dsimp only
  rw [if_pos hzero]

theorem upFrame_read {l : Fin 4} {s : State} {frame : List Byte} {f : LaneFrame} (hd : drainLane l s = s)
    (h : readLaneFrame s.lanes[l].role frame = some f) : upFrame l frame s = classifyFrame l f s := by
  simp only [upFrame, hd, h]

/-- The lane that has received a pressure sample. -/
def Lane.heard (x : Lane) (seq : Byte) : Lane := { x with expSeq := some (seq + 1), failures := 0 }

section
variable {l : Fin 4} {frame : List Byte} {f : GaugeFrame} {s : State}

theorem gaugeArrival_eq (hs : s.lanes[l].state = .up) (hrole : s.lanes[l].role = .gauge)
    (hf : readGaugeFrame frame = some f) (hq : s.lanes[l].expSeq = some f.seq) :
    laneArrival l frame s = pressureSample f.pressure (s.setLane l (s.lanes[l].heard f.seq)) := by
  have hread : readLaneFrame s.lanes[l].role frame = some (.gauge f) := by
    rw [hrole, readLaneFrame, hf]
    rfl
  rw [laneArrival_up hs, upFrame_read (drainLane_gauge hrole) hread, classifyFrame_ordered hq]
  rfl

end

theorem declaredFrom_tracker (k : BurstCause) (s : State) : (declaredFrom k s).tracker = s.tracker.disarm := by
  show (declareFirst k s).tracker = _
  rw [declareFirst_eq, makeMark_link]
  exact (notify_steady _ (declareBlocks k s)).quiet rfl

/-- A declaration disarms the tracker and empties its saturation list. -/
theorem declareBurst_disarmed {s : State} (hr : s.run.state = .run) (e : EndCause) (k : BurstCause) :
    (declareBurst e k s).tracker = s.tracker.disarm := by
  have hfirst := declaredFrom_tracker k s
  rw [(declareBurst_steady hr e k).quiet (congrArg Tracker.armed hfirst), hfirst]

/-- The fields of the tracker that a declaration leaves alone. -/
theorem declareBurst_tracker (e : EndCause) (k : BurstCause) (s : State) :
    (declareBurst e k s).tracker =
      { s.tracker with
        armed := (declareBurst e k s).tracker.armed, satList := (declareBurst e k s).tracker.satList } := by
  by_cases hr : s.run.state = .run
  · rw [declareBurst_disarmed hr]
    rfl
  · rw [declareBurst_outside e k s hr]

theorem settleCapture_tracker (s : State) : (settleCapture s).tracker = s.tracker := by
  rw [settleCapture_only]
  rfl

theorem pressureSample_lanes (p : Nat) (s : State) : (pressureSample p s).lanes = s.lanes :=
  pressureSample_same ⟨fun _ _ => rfl, fun _ _ => rfl, fun _ _ => rfl, fun _ _ => rfl, fun _ _ => rfl, fun _ _ => rfl,
    fun _ _ => rfl, fun _ _ => rfl, fun _ _ => rfl⟩ p s

theorem pressureSample_settings (p : Nat) (s : State) : SameSettings s (pressureSample p s) := by
  constructor <;> exact pressureSample_same ⟨fun _ _ => rfl, fun _ _ => rfl, fun _ _ => rfl, fun _ _ => rfl,
    fun _ _ => rfl, fun _ _ => rfl, fun _ _ => rfl, fun _ _ => rfl, fun _ _ => rfl⟩ p s

theorem Tracker.sampled_eq (t : Tracker) (p : Nat) (measuring : Bool) {pmax : Nat} {phase : Phase} {steady : Nat}
    (hpmax : (if measuring then max t.pmax p else t.pmax) = pmax)
    (hphase : ((t.take p measuring).choosePhase p (t.slope p)).1 = phase)
    (hsteady : (if phase = t.phase then ((t.take p measuring).choosePhase p (t.slope p)).2 else 0) = steady) :
    t.sampled p measuring =
      { t with
        pressure := some p, pmax := pmax, phase := phase, steady := steady
        history := pushHistory t.history p
        satList := if t.phase = .nogauge then noSaturation else t.satList } := by
  subst hpmax hphase hsteady
  exact Tracker.decided_eq _ _ (choosePhase_ne_nogauge _ _ _)

/-- A sample whose tracker is known: the effects of the phase change, and then the declaration. -/
theorem pressureSample_eq {p : Nat} {s : State} {k : Tracker} (hk : s.tracker.sampled p s.measuring = k) :
    pressureSample p s =
      let v := if k.phase = s.tracker.phase then s.setTracker k else phaseEffects s.tracker.phase k.phase (s.setTracker k)
      if s.tracker.drops p = true then declareBurst .aborted .pressure v else v := by
  subst hk
  unfold pressureSample
  rw [trackSample_eq]

theorem phased_tracker (old new : Phase) (s : State) :
    (if new = old then s else phaseEffects old new s).tracker = s.tracker := by
  split
  · rfl
  · exact phaseEffects_tracker _ _ _

/-- Settles O9: the tracker takes the sample, the phase is decided, and the effects of a change follow. -/
theorem gaugeFrameDelivered : Obligations.GaugeFrameDelivered := by
  refine ⟨fun l frame f s hr hs hrole hf hq => ?sample, fun old new s => ?effects, fun s => rfl⟩
  case effects =>
    intro t
    refine ⟨phaseEffects_link old new s, phaseEffects_channels old new s, phaseEffects_cells old new s, ?_⟩
    have hblocks : ∀ (u : State) (k : Link) (v : Vector Channel 32) (w : Vector Cell 1024),
        u = ((s.setLink k).setChannels v).setCells { s.cells with cells := w } →
        u = ((s.setLink u.link).setChannels u.channels).setCells { s.cells with cells := u.cells.cells } := by
      rintro _ k v w rfl
      rfl
    exact hblocks _ _ _ _ (phaseEffects_eq old new s)
  case sample =>
    intro p old slope pmax count phase steady
    have hslope : s.tracker.slope f.pressure = slope := Tracker.slope_eq _ _
    have hpmax : (if s.measuring then max s.tracker.pmax f.pressure else s.tracker.pmax) = pmax :=
      if_congr (measuring_iff s) rfl rfl
    have hphase : ((s.tracker.take f.pressure s.measuring).choosePhase f.pressure (s.tracker.slope f.pressure)).1 = phase := by
      rw [choosePhase_phase, hslope]
      show (if f.pressure < _ then _ else _) = _
      rw [show (s.tracker.take f.pressure s.measuring).pmax = pmax from hpmax]
      rfl
    have hsteady : (if phase = s.tracker.phase then
        ((s.tracker.take f.pressure s.measuring).choosePhase f.pressure (s.tracker.slope f.pressure)).2 else 0) = steady := by
      rw [choosePhase_steady, hslope]
      by_cases hp : phase = old
      · rw [if_pos hp]
        exact if_congr (by simp [hp]; rfl) rfl rfl
      · rw [if_neg hp]
        exact (if_pos (.inl hp)).symm
    obtain ⟨k, hk⟩ : ∃ k, k = s.tracker.sampled f.pressure s.measuring := ⟨_, rfl⟩
    have hkeq := hk.trans (s.tracker.sampled_eq f.pressure s.measuring hpmax hphase hsteady)
    obtain ⟨u, hu⟩ : ∃ u, u = (s.setLane l (s.lanes[l].heard f.seq)).setTracker k := ⟨_, rfl⟩
    obtain ⟨v, hv⟩ : ∃ v, v = if phase = old then u else phaseEffects old phase u := ⟨_, rfl⟩
    have harrives : laneArrival l frame s =
        if s.tracker.drops f.pressure = true then declareBurst .aborted .pressure v else v := by
      rw [gaugeArrival_eq hs hrole hf hq, pressureSample_eq (s := s.setLane l (s.lanes[l].heard f.seq)) hk.symm, hv, hu, hkeq]
      rfl
    have hvtracker : v.tracker = k := by
      rw [hv, phased_tracker, hu]
      rfl
    have htracker : (settleCapture (laneArrival l frame s)).tracker =
        { k with
          armed := (laneArrival l frame s).tracker.armed, satList := (laneArrival l frame s).tracker.satList } := by
      rw [settleCapture_tracker, harrives]
      split
      · exact (declareBurst_tracker _ _ v).trans (by rw [hvtracker])
      · rw [hvtracker]
    have hlanes : (settleCapture (laneArrival l frame s)).lanes = put s.lanes l (s.lanes[l].heard f.seq) := by
      rw [settleCapture_lanes, gaugeArrival_eq hs hrole hf hq, pressureSample_lanes]
      rfl
    have hothers := put_others hlanes
    refine ⟨settleCapture (laneArrival l frame s), u, k, exec_gaugeFrame_eq hr, hothers.2, hothers.1, ?_, ?_, ?_, ?_, ?_,
      hkeq, hu, ?declares, ?settings⟩
    case declares =>
      rw [harrives, hv]
      exact congrArg settleCapture (if_congr (drops_iff s.tracker f.pressure) rfl rfl)
    case settings =>
      refine SameSettings.trans ?_ (settleCapture_steady _).toSameSettings
      rw [gaugeArrival_eq hs hrole hf hq]
      exact { pressureSample_settings f.pressure (s.setLane l (s.lanes[l].heard f.seq)) with }
    all_goals rw [htracker, hkeq]

end Sys2Proof.Machine
end

section
/-! The tracker's own declarations: a pressure drop and the saturation fallback (O16). -/

namespace Sys2Proof.Machine

/-! ## A phase change, or none -/

/-- The effects of a phase change, when there is one. -/
def phased (old new : Phase) (s : State) : State := if new = old then s else phaseEffects old new s

section
variable (old new : Phase) (s : State)

/-- What reads neither the queues of the record link nor the channels nor the cells sees no phase change. -/
theorem phased_same {β : Type} {g : State → β}
    (h : ∀ s x y z, g (((s.setLink x).setChannels y).setCells { s.cells with cells := z }) = g s) :
    g (phased old new s) = g s := by
  unfold phased
  split
  · rfl
  · rw [phaseEffects_eq]
    exact h _ _ _ _

theorem phased_link :
    (phased old new s).link = if new = old then s.link else (notify (phaseNotice old new s) s).link := by
  unfold phased
  split
  · rfl
  · exact phaseEffects_link old new s

theorem phased_marks : (phased old new s).link.marks = s.link.marks := by
  rw [phased_link]
  split
  · rfl
  · exact (notify_steady _ s).marks

theorem phased_far : (phased old new s).link.far = s.link.far := by
  rw [phased_link]
  split
  · rfl
  · exact (notify_steady _ s).far

theorem notify_fills {x : NoticeBody} {s : State} (hb : s.run.bypass = false) (h : s.link.fill + 2 ≤ 4096) :
    (notify x s).link.fill = s.link.fill + 2 := by
  rw [notify, offer_admitted hb (notice_admitted h), State.setLink_link, Link.fill_enqueue]
  rfl

theorem phased_fill {s : State} (hb : s.run.bypass = false) (h : s.link.fill + 2 ≤ 4096) :
    (phased old new s).link.fill ≤ s.link.fill + 2 := by
  rw [phased_link]
  split
  · exact Nat.le_add_right _ _
  · exact (notify_fills hb h).le

theorem phased_own {s : State} (hb : s.run.bypass = false) (h : s.link.fill + 2 ≤ 4096) :
    (phased old new s).link.own = s.link.own ++ if new = old then [] else
      [.notice { part := s.run.address, tick := s.timebase.counter, body := phaseNotice old new s }] := by
  rw [phased_link]
  split
  · rw [List.append_nil]
  · exact notify_own hb h

end

/-- A declaration depends on run control, the timebase and the marks alone. -/
theorem Declared.of_same {s t u : State} {k : BurstCause} (hd : Declared t u k) (hrun : t.run = s.run)
    (htime : t.timebase = s.timebase) (hmarks : t.link.marks = s.link.marks) (hfar : t.link.far = s.link.far) :
    Declared s u k where
  cause := hd.cause
  tick := by rw [hd.tick, htime]
  state := by rw [hd.state, hrun]
  timer := by rw [hd.timer, hrun, htime]
  disarmed := hd.disarmed
  boundary := hd.boundary
  test := hd.test
  marks := by rw [hd.marks, hmarks, hfar]

/-! ## The saturation list (R35, R36) -/

theorem laterOf_of_atOrAfter {a b : Tick} (h : atOrAfter a b = true) : laterOf a b = a := if_pos h

/-- The tick that is at or after a tick with none later is that tick. -/
theorem laterOf_latest {a b : Tick} (h : atOrAfter b a = true) : laterOf a b = b := by
  unfold laterOf
  split
  · next hab =>
    simp only [atOrAfter, decide_eq_true_iff] at h hab
    bv_omega
  · rfl

theorem latestTick_mem {l : List Tick} {t : Tick} (h : latestTick l = some t) : t ∈ l := by
  induction l generalizing t with
  | nil => exact nomatch h
  | cons a l ih =>
    unfold latestTick at h
    cases hl : latestTick l with
    | none =>
      rw [hl] at h
      exact Option.some.inj h ▸ List.mem_cons_self
    | some u =>
      rw [hl] at h
      obtain rfl := Option.some.inj h
      unfold laterOf
      split
      · exact List.mem_cons_self
      · exact List.mem_cons_of_mem _ (ih hl)

/-- An entry that is at or after every other is the latest tick. -/
theorem latestTick_eq {l : List Tick} {t : Tick} (ht : t ∈ l) (hall : ∀ e ∈ l, atOrAfter t e = true) :
    latestTick l = some t := by
  induction l with
  | nil => exact nomatch ht
  | cons a l ih =>
    unfold latestTick
    have htail : ∀ e ∈ l, atOrAfter t e = true := fun e he => hall e (List.mem_cons_of_mem _ he)
    by_cases hmem : t ∈ l
    · rw [ih hmem htail]
      exact congrArg some (laterOf_latest (hall a List.mem_cons_self))
    · obtain rfl : t = a := (List.mem_cons.1 ht).resolve_right hmem
      cases hl : latestTick l with
      | none => rfl
      | some u => exact congrArg some (laterOf_of_atOrAfter (htail u (latestTick_mem hl)))

/-- The entries of a table that are present. -/
theorem mem_present {α : Type} {n : Nat} (v : Vector (Option α) n) (a : α) :
    a ∈ v.toList.filterMap id ↔ ∃ i : Fin n, v[i] = some a := by
  simp only [List.mem_filterMap, id, exists_eq_right]
  rw [Vector.mem_toList_iff, Vector.mem_iff_getElem]
  exact ⟨fun ⟨i, hi, h⟩ => ⟨⟨i, hi⟩, h⟩, fun ⟨i, h⟩ => ⟨i.val, i.isLt, h⟩⟩

theorem countP_present {α : Type} {n : Nat} (v : Vector (Option α) n) (p : α → Bool) :
    (v.toList.filterMap id).countP p = (List.finRange n).countP (fun i => (v[i]).any p) := by
  rw [table_toList v, List.filterMap_map, List.countP_filterMap]
  refine List.countP_congr fun i _ => ?_
  show (Option.map p v[i]).getD false = true ↔ (v[i]).any p = true
  cases v[i] <;> rfl

/-- The saturation cause, judged from the latest entry. -/
theorem saturated_iff (t : Tracker) {latest : Tick} (hmem : ∃ n : Fin 32, t.satList[n] = some latest)
    (hall : ∀ (n : Fin 32) (e : Tick), t.satList[n] = some e → atOrAfter latest e = true) :
    t.saturated = true ↔ t.params.satCount ≤ (List.finRange 32).countP
      (fun n => (t.satList[n]).any (fun e => decide ((latest - e).toNat < t.params.satWindow))) := by
  have hlatest : latestTick (t.satList.toList.filterMap id) = some latest :=
    latestTick_eq ((mem_present _ _).2 hmem) fun e he => by
      obtain ⟨n, hn⟩ := (mem_present _ _).1 he
      exact hall n e hn
  unfold Tracker.saturated
  dsimp only
  rw [hlatest, ← countP_present]
  exact decide_eq_true_iff

/-- Settles O16: a sample is judged by the tracker before it; a report by the list after it. -/
theorem trackerDeclares : Obligations.TrackerDeclares := by
  refine ⟨fun l frame f s hr hs hrole hf hq hst => ?pressure, fun h s hst => ?saturation⟩
  case pressure =>
    intro newest declares
    obtain ⟨k, hk⟩ : ∃ k, k = s.tracker.sampled f.pressure s.measuring := ⟨_, rfl⟩
    obtain ⟨u, hu⟩ : ∃ u, u = (s.setLane l (s.lanes[l].heard f.seq)).setTracker k := ⟨_, rfl⟩
    obtain ⟨v, hv⟩ : ∃ v, v = phased s.tracker.phase k.phase u := ⟨_, rfl⟩
    have harrives : laneArrival l frame s =
        if s.tracker.drops f.pressure = true then declareBurst .aborted .pressure v else v := by
      rw [gaugeArrival_eq hs hrole hf hq, pressureSample_eq (s := s.setLane l (s.lanes[l].heard f.seq)) hk.symm, hv, hu]
      rfl
    have hmeasuring : s.measuring = true := (measuring_iff s).2 (.inl hst)
    have hsampled := hk.trans (s.tracker.sampled_eq f.pressure s.measuring (if_pos hmeasuring) rfl rfl)
    have hvtracker : v.tracker = k := by rw [hv]; exact (phased_tracker _ _ u).trans (by rw [hu]; rfl)
    have hrun : v.run = s.run := by rw [hv, phased_same (g := State.run) _ _ _ fun _ _ _ _ => rfl, hu]; rfl
    have htime : v.timebase = s.timebase := by rw [hv, phased_same (g := State.timebase) _ _ _ fun _ _ _ _ => rfl, hu]; rfl
    have hpulse : v.pulse = s.pulse := by rw [hv, phased_same (g := State.pulse) _ _ _ fun _ _ _ _ => rfl, hu]; rfl
    have hboundary : v.cells.boundary = s.cells.boundary := by
      rw [hv, phased_same (g := fun t => t.cells.boundary) _ _ _ fun _ _ _ _ => rfl, hu]
      rfl
    have hmarks : v.link.marks = s.link.marks := by rw [hv, phased_marks, hu]; rfl
    have hfar : v.link.far = s.link.far := by rw [hv, phased_far, hu]; rfl
    have hsettle := settleCapture_steady (laneArrival l frame s)
    refine ⟨_, exec_gaugeFrame_eq hr, fun hd => ?declares, fun hd => ?quiet⟩
    case quiet =>
      have harrived : laneArrival l frame s = v := by
        rw [harrives, if_neg fun h' => hd ((drops_iff _ _).1 h')]
      rw [harrived, settleCapture_only]
      refine ⟨hrun, ?_, hboundary, hpulse, hmarks⟩
      show v.tracker.armed = _
      rw [hvtracker, hsampled]
    case declares =>
      have hvrun : v.run.state = .run := by rw [hrun, hst]
      have hburst : laneArrival l frame s = declareBurst .aborted .pressure v := by
        rw [harrives, if_pos ((drops_iff _ _).2 hd)]
      rw [hburst] at hsettle ⊢
      refine ⟨(settled_declared hvrun _ _).of_same hrun htime hmarks hfar, fun hb hfill => ?_⟩
      intro pmax
      have hub : u.run.bypass = false := by rw [hu]; exact hb
      have hufill : u.link.fill = s.link.fill := by rw [hu]; rfl
      have hown := phased_own s.tracker.phase k.phase hub (by omega)
      have hvfill := phased_fill s.tracker.phase k.phase hub (by omega)
      rw [← hv] at hown hvfill
      have hphase : (settleCapture (declareBurst .aborted .pressure v)).tracker.phase = k.phase := by
        rw [settleCapture_tracker, declareBurst_disarmed hvrun, hvtracker]
        rfl
      have hgauge : k.phase ≠ .nogauge := by
        rw [hsampled]
        exact choosePhase_ne_nogauge _ _ _
      have hpressure : k.pressure = some f.pressure := by rw [hsampled]
      have hpmax : k.pmax = pmax := by rw [hsampled]
      have hnotice : burstNotice v .pressure v.tracker.burstPressure v.tracker.pmax =
          burstNotice s .pressure (some f.pressure) pmax := by
        rw [hvtracker, Tracker.burstPressure, if_neg hgauge, hpressure, hpmax, burstNotice, hrun, htime]
        rfl
      have hphased : phaseNotice s.tracker.phase k.phase u = .phase s.tracker.phase k.phase (some f.pressure) pmax := by
        rw [phaseNotice, if_neg hgauge, hu]
        show NoticeBody.phase _ _ k.pressure k.pmax = _
        rw [hpressure, hpmax]
      have hmore := hsettle.own_more (declareBurst_own hvrun .aborted .pressure (by rw [hrun, hb]) (by omega))
      rw [hnotice, hown, hphased] at hmore
      rw [hphase]
      obtain ⟨more, hmore⟩ := hmore
      refine ⟨more, hmore.trans ?_⟩
      rw [hu]
      rfl
  case saturation =>
    intro watched old list
    have hlist : reportEntry s.tracker.satList h = list := reportEntry_eq _ _
    have hwatch := watches_iff s.tracker h
    have hreport (hw : watched) :
        presentQuietly h s = (placeHit h s).setTracker { s.tracker with satList := list } := by
      rw [presentQuietly_watched (hwatch.2 hw), hlist]
    have hpresent (hw : watched) : present h s =
        if list ≠ old ∧ ({ s.tracker with satList := list } : Tracker).saturated = true then
          declareBurst .aborted .saturation (presentQuietly h s)
        else presentQuietly h s := by
      unfold present presentWith
      dsimp only
      rw [hreport hw, State.setTracker_tracker, if_congr (and_iff_right (hwatch.2 hw)) rfl rfl]
    refine ⟨fun hw => ?quiet, fun hw hsame => ?same, fun hw hne latest hmem hall => ⟨fun hfew => ?few, fun hmany => ?many⟩⟩
    case quiet =>
      have hno : ¬ s.tracker.watches h = true := fun h' => hw (hwatch.1 h')
      unfold present presentWith
      dsimp only
      rw [if_neg fun h' => hno h'.1, presentQuietly_unwatched hno]
    case same =>
      rw [hpresent hw, if_neg fun h' => h'.1 hsame, hreport hw, hsame]
      exact (congrArg (placeHit h s).setTracker (placeHit_tracker h s).symm).trans (State.setTracker_self _)
    case few =>
      have hsat := saturated_iff { s.tracker with satList := list } hmem hall
      rw [hpresent hw, if_neg fun h' => absurd (hsat.1 h'.2) (Nat.not_le.2 hfew), hreport hw]
    case many =>
      have hsat := (saturated_iff { s.tracker with satList := list } hmem hall).2 hmany
      have hquiet := presentQuietly_steady h s
      have hrun : (presentQuietly h s).run.state = .run := by rw [hquiet.run, hst]
      rw [hpresent hw, if_pos ⟨hne, hsat⟩]
      refine ⟨(declareBurst_declared hrun _ _).of_steady hquiet, fun n => ?emptied, fun hb hfill => ?notice⟩
      case emptied =>
        rw [declareBurst_disarmed hrun]
        exact Vector.getElem_replicate _
      case notice =>
        have hlink : (presentQuietly h s).link = (placeHit h s).link := by rw [hreport hw]; rfl
        obtain ⟨more, hmore⟩ := declareBurst_own hrun .aborted .saturation (by rw [hquiet.run, hb]) (by rw [hlink]; exact hfill)
        refine ⟨more, hmore.trans ?_⟩
        have hpressure : (presentQuietly h s).tracker.burstPressure = none := if_pos (by rw [hquiet.phase]; exact hw.2.2)
        have hpmax : (presentQuietly h s).tracker.pmax = s.tracker.pmax := by rw [hquiet.tracker]
        rw [hlink, hpressure, hpmax, burstNotice, hquiet.run, hquiet.timebase]
        rfl

end Sys2Proof.Machine
end

section
/-! Frames on a lane in UP that are broken, behind or ahead, and the missing stretches that they leave (O10). -/

namespace Sys2Proof.Machine

/-! ## What was not dealt with before -/

/-- Nothing is to be done for a list of things that each are done already. -/
theorem forEach_id {α : Type} {f : α → State → State} {l : List α} {s : State} (h : ∀ a ∈ l, f a s = s) :
    forEach l f s = s := by
  induction l with
  | nil => rfl
  | cons a l ih =>
    rw [forEach_cons, h a List.mem_cons_self]
    exact ih fun b hb => h b (List.mem_cons_of_mem _ hb)

theorem drainFeed_none {c : Fin 32} {s : State} (h : s.detectors[c].feed = none) : drainFeed c s = s := by
  simp only [drainFeed, h]

theorem drainLane_pod {l : Fin 4} {s : State} (hrole : s.lanes[l].role = .pod)
    (h : ∀ j : Fin 8, s.detectors[channelOf l j].feed = none) : drainLane l s = s := by
  simp only [drainLane, hrole]
  refine forEach_id fun c hc => ?_
  obtain ⟨j, _, rfl⟩ := List.mem_map.1 hc
  exact drainFeed_none (h j)

theorem blindLanes_hits : BlindHits State.lanes :=
  ⟨fun _ _ => rfl, fun _ _ => rfl, fun _ _ => rfl, fun _ _ => rfl, fun _ _ => rfl, fun _ _ => rfl, fun _ _ => rfl,
    fun _ _ => rfl, fun _ _ => rfl⟩

theorem drainLane_lanes (l : Fin 4) (s : State) : (drainLane l s).lanes = s.lanes := drainLane_same blindLanes_hits l s

theorem stampNow_congr {s t : State} (ht : t.timebase = s.timebase) (l : Fin 4)
    (hl : t.lanes[l].latency = s.lanes[l].latency) : stampNow t l = stampNow s l := by
  rw [stampNow, stampNow, ht, hl]

theorem drainLane_settings (l : Fin 4) (s : State) : SameSettings s (drainLane l s) := by
  constructor <;> exact drainLane_same ⟨fun _ _ => rfl, fun _ _ => rfl, fun _ _ => rfl, fun _ _ => rfl,
    fun _ _ => rfl, fun _ _ => rfl, fun _ _ => rfl, fun _ _ => rfl, fun _ _ => rfl⟩ l s

/-! ## Frames that fail or are behind (R11) -/

section
variable {l : Fin 4} {frame : List Byte} {s : State}

theorem upFrame_some {f : LaneFrame} (hf : readLaneFrame s.lanes[l].role frame = some f) :
    upFrame l frame s = classifyFrame l f (drainLane l s) := by
  simp only [upFrame, drainLane_lanes, hf]

theorem upFrame_fails (h : ∀ f, readLaneFrame s.lanes[l].role frame = some f →
    128 ≤ (f.seq - s.lanes[l].expSeq.getD f.seq).toNat) : upFrame l frame s = failFrame l (drainLane l s) := by
  cases hf : readLaneFrame s.lanes[l].role frame with
  | none => simp only [upFrame, drainLane_lanes, hf]
  | some f =>
    have hd := h f hf
    rw [upFrame_some hf]
    unfold classifyFrame
    dsimp only
    rw [drainLane_lanes, if_neg (by omega), if_neg (by omega)]

theorem upFrame_skips {f : LaneFrame} {q : Byte} (hf : readLaneFrame s.lanes[l].role frame = some f)
    (hq : s.lanes[l].expSeq = some q) (h1 : 1 ≤ (f.seq - q).toNat) (h127 : (f.seq - q).toNat ≤ 127) :
    upFrame l frame s = skipFrame l (f.seq - q).toNat f (drainLane l s) := by
  rw [upFrame_some hf]
  unfold classifyFrame
  dsimp only
  rw [drainLane_lanes, hq, Option.getD_some, if_neg (by omega), if_pos h127]

end

/-- The lane after a frame that failed, before its effects. -/
def Lane.failed (x : Lane) : Lane :=
  { x with checkTally := min 65535 (x.checkTally + 1), failures := x.failures + 1 }

/-- The failed lane that expects the next frame all the same. -/
def Lane.moved (x : Lane) : Lane := { x.failed with expSeq := x.expSeq.map (fun q => q + 1) }

theorem failFrame_third {l : Fin 4} {s : State} (h : 2 ≤ s.lanes[l].failures) :
    failFrame l s = tryAlign l (laneDown l .checks (s.setLane l s.lanes[l].failed)) := by
  have h3 : 3 ≤ s.lanes[l].failures + 1 := by omega
  unfold failFrame
  dsimp only
  rw [if_pos h3]
  rfl

theorem failFrame_early {l : Fin 4} {s : State} (h : s.lanes[l].failures < 2) :
    failFrame l s = podStretch l 1 (s.setLane l s.lanes[l].moved) := by
  have h3 : ¬ 3 ≤ s.lanes[l].failures + 1 := by omega
  unfold failFrame
  dsimp only
  rw [if_neg h3]
  rfl

/-! ## Missing stretches (R13) -/

/-- The lane after a missing stretch of `n` frames. -/
def Lane.stretched (x : Lane) (n : Nat) : Lane :=
  { x with expTick := if x.role = .pod then x.expTick.map (fun e => tickAdd e (16 * n)) else x.expTick }

theorem missingStretch_some {l : Fin 4} {n : Nat} {s : State} {e : Tick} (h : s.lanes[l].expTick = some e) :
    missingStretch l n s = unitTests (forEach (channelsOf l) (stretchChannel n (tickAdd e (16 * n)))
      (s.setLane l { s.lanes[l] with expTick := some (tickAdd e (16 * n)) })) := by
  simp only [missingStretch, h]

theorem podStretch_pod {l : Fin 4} {n : Nat} {s : State} (h : s.lanes[l].role = .pod) :
    podStretch l n s = missingStretch l n s := by
  simp only [podStretch, h]

theorem podStretch_other {l : Fin 4} {n : Nat} {s : State} (h : s.lanes[l].role ≠ .pod) : podStretch l n s = s := by
  cases hr : s.lanes[l].role with
  | pod => exact absurd hr h
  | gauge => simp only [podStretch, hr]
  | off => simp only [podStretch, hr]

theorem put_self {α : Type} {n : Nat} (v : Vector α n) (i : Fin n) : put v i v[i] = v := by
  refine Vector.ext fun j hj => ?_
  refine (put_get v i ⟨j, hj⟩ v[i]).trans ?_
  split
  · next h => rw [← h]; rfl
  · rfl

theorem podStretch_lanes (l : Fin 4) (n : Nat) (s : State) :
    (podStretch l n s).lanes = put s.lanes l (s.lanes[l].stretched n) := by
  by_cases hr : s.lanes[l].role = .pod
  · cases he : s.lanes[l].expTick with
    | none =>
      have hsame : s.lanes[l].stretched n = s.lanes[l] := by
        rw [Lane.stretched, if_pos hr, he]
        exact congrArg (fun e => { s.lanes[l] with expTick := e }) he.symm
      rw [podStretch_pod hr, hsame, put_self]
      simp only [missingStretch, he]
    | some e =>
      rw [podStretch_pod hr, missingStretch_some he, unitTests_same blindLanes_hits,
        forEach_same State.lanes _ _ (stretchChannel_same blindLanes_hits n _)]
      refine congrArg (put s.lanes l) ?_
      rw [Lane.stretched, if_pos hr, he]
      rfl
  · have hsame : s.lanes[l].stretched n = s.lanes[l] := by
      rw [Lane.stretched, if_neg hr]
    rw [podStretch_other hr, hsame, put_self]

/-- A lane that a frame has put out of UP, or kept there. -/
theorem failFrame_lanes (l : Fin 4) (s : State) (k : Fin 4) :
    (failFrame l s).lanes[k] =
      if k = l then
        (if 3 ≤ s.lanes[l].failures + 1 then
          s.lanes[l].failed.lostTo (if s.lanes[l].signal then .aligning else .down)
        else s.lanes[l].moved.stretched 1)
      else s.lanes[k] := by
  by_cases h3 : 3 ≤ s.lanes[l].failures + 1
  · have hdown : (laneDown l .checks (s.setLane l s.lanes[l].failed)).lanes =
        put s.lanes l (s.lanes[l].failed.lostTo .down) := by
      rw [laneDown_lanes, State.setLane_get, if_pos rfl]
      exact put_put _ _ _ _
    rw [failFrame_third (by omega), tryAlign_lanes, (put_others hdown).1]
    split
    · cases hs : s.lanes[l].signal with
      | true => exact (if_pos ⟨rfl, hs⟩).trans rfl
      | false => exact (if_neg fun h => Bool.false_ne_true (hs.symm.trans h.2)).trans rfl
    · next hk => exact (put_others hdown).2 k hk
  · have hmoved : (podStretch l 1 (s.setLane l s.lanes[l].moved)).lanes =
        put s.lanes l (s.lanes[l].moved.stretched 1) := by
      rw [podStretch_lanes, State.setLane_get, if_pos rfl]
      exact put_put _ _ _ _
    rw [failFrame_early (by omega)]
    split
    · next hk =>
      rw [hk]
      exact (put_others hmoved).1
    · next hk => exact (put_others hmoved).2 k hk

/-! ## Delivery -/

/-- The lane after a frame is delivered. -/
def Lane.delivered (x : Lane) (f : LaneFrame) (stamp : Tick) : Lane :=
  { x with
    expSeq := some (f.seq + 1), failures := 0
    expTick := match f with
      | .sample _ => some (tickAdd stamp 16)
      | .gauge _ => x.expTick }

theorem Lane.delivered_sample (x : Lane) (f : SampleFrame) (stamp : Tick) : x.delivered (.sample f) stamp =
    { x with expSeq := some (f.seq + 1), failures := 0, expTick := some (tickAdd stamp 16) } := rfl

/-- The state in which a sample frame's slots are delivered: the lane expects the next frame. -/
def State.received (s : State) (l : Fin 4) (f : SampleFrame) : State :=
  s.setLane l (s.lanes[l].delivered (.sample f) (stampNow s l))

theorem deliverFrame_sample (l : Fin 4) (f : SampleFrame) (s : State) :
    deliverFrame l (.sample f) s = testFrame l (stampNow s l) f.confirmation
      (forEach (List.finRange 8) (deliverSlot l (stampNow s l) f) (s.received l f)) := by
  rw [State.received, Lane.delivered_sample]
  simp only [deliverFrame, LaneFrame.seq]

theorem deliverFrame_lanes (l : Fin 4) (f : LaneFrame) (s : State) :
    (deliverFrame l f s).lanes = put s.lanes l (s.lanes[l].delivered f (stampNow s l)) := by
  cases f with
  | sample f =>
    rw [deliverFrame_sample, testFrame_same blindLanes_hits, forEach_same State.lanes _ _ (deliverSlot_same blindLanes_hits l _ f)]
    rfl
  | gauge f => exact pressureSample_lanes _ _

/-- The lane that a SKIP has passed over. -/
def Lane.skipped (x : Lane) (d : Nat) : Lane := { x with skipTally := min 65535 (x.skipTally + d), failures := 0 }

/-- The lane whose next frame is the one that revealed a SKIP. -/
def State.expecting (s : State) (l : Fin 4) (q : Byte) : State := s.setLane l { s.lanes[l] with expSeq := some q }

theorem skipFrame_eq (l : Fin 4) (d : Nat) (f : LaneFrame) (s : State) :
    skipFrame l d f s = deliverFrame l f
      ((podStretch l d (s.setLane l (s.lanes[l].skipped d))).expecting l f.seq) := rfl

theorem blindTimebase_hits : BlindHits State.timebase :=
  ⟨fun _ _ => rfl, fun _ _ => rfl, fun _ _ => rfl, fun _ _ => rfl, fun _ _ => rfl, fun _ _ => rfl, fun _ _ => rfl,
    fun _ _ => rfl, fun _ _ => rfl⟩

theorem skipFrame_lanes (l : Fin 4) (d : Nat) (f : LaneFrame) (s : State) :
    (skipFrame l d f s).lanes = put s.lanes l
      ({ (s.lanes[l].skipped d).stretched d with expSeq := some f.seq }.delivered f (stampNow s l)) := by
  have hstretch : (podStretch l d (s.setLane l (s.lanes[l].skipped d))).lanes =
      put s.lanes l ((s.lanes[l].skipped d).stretched d) := by
    rw [podStretch_lanes, State.setLane_get, if_pos rfl]
    exact put_put _ _ _ _
  have hlane := (put_others hstretch).1
  have hexpect : ((podStretch l d (s.setLane l (s.lanes[l].skipped d))).expecting l f.seq).lanes =
      put s.lanes l { (s.lanes[l].skipped d).stretched d with expSeq := some f.seq } := by
    unfold State.expecting
    rw [hlane]
    exact (congrArg (put · l _) hstretch).trans (put_put _ _ _ _)
  have htime : ((podStretch l d (s.setLane l (s.lanes[l].skipped d))).expecting l f.seq).timebase = s.timebase :=
    podStretch_same ⟨blindTimebase_hits, fun _ _ => rfl⟩ l d _
  have hstamp := stampNow_congr htime l (by rw [(put_others hexpect).1]; rfl)
  rw [skipFrame_eq, deliverFrame_lanes, hstamp, (put_others hexpect).1, hexpect, put_put]

/-! ## A stretch on one channel (R13, R71) -/

theorem breakHit_opened {c : Fin 32} {s : State} {h : OpenHit} (ho : s.detectors[c].state = .opened h) :
    breakHit c s = unitTests (handOff present c (hitRecord s c h .skip)
      ((s.setDetector c { s.detectors[c] with state := .quiet }).setChannel c
        { s.channels[c] with active := s.channels[c].pending })) := by
  simp only [breakHit, ho, enterState_switches (x := .quiet) rfl]

theorem breakHit_other {c : Fin 32} {s : State} (h : ∀ h, s.detectors[c].state ≠ .opened h) : breakHit c s = s := by
  unfold breakHit
  split
  · next o ho => exact absurd ho (h o)
  · rfl
  · rfl
  · rfl

theorem stretchChannel_mapped {n : Nat} {e : Tick} {c : Fin 32} {s : State} (h : s.sensorMap[c] ≠ none) :
    stretchChannel n e c s = missingLines c n (sealChannel c
      ((breakHit c s).setDetector c { (breakHit c s).detectors[c] with horizon := some (tickBack e 1) })) :=
  if_pos (Option.isSome_iff_ne_none.2 h)

theorem stretchChannel_detector {n : Nat} {e : Tick} {c : Fin 32} {s : State} (h : s.sensorMap[c] ≠ none) :
    (stretchChannel n e c s).detectors[c] = { (breakHit c s).detectors[c] with horizon := some (tickBack e 1) } := by
  have hcapture : BlindCapture State.detectors := ⟨⟨fun _ _ => rfl⟩, fun _ _ => rfl⟩
  rw [stretchChannel_mapped h, missingLines_same hcapture, sealChannel_same hcapture, State.setDetector_get, if_pos rfl]

theorem laneArrival_settings (l : Fin 4) (frame : List Byte) (s : State) : SameSettings s (laneArrival l frame s) := by
  constructor <;> exact laneArrival_same ⟨⟨fun _ _ => rfl, fun _ _ => rfl, fun _ _ => rfl, fun _ _ => rfl,
    fun _ _ => rfl, fun _ _ => rfl, fun _ _ => rfl, fun _ _ => rfl, fun _ _ => rfl⟩, fun _ _ => rfl⟩ l frame s

theorem settledArrival_settings (l : Fin 4) (frame : List Byte) (s : State) :
    SameSettings s (settleCapture (laneArrival l frame s)) :=
  (laneArrival_settings l frame s).trans (settleCapture_steady _).toSameSettings

theorem readLaneFrame_pod {frame : List Byte} {f : LaneFrame} (h : readLaneFrame .pod frame = some f) :
    ∃ g, f = .sample g := by
  obtain ⟨g, _, rfl⟩ := Option.map_eq_some_iff.1 h
  exact ⟨g, rfl⟩

theorem readLaneFrame_gauge {frame : List Byte} {f : LaneFrame} (h : readLaneFrame .gauge frame = some f) :
    ∃ g, f = .gauge g := by
  obtain ⟨g, _, rfl⟩ := Option.map_eq_some_iff.1 h
  exact ⟨g, rfl⟩

/-- The lane after the frame that revealed a SKIP. -/
theorem skippedLane_eq {x : Lane} {frame : List Byte} {f : LaneFrame} (h : readLaneFrame x.role frame = some f) (d : Nat)
    (stamp : Tick) :
    { (x.skipped d).stretched d with expSeq := some f.seq }.delivered f stamp =
      { x with
        skipTally := min 65535 (x.skipTally + d), failures := 0, expSeq := some (f.seq + 1)
        expTick := if x.role = .pod then some (tickAdd stamp 16) else x.expTick } := by
  cases hrole : x.role with
  | pod =>
    obtain ⟨g, rfl⟩ := readLaneFrame_pod (hrole ▸ h)
    simp only [Lane.delivered, Lane.stretched, Lane.skipped, if_true, hrole]
  | gauge =>
    obtain ⟨g, rfl⟩ := readLaneFrame_gauge (hrole ▸ h)
    simp only [Lane.delivered, Lane.stretched, Lane.skipped, hrole, reduceCtorEq, if_false]
  | off => exact nomatch (hrole ▸ h : readLaneFrame .off frame = some f)

/-- Settles O10: a frame that fails is read off the lane that it leaves, a SKIP off the two lanes it passes. -/
theorem brokenStretchCounted : Obligations.BrokenStretchCounted := by
  refine ⟨fun l frame s hr hs hfail => ?fails, fun l frame f q s hr hs hf hq h1 h127 => ?skips,
    fun l frame f s hr hs hf hq hfed => ?ordered, fun n e c s => ⟨fun h => ?unmapped, fun h => ?mapped⟩⟩
  case fails =>
    have harrives : laneArrival l frame s = failFrame l (drainLane l s) :=
      (laneArrival_up hs frame).trans (upFrame_fails hfail)
    have hlanes (k : Fin 4) := failFrame_lanes l (drainLane l s) k
    simp only [drainLane_lanes, ← harrives] at hlanes
    refine ⟨settleCapture (laneArrival l frame s), exec_sampleFrame_eq hr, exec_gaugeFrame_eq hr, fun k hk => ?others, ?lane,
      ?effects, settledArrival_settings l frame s⟩
    case others => rw [settleCapture_lanes, hlanes, if_neg hk]
    case lane =>
      intro x
      rw [settleCapture_lanes, hlanes, if_pos rfl]
      exact if_congr Iff.rfl rfl rfl
    case effects =>
      intro x y u
      have hgauge (hrole : x.role = .gauge) : laneArrival l frame s = failFrame l s := by
        rw [harrives, drainLane_gauge hrole]
      have hpod (hrole : x.role = .pod) (hfed : ∀ j : Fin 8, s.detectors[channelOf l j].feed = none) :
          laneArrival l frame s = failFrame l s := by
        rw [harrives, drainLane_pod hrole hfed]
      have hdown (h : 2 ≤ x.failures) : failFrame l s = tryAlign l (laneLeft l x.role u) := by
        have hup : (s.setLane l s.lanes[l].failed).lanes[l] = s.lanes[l].failed := by
          rw [State.setLane_get, if_pos rfl]
        rw [failFrame_third h, laneDown_up _ (by rw [hup]; exact hs), hup, State.setLane_setLane]
        rfl
      refine ⟨fun h hrole => ?_, fun h hrole => ?_, fun hrole hfed => ⟨fun h => ?_, fun h e he => ?_⟩⟩
      · rw [hgauge hrole, hdown h, hrole]
        rfl
      · have hother : (s.setLane l s.lanes[l].moved).lanes[l].role ≠ .pod := by
          rw [State.setLane_get, if_pos rfl]
          exact fun hp => nomatch hrole.symm.trans hp
        rw [hgauge hrole, failFrame_early h, podStretch_other hother]
        rfl
      · rw [hpod hrole hfed, hdown h, hrole]
        rfl
      · have hmoved : (s.setLane l s.lanes[l].moved).lanes[l] = s.lanes[l].moved := by
          rw [State.setLane_get, if_pos rfl]
        rw [hpod hrole hfed, failFrame_early h, podStretch_pod (by rw [hmoved]; exact hrole),
          missingStretch_some (e := e) (by rw [hmoved]; exact he), hmoved, State.setLane_setLane, forEach_channelsOf]
        rfl
  case skips =>
    have harrives : laneArrival l frame s = skipFrame l (f.seq - q).toNat f (drainLane l s) :=
      (laneArrival_up hs frame).trans (upFrame_skips hf hq h1 h127)
    have hstamp : stampNow (drainLane l s) l = stampNow s l :=
      stampNow_congr (drainLane_same blindTimebase_hits l s) l (by rw [drainLane_lanes])
    have hlanes := skipFrame_lanes l (f.seq - q).toNat f (drainLane l s)
    rw [← harrives, drainLane_lanes, hstamp] at hlanes
    obtain ⟨hlane, hothers⟩ := put_others hlanes
    refine ⟨settleCapture (laneArrival l frame s), exec_sampleFrame_eq hr, exec_gaugeFrame_eq hr, fun k hk => ?_, ?_,
      ?effects, settledArrival_settings l frame s⟩
    · rw [settleCapture_lanes, hothers k hk]
    · rw [settleCapture_lanes, hlane]
      exact skippedLane_eq hf _ _
    case effects =>
      intro d x
      have hskipped : (s.setLane l (s.lanes[l].skipped d)).lanes[l] = x := by
        rw [State.setLane_get, if_pos rfl]
        rfl
      refine ⟨fun hrole => ?_, fun hrole hfed e he => ?_⟩
      · have hother : (s.setLane l (s.lanes[l].skipped d)).lanes[l].role ≠ .pod := by
          rw [hskipped, hrole]
          exact (nomatch ·)
        rw [harrives, drainLane_gauge hrole, skipFrame_eq, podStretch_other hother, State.expecting, hskipped,
          State.setLane_setLane]
      · rw [harrives, drainLane_pod hrole hfed, skipFrame_eq, podStretch_pod (by rw [hskipped]; exact hrole),
          missingStretch_some (e := e) (by rw [hskipped]; exact he), hskipped, State.setLane_setLane, forEach_channelsOf]
        rfl
  case ordered =>
    have hdrained : drainLane l s = s := by
      cases hrole : s.lanes[l].role with
      | pod => exact drainLane_pod hrole (hfed hrole)
      | gauge => exact drainLane_gauge hrole
      | off => simp only [drainLane, hrole]
    have harrives : laneArrival l frame s = deliverFrame l f s := by
      rw [laneArrival_up hs, upFrame_read hdrained hf, classifyFrame_ordered hq]
    rw [exec_sampleFrame_eq hr, exec_gaugeFrame_eq hr, harrives]
    exact ⟨rfl, rfl⟩
  case unmapped => exact if_neg (by rw [h]; exact Bool.false_ne_true)
  case mapped =>
    intro broken
    have hbroken : breakHit c s = broken := by
      unfold broken
      split
      · next o ho => exact breakHit_opened ho
      · next hno => exact breakHit_other hno
    refine ⟨(stretchChannel_mapped h).trans (by rw [hbroken]; rfl), ?_, fun hquiet => ?_⟩
    · rw [stretchChannel_detector h]
      rfl
    · rw [stretchChannel_detector h, breakHit_other hquiet]

end Sys2Proof.Machine
end

section
/-! The ring writer: which part of the capture unit the writer and its writes are, what a voiding and a placement make of it, and
what they take from the segments (R130 to R133, R138, R142). -/

namespace Sys2Proof.Machine

/-! ## The writer's part of the capture unit -/

/-- The ring write that an access makes. -/
def Access.ringWrite (a : Access) : Option RingWrite :=
  match a.op with
  | .write w => some w
  | .readout _ _ _ _ => none
  | .dump _ _ => none

/-- What the ring writer works on: rings, ring size, port, queue, and the access in progress with its ring write. -/
structure Writer where
  rings : Vector Ring 32
  lines : Nat
  port : MemPort
  queue : List RingWrite
  current : Option (Option RingWrite)

def State.writer (s : State) : Writer :=
  { rings := s.capture.rings, lines := s.capture.ringLines, port := s.capture.port, queue := s.capture.queue,
    current := s.capture.access.map Access.ringWrite }

def Writer.writes (w : Writer) : List RingWrite := w.current.join.toList ++ w.queue

theorem State.ringWrites_eq (s : State) : s.ringWrites = s.writer.writes := by
  unfold State.ringWrites Writer.writes
  refine congrArg (· ++ s.capture.queue) ?_
  show _ = (s.capture.access.map Access.ringWrite).join.toList
  rcases s.capture.access with _ | ⟨_ | _ | _, _⟩ <;> rfl

theorem Access.dropSegment_ringWrite (i : Fin 64) (a : Access) : (a.dropSegment i).ringWrite = a.ringWrite := by
  obtain ⟨_ | _ | _, _⟩ := a <;> rfl

theorem offer_writer (r : Record) (b : Bool) (s : State) : (offer r b s).writer = s.writer :=
  offer_same ⟨fun _ _ => rfl⟩ r b s

theorem endSegment_writer (i : Fin 64) (g : Segment) (l d : Bool) (s : State) : (endSegment i g l d s).writer = s.writer := by
  unfold endSegment
  dsimp only
  refine Eq.trans ?_ (offer_writer (.trace (closingTrace s.run.address i g l d)) false s)
  refine congrArg (fun x => Writer.mk _ _ _ _ x) ?_
  show (Option.map (Access.dropSegment i) _).map Access.ringWrite = _
  rw [Option.map_map]
  exact congrArg (fun f => Option.map f _) (funext fun a => Access.dropSegment_ringWrite i a)

theorem keepOrEnd_writer (i : Fin 64) (g : Segment) (s : State) : (keepOrEnd i g s).writer = s.writer := by
  unfold keepOrEnd
  split
  · exact endSegment_writer i g _ _ s
  · rfl

theorem loseLine_writer (c : Fin 32) (k : Nat) (i : Fin 64) (s : State) : (loseLine c k i s).writer = s.writer := by
  unfold loseLine
  repeat' split
  all_goals simp only [keepOrEnd_writer]

theorem takeIndex_writer (c : Fin 32) (k : Nat) (s : State) : (takeIndex c k s).writer = s.writer :=
  forEach_same State.writer allSegments _ (fun i t => loseLine_writer c k i t) s

theorem sealChannel_writer (c : Fin 32) (s : State) : (sealChannel c s).writer = s.writer := by
  unfold sealChannel
  repeat' split
  all_goals simp only [keepOrEnd_writer]

theorem extendSegment_writer (c : Fin 32) (k : Nat) (s : State) : (extendSegment c k s).writer = s.writer := by
  unfold extendSegment
  dsimp only
  repeat' split
  · rfl
  · rfl
  · exact keepOrEnd_writer _ _ _
  · rfl
  · rfl

/-! ## Voiding lines (R130, R131, R133) -/

/-- A write of a ring line of channel `c` that `d` voids is voided. -/
def RingWrite.voidIn (c : Fin 32) (d : Nat → Bool) (w : RingWrite) : RingWrite :=
  if w.channel = c ∧ d w.index = true then { w with voided := true } else w

/-- The marks with the lines that `d` selects VOID. -/
def voidMarks (d : Nat → Bool) (l : List LineMark) : List LineMark := l.mapIdx fun j m => if d j then .void else m

/-- The writer with the lines of channel `c` that `d` selects voided. -/
def Writer.voided (c : Fin 32) (d : Nat → Bool) (w : Writer) : Writer :=
  { w with
    rings := put w.rings c { w.rings[c] with marks := voidMarks d w.rings[c].marks }
    queue := w.queue.map (RingWrite.voidIn c d)
    current := w.current.map (Option.map (RingWrite.voidIn c d)) }

/-- The writer with the write position and the ring tick of channel `c` moved. -/
def Writer.moved (c : Fin 32) (k : Nat) (x : Option Tick) (w : Writer) : Writer :=
  { w with rings := put w.rings c { w.rings[c] with writePos := k, ringTick := x } }

theorem voidIn_voidIn (c : Fin 32) (d e : Nat → Bool) (w : RingWrite) :
    (w.voidIn c d).voidIn c e = w.voidIn c fun j => d j || e j := by
  unfold RingWrite.voidIn
  by_cases hc : w.channel = c <;> by_cases hd : d w.index = true <;> simp [hc, hd]

theorem voidMarks_voidMarks (d e : Nat → Bool) (l : List LineMark) :
    voidMarks e (voidMarks d l) = voidMarks (fun j => d j || e j) l := by
  unfold voidMarks
  rw [List.mapIdx_mapIdx]
  refine congrArg (fun f => List.mapIdx f l) (funext fun j => funext fun m => ?_)
  cases hd : d j <;> simp [hd]

theorem put_get_self {α : Type} {n : Nat} (v : Vector α n) (i : Fin n) (x : α) : (put v i x)[i] = x :=
  (put_get v i i x).trans (if_pos rfl)

theorem Writer.voided_voided (c : Fin 32) (d e : Nat → Bool) (w : Writer) :
    (w.voided c d).voided c e = w.voided c fun j => d j || e j := by
  unfold Writer.voided
  simp only [put_get_self, put_put, voidMarks_voidMarks, List.map_map, Option.map_map]
  have hf : RingWrite.voidIn c e ∘ RingWrite.voidIn c d = RingWrite.voidIn c fun j => d j || e j :=
    funext fun x => voidIn_voidIn c d e x
  rw [hf]
  have hg : Option.map (RingWrite.voidIn c e) ∘ Option.map (RingWrite.voidIn c d) =
      Option.map (RingWrite.voidIn c fun j => d j || e j) := by
    rw [Option.map_comp_map, hf]
  rw [hg]

theorem Writer.voided_none (c : Fin 32) (w : Writer) : w.voided c (fun _ => false) = w := by
  have hw : RingWrite.voidIn c (fun _ => false) = id := funext fun x => if_neg fun h => nomatch h.2
  have hm : voidMarks (fun _ => false) w.rings[c].marks = w.rings[c].marks := by
    refine List.ext_getElem? fun j => ?_
    rw [voidMarks, List.getElem?_mapIdx]
    exact Option.map_id'
  unfold Writer.voided
  rw [hw, hm, List.map_id, Option.map_id_fun, Option.map_id_fun, put_self]
  rfl

theorem Writer.voided_writePos (c : Fin 32) (d : Nat → Bool) (w : Writer) :
    (w.voided c d).rings[c].writePos = w.rings[c].writePos := by
  simp only [Writer.voided, put_get_self]

theorem Writer.voided_ringTick (c : Fin 32) (d : Nat → Bool) (w : Writer) :
    (w.voided c d).rings[c].ringTick = w.rings[c].ringTick := by
  simp only [Writer.voided, put_get_self]

theorem Writer.moved_writePos (c : Fin 32) (k : Nat) (x : Option Tick) (w : Writer) :
    (w.moved c k x).rings[c].writePos = k := by
  simp only [Writer.moved, put_get_self]

theorem Writer.moved_moved (c : Fin 32) (k j : Nat) (x y : Option Tick) (w : Writer) :
    (w.moved c k x).moved c j y = w.moved c j y := by
  unfold Writer.moved
  simp only [put_get_self, put_put]

theorem Writer.moved_voided (c : Fin 32) (k : Nat) (x : Option Tick) (d : Nat → Bool) (w : Writer) :
    (w.moved c k x).voided c d = (w.voided c d).moved c k x := by
  unfold Writer.moved Writer.voided
  simp only [put_get_self, put_put]

theorem Writer.moved_self (c : Fin 32) (w : Writer) : w.moved c w.rings[c].writePos w.rings[c].ringTick = w := by
  unfold Writer.moved
  rw [put_self]

theorem voidMarks_single (k : Nat) (l : List LineMark) : l.set k .void = voidMarks (fun j => decide (j = k)) l := by
  refine List.ext_getElem? fun j => ?_
  unfold voidMarks
  rw [List.getElem?_mapIdx, List.getElem?_set]
  by_cases h : j = k
  · subst h
    by_cases hl : j < l.length
    · simp [hl]
    · simp [hl]
  · simp [h, Ne.symm h]

theorem voidMark_writer (c : Fin 32) (k : Nat) (s : State) :
    (voidMark c k s).writer = s.writer.voided c fun j => decide (j = k) := by
  have hw : RingWrite.void c k = RingWrite.voidIn c fun j => decide (j = k) := funext fun w => by
    simp only [RingWrite.void, RingWrite.voidIn, decide_eq_true_eq]
  have ha : ∀ a : Access, (a.mapWrite (RingWrite.void c k)).ringWrite =
      a.ringWrite.map (RingWrite.voidIn c fun j => decide (j = k)) := by
    rw [hw]
    rintro ⟨_ | _ | _, _⟩ <;> rfl
  have hcurrent : (s.capture.access.map (Access.mapWrite (RingWrite.void c k))).map Access.ringWrite =
      (s.capture.access.map Access.ringWrite).map (Option.map (RingWrite.voidIn c fun j => decide (j = k))) := by
    rw [Option.map_map, Option.map_map]
    exact congrArg (fun f => Option.map f s.capture.access) (funext ha)
  have hmarks := voidMarks_single k s.capture.rings[c].marks
  show Writer.mk (put s.capture.rings c { s.capture.rings[c] with marks := s.capture.rings[c].marks.set k .void })
    s.capture.ringLines s.capture.port (s.capture.queue.map (RingWrite.void c k))
    ((s.capture.access.map (Access.mapWrite (RingWrite.void c k))).map Access.ringWrite) = _
  rw [hw, hmarks, ← hw, hcurrent, hw]
  rfl

theorem voidIndex_writer (c : Fin 32) (k : Nat) (s : State) :
    (voidIndex c k s).writer = s.writer.voided c fun j => decide (j = k) :=
  (takeIndex_writer c k _).trans (voidMark_writer c k s)

/-- The `n` lines from the write position `p` onward, in a ring of `r` lines. -/
def ahead (r p n : Nat) (j : Nat) : Bool := decide (j < r) && decide ((j + r - p) % r < n)

theorem ahead_zero (r p : Nat) : ahead r p 0 = fun _ => false := funext fun j => by
  simp [ahead]

theorem ahead_succ {r p : Nat} (hp : p < r) (n : Nat) (j : Nat) :
    (ahead r p n j || decide (j = (p + n) % r)) = ahead r p (n + 1) j := by
  have hr : 0 < r := by omega
  have hdist : j < r → (j = (p + n) % r ↔ (j + r - p) % r = n % r) := by
    intro hj
    have hn := Nat.mod_lt n hr
    have hsum : (p + n) % r = (p + n % r) % r := by rw [Nat.add_mod_mod]
    rw [hsum]
    generalize n % r = m at hn
    rcases Nat.lt_or_ge (p + m) r with h | h
    · rw [Nat.mod_eq_of_lt h]
      rcases Nat.lt_or_ge j p with hjp | hjp
      · rw [Nat.mod_eq_of_lt (by omega)]
        omega
      · rw [Nat.mod_eq_sub_mod (by omega), Nat.mod_eq_of_lt (by omega)]
        omega
    · rw [Nat.mod_eq_sub_mod h, Nat.mod_eq_of_lt (by omega)]
      rcases Nat.lt_or_ge j p with hjp | hjp
      · rw [Nat.mod_eq_of_lt (by omega)]
        omega
      · rw [Nat.mod_eq_sub_mod (by omega), Nat.mod_eq_of_lt (by omega)]
        omega
  have hx := Nat.mod_lt (j + r - p) hr
  unfold ahead
  rw [Bool.eq_iff_iff]
  simp only [Bool.or_eq_true, Bool.and_eq_true, decide_eq_true_eq]
  constructor
  · rintro (⟨hj, hlt⟩ | heq)
    · exact ⟨hj, by omega⟩
    · have hj : j < r := heq ▸ Nat.mod_lt _ hr
      exact ⟨hj, by have := (hdist hj).1 heq; have := Nat.mod_le n r; omega⟩
  · rintro ⟨hj, hlt⟩
    rcases Nat.lt_or_ge ((j + r - p) % r) n with h | h
    · exact .inl ⟨hj, h⟩
    · refine .inr ((hdist hj).2 ?_)
      rw [Nat.mod_eq_of_lt (a := n) (by omega)]
      omega

theorem voidAhead_writer {c : Fin 32} {s : State} (hp : s.capture.rings[c].writePos < s.capture.ringLines) (n : Nat) :
    (voidAhead c n s).writer = s.writer.voided c (ahead s.capture.ringLines s.capture.rings[c].writePos n) := by
  unfold voidAhead forEach
  induction n with
  | zero => rw [ahead_zero, Writer.voided_none]; rfl
  | succ n ih =>
    rw [List.range_succ, List.foldl_append, List.foldl_cons, List.foldl_nil, voidIndex_writer, ih, Writer.voided_voided]
    exact congrArg (fun d => s.writer.voided c d) (funext fun j => ahead_succ hp n j)

/-! ## Placing a line (R130) -/

theorem advanceRing_writer (c : Fin 32) (n : Nat) (s : State) :
    (advanceRing c n s).writer = s.writer.moved c ((s.writer.rings[c].writePos + n) % s.writer.lines)
      (s.writer.rings[c].ringTick.map fun t => tickAdd t (16 * n)) := rfl

/-- How many lines a line with tick `t` voids, and where it is placed. -/
def Ring.meets (r : Nat) (g : Ring) (t : Tick) : Nat × Nat :=
  match g.step r t with
  | .here => (0, g.writePos)
  | .gap d => (d, (g.writePos + d) % r)
  | .restart => (r, g.writePos)

theorem meetLine_writer {c : Fin 32} {s : State} (hp : s.capture.rings[c].writePos < s.capture.ringLines) (t : Tick) :
    ∃ x, (meetLine c t s).writer =
      (s.writer.voided c (ahead s.capture.ringLines s.capture.rings[c].writePos
        (s.capture.rings[c].meets s.capture.ringLines t).1)).moved c
        (s.capture.rings[c].meets s.capture.ringLines t).2 x := by
  have hseal := sealChannel_writer c s
  have hvoid : ∀ n, (voidAhead c n (sealChannel c s)).writer =
      s.writer.voided c (ahead s.capture.ringLines s.capture.rings[c].writePos n) := by
    intro n
    have hrings : (sealChannel c s).capture.rings = s.capture.rings := congrArg Writer.rings hseal
    have hlines : (sealChannel c s).capture.ringLines = s.capture.ringLines := congrArg Writer.lines hseal
    rw [voidAhead_writer (by rw [hrings, hlines]; exact hp), hseal, hrings, hlines]
  unfold meetLine Ring.meets
  cases s.capture.rings[c].step s.capture.ringLines t with
  | here =>
    refine ⟨s.writer.rings[c].ringTick, ?_⟩
    dsimp only
    rw [ahead_zero, Writer.voided_none]
    exact (Writer.moved_self c s.writer).symm
  | gap d =>
    have hgap := advanceRing_writer c d (voidAhead c d (sealChannel c s))
    rw [hvoid d, Writer.voided_writePos, Writer.voided_ringTick] at hgap
    exact ⟨_, hgap⟩
  | restart =>
    have hv := hvoid s.capture.ringLines
    have hmoved : ((voidAhead c s.capture.ringLines (sealChannel c s)).setRing c
        { (voidAhead c s.capture.ringLines (sealChannel c s)).capture.rings[c] with ringTick := some t }).writer =
        (voidAhead c s.capture.ringLines (sealChannel c s)).writer.moved c
          (voidAhead c s.capture.ringLines (sealChannel c s)).writer.rings[c].writePos (some t) := rfl
    rw [hv, Writer.voided_writePos] at hmoved
    exact ⟨_, hmoved⟩

/-- The writer after the free, READY port has begun the write at the head of the queue. -/
def Writer.begun (w : Writer) : Writer :=
  match w.current, w.port, w.queue with
  | none, .ready, y :: rest => { w with current := some (some y), queue := rest }
  | _, _, _ => w

/-- The writer with a write at the end of its queue, begun at once when it can be. -/
def Writer.queued (x : RingWrite) (w : Writer) : Writer := Writer.begun { w with queue := w.queue ++ [x] }

theorem beginWrite_writer (s : State) : (beginWrite s).writer = s.writer.begun := by
  unfold beginWrite Writer.begun
  split
  · next w rest ha hp hq =>
    have hc : s.writer.current = none := congrArg (Option.map Access.ringWrite) ha
    simp only [hc, show s.writer.port = .ready from hp, show s.writer.queue = w :: rest from hq]
    exact congrArg (fun p => Writer.mk s.capture.rings s.capture.ringLines p rest (some (some w))) hp
  · next hno =>
    split
    · next w rest hc hp hq => exact (hno w rest (Option.map_eq_none_iff.1 hc) hp hq).elim
    · rfl

theorem queueLine_writer (c : Fin 32) (k : Nat) (data : Line) (s : State) :
    (queueLine c k data s).writer =
      if s.writer.queue.length < 128 then s.writer.queued { channel := c, index := k, data := data, voided := false }
      else s.writer.voided c fun j => decide (j = k) := by
  unfold queueLine
  by_cases h : s.capture.queue.length < 128
  · rw [if_pos h, beginWrite_writer]
    exact (if_pos h).symm
  · rw [if_neg h, voidMark_writer]
    exact (if_neg h).symm

theorem Writer.begun_rings (w : Writer) : w.begun.rings = w.rings := by
  unfold Writer.begun
  split <;> rfl

theorem Writer.begun_lines (w : Writer) : w.begun.lines = w.lines := by
  unfold Writer.begun
  split <;> rfl

theorem Writer.begun_port (w : Writer) : w.begun.port = w.port := by
  unfold Writer.begun
  split <;> rfl

theorem Writer.begun_writes (w : Writer) : w.begun.writes = w.writes := by
  unfold Writer.begun Writer.writes
  split
  · next hc hp hq => rw [hq, hc]; rfl
  · rfl

theorem Writer.queued_writes (x : RingWrite) (w : Writer) : (w.queued x).writes = w.writes ++ [x] :=
  (Writer.begun_writes _).trans (List.append_assoc _ _ _).symm

theorem Writer.queued_current {w : Writer} (x : RingWrite) (h : w.port = .ready) : (w.queued x).current ≠ none := by
  obtain ⟨rings, lines, port, queue, current⟩ := w
  cases h
  cases current <;> cases queue <;> exact nofun

/-- The writer after a line with tick `t` is placed at the write position `k`. -/
def Writer.placed (c : Fin 32) (k : Nat) (t : Tick) (data : Line) (w : Writer) : Writer :=
  (if w.queue.length < 128 then w.queued { channel := c, index := k, data := data, voided := false }
    else w.voided c fun j => decide (j = k)).moved c ((k + 1) % w.lines) (some (tickAdd t 16))

theorem Writer.moved_queued (c : Fin 32) (k : Nat) (x : Option Tick) (y : RingWrite) (w : Writer) :
    (w.moved c k x).queued y = (w.queued y).moved c k x := by
  obtain ⟨rings, lines, port, queue, current⟩ := w
  cases current <;> cases port <;> cases queue <;> rfl

theorem Writer.moved_placed (c : Fin 32) (j k : Nat) (x : Option Tick) (t : Tick) (data : Line) (w : Writer) :
    (w.moved c j x).placed c k t data = w.placed c k t data := by
  unfold Writer.placed
  rw [moved_queued, moved_voided]
  split
  · next h => rw [if_pos (show w.queue.length < 128 from h)]; exact moved_moved _ _ _ _ _ _
  · next h => rw [if_neg (show ¬ w.queue.length < 128 from h)]; exact moved_moved _ _ _ _ _ _

theorem placeAtWritePos_writer (c : Fin 32) (t : Tick) (data : Line) (s : State) :
    (placeAtWritePos c t data s).writer = s.writer.placed c s.capture.rings[c].writePos t data := by
  have htaken := takeIndex_writer c s.capture.rings[c].writePos s
  have hqueued := queueLine_writer c s.capture.rings[c].writePos data (takeIndex c s.capture.rings[c].writePos s)
  rw [htaken] at hqueued
  unfold placeAtWritePos
  refine (extendSegment_writer _ _ _).trans ?_
  have hmoved : ∀ u : State, (u.setRing c { u.capture.rings[c] with
      writePos := (s.capture.rings[c].writePos + 1) % u.capture.ringLines, ringTick := some (tickAdd t 16) }).writer =
      u.writer.moved c ((s.capture.rings[c].writePos + 1) % u.writer.lines) (some (tickAdd t 16)) := fun u => rfl
  rw [hmoved, hqueued]
  unfold Writer.placed
  split
  · rw [Writer.queued, Writer.begun_lines]
  · rfl

theorem ringWriting_iff (s : State) : s.ringWriting = true ↔
    (s.run.state = .run ∨ s.run.state = .tailing) ∧ s.capture.port = .ready := by
  unfold State.ringWriting
  rw [Bool.and_eq_true, measuring_iff, beq_iff_eq]

theorem ringLine_writer {c : Fin 32} {s : State} (hw : s.ringWriting = true)
    (hp : s.capture.rings[c].writePos < s.capture.ringLines) (t : Tick) (data : Line) :
    (ringLine c t data s).writer =
      (s.writer.voided c (ahead s.capture.ringLines s.capture.rings[c].writePos
        (s.capture.rings[c].meets s.capture.ringLines t).1)).placed c
        (s.capture.rings[c].meets s.capture.ringLines t).2 t data := by
  obtain ⟨x, hmeet⟩ := meetLine_writer hp t
  have hpos : (meetLine c t s).writer.rings[c].writePos = (s.capture.rings[c].meets s.capture.ringLines t).2 := by
    rw [hmeet, Writer.moved_writePos]
  unfold ringLine
  rw [if_pos hw, placeAtWritePos_writer]
  show Writer.placed c (meetLine c t s).writer.rings[c].writePos t data _ = _
  rw [hpos, hmeet, Writer.moved_placed]

theorem missingLines_writer {c : Fin 32} {s : State} (hw : s.ringWriting = true) {x : Tick}
    (hx : s.capture.rings[c].ringTick = some x)
    (hp : s.capture.rings[c].writePos < s.capture.ringLines) (n : Nat) :
    (missingLines c n s).writer =
      (s.writer.voided c (ahead s.capture.ringLines s.capture.rings[c].writePos n)).moved c
        ((s.capture.rings[c].writePos + n) % s.capture.ringLines) (some (tickAdd x (16 * n))) := by
  have hgo : (s.ringWriting && (s.capture.rings[c].ringTick).isSome) = true := by rw [hw, hx]; rfl
  unfold missingLines
  rw [if_pos hgo, advanceRing_writer, voidAhead_writer hp, Writer.voided_writePos, Writer.voided_ringTick]
  show Writer.moved c _ (s.capture.rings[c].ringTick.map _) _ = _
  rw [hx]
  rfl

end Sys2Proof.Machine
end

section
/-! What a placed or voided line takes from the segments, and the ring lines obligation (R130 to R133, R138, R142). -/

namespace Sys2Proof.Machine

/-! ## What a taken line leaves of a segment (R142) -/

/-- A segment as it is kept: none when it has lost lines, has none left to read and is not FILLING. -/
def Segment.kept (g : Segment) : Option Segment := if g.stage ≠ .filling ∧ g.lost ≠ [] ∧ g.unread = [] then none else some g

/-- What the taking of index `k` of channel `c` leaves of a segment. -/
def Segment.taken (c : Fin 32) (k r : Nat) (g : Segment) : Option Segment :=
  if g.channel = c then
    match g.unreadAt r k with
    | none => some g
    | some o => ({ g with lost := g.lost ++ [o] } : Segment).kept
  else some g

theorem keepOrEnd_segments (i : Fin 64) (g : Segment) (s : State) :
    (keepOrEnd i g s).capture.segments = put s.capture.segments i g.kept := by
  unfold keepOrEnd Segment.kept
  split
  · exact endSegment_segments i g _ _ s
  · rfl

theorem keepOrEnd_segment (i : Fin 64) (g : Segment) (s : State) (j : Fin 64) :
    (keepOrEnd i g s).capture.segments[j] = if j = i then g.kept else s.capture.segments[j] := by
  rw [keepOrEnd_segments]
  exact put_get _ _ _ _

theorem put_id {α : Type} {n : Nat} (v : Vector α n) (i j : Fin n) (x : α) (h : v[i] = x) :
    v[j] = if j = i then x else v[j] := by
  split
  · next hj => rw [hj, h]
  · rfl

theorem loseLine_segment (c : Fin 32) (k : Nat) (i : Fin 64) (s : State) (j : Fin 64) :
    (loseLine c k i s).capture.segments[j] =
      if j = i then s.capture.segments[i].bind (Segment.taken c k s.capture.ringLines) else s.capture.segments[j] := by
  unfold loseLine
  cases hi : s.capture.segments[i] with
  | none => exact put_id _ i j none hi
  | some g =>
    dsimp only [Option.bind_some]
    unfold Segment.taken
    split
    · cases ho : g.unreadAt s.capture.ringLines k with
      | none => exact put_id _ i j (some g) hi
      | some o => exact keepOrEnd_segment i _ s j
    · exact put_id _ i j (some g) hi

theorem takeIndex_segment (c : Fin 32) (k : Nat) (s : State) (i : Fin 64) :
    (takeIndex c k s).capture.segments[i] = s.capture.segments[i].bind (Segment.taken c k s.capture.ringLines) := by
  unfold takeIndex allSegments
  have hall := forEach_all (g := fun t => t.capture.segments) (k := fun t => t.writer.lines)
    (h := fun _ r x => x.bind (Segment.taken c k r)) (fun i t => congrArg Writer.lines (loseLine_writer c k i t))
    (fun i t j => loseLine_segment c k i t j) s i
  exact hall

theorem Segment.taken_other {c : Fin 32} {k r : Nat} {g : Segment} (h : g.channel ≠ c ∨ g.unreadAt r k = none) :
    g.taken c k r = some g := by
  unfold taken
  split
  · next hc => rw [h.resolve_left (not_not.2 hc)]
  · rfl

theorem Segment.taken_lost {c : Fin 32} {k r : Nat} {g : Segment} {o : Int} (hc : g.channel = c)
    (ho : g.unreadAt r k = some o) : g.taken c k r = ({ g with lost := g.lost ++ [o] } : Segment).kept := by
  unfold taken
  rw [if_pos hc, ho]

theorem Segment.kept_some {g : Segment} (h : g.stage = .filling ∨ g.unread ≠ []) : g.kept = some g :=
  if_neg fun hk => h.elim hk.1 fun hu => hu hk.2.2

theorem Segment.kept_none {g : Segment} (hs : g.stage ≠ .filling) (hl : g.lost ≠ []) (hu : g.unread = []) : g.kept = none :=
  if_pos ⟨hs, hl, hu⟩

theorem Segment.kept_eq {g x : Segment} (h : g.kept = some x) : x = g := by
  unfold kept at h
  split at h
  · exact nomatch h
  · exact (Option.some.inj h).symm

/-- A segment from which a line is taken keeps its channel and its stage. -/
theorem Segment.taken_stage {c : Fin 32} {k r : Nat} {g x : Segment} (h : g.taken c k r = some x) :
    x.channel = g.channel ∧ x.stage = g.stage := by
  unfold taken at h
  repeat' split at h
  · obtain rfl := Option.some.inj h
    exact ⟨rfl, rfl⟩
  · obtain rfl := Segment.kept_eq h
    exact ⟨rfl, rfl⟩
  · obtain rfl := Option.some.inj h
    exact ⟨rfl, rfl⟩

theorem Segment.unreadAt_mem {r k : Nat} {g : Segment} {o : Int} (h : g.unreadAt r k = some o) :
    o ∈ g.order ∧ o ∉ g.lost ∧ lineIndex r g.trigger o = k := by
  have hmem := List.mem_of_find?_eq_some h
  have hk := List.find?_some h
  unfold Segment.unread at hmem
  rw [List.mem_filter] at hmem
  obtain ⟨hdrop, hlost⟩ := hmem
  exact ⟨List.mem_of_mem_drop hdrop, by simpa using hlost, by simpa using hk⟩

theorem lineIndex_cast {r : Nat} (hr : 0 < r) (t : Nat) (o : Int) : ((t : Int) + o) % (r : Int) = (lineIndex r t o : Nat) := by
  unfold lineIndex
  rw [Int.toNat_of_nonneg (Int.emod_nonneg _ (by omega))]

theorem Segment.mem_order {g : Segment} {o : Int} (h : o ∈ g.order) : -(g.pre : Int) ≤ o ∧ o < g.written := by
  unfold Segment.order at h
  simp only [List.bind_eq_flatMap, List.pure_def, List.mem_append, List.mem_map, List.mem_flatMap, List.mem_range,
    List.mem_singleton] at h
  rcases h with ⟨_, ⟨i, hi, rfl⟩, rfl⟩ | ⟨_, ⟨i, hi, rfl⟩, rfl⟩ <;> omega

/-- No line of a FILLING segment lies where its next line goes, in a ring with room for the whole segment. -/
theorem Segment.unreadAt_next {r : Nat} {g : Segment} (hw : g.written ≤ g.post) (hr : g.pre + g.post + 1 ≤ r) :
    g.unreadAt r ((g.trigger + g.written) % r) = none := by
  cases h : g.unreadAt r ((g.trigger + g.written) % r) with
  | none => rfl
  | some o =>
    obtain ⟨hmem, -, hk⟩ := Segment.unreadAt_mem h
    obtain ⟨hlo, hhi⟩ := Segment.mem_order hmem
    have hcast := lineIndex_cast (r := r) (by omega) g.trigger o
    rw [hk] at hcast
    have hmod : ((g.trigger : Int) + o) % (r : Int) = ((g.trigger : Int) + g.written) % (r : Int) := by
      rw [hcast]
      push_cast
      rfl
    obtain ⟨m, hm⟩ := (Int.emod_eq_emod_iff_emod_sub_eq_zero.1 hmod.symm |> Int.dvd_of_emod_eq_zero)
    have hpos : 0 < (r : Int) * m ∧ (r : Int) * m < r := by omega
    have hm0 : 0 < m := by
      by_contra hneg
      have := Int.mul_nonpos_of_nonneg_of_nonpos (Int.natCast_nonneg r) (not_lt.1 hneg)
      omega
    have := Int.mul_le_mul_of_nonneg_left (show (1 : Int) ≤ m by omega) (Int.natCast_nonneg r)
    omega

/-! ## A placed line and the segments (R138, R142) -/

theorem beginWrite_segments (s : State) : (beginWrite s).capture.segments = s.capture.segments := by
  unfold beginWrite
  split <;> rfl

theorem queueLine_segments (c : Fin 32) (k : Nat) (data : Line) (s : State) :
    (queueLine c k data s).capture.segments = s.capture.segments := by
  unfold queueLine
  split
  · exact beginWrite_segments _
  · rfl

theorem fillingOf_filling {c : Fin 32} {s : State} {i : Fin 64} (h : fillingOf s c = some i) :
    ∃ g, s.capture.segments[i] = some g ∧ g.channel = c ∧ g.stage = .filling :=
  (isFilling_iff s c i).1 (List.find?_some h)

/-- A line extends no segment that is not FILLING on its channel. -/
theorem extendSegment_other {c : Fin 32} {s : State} {i : Fin 64} (k : Nat)
    (h : ∀ g, s.capture.segments[i] = some g → g.channel = c → g.stage ≠ .filling) :
    (extendSegment c k s).capture.segments[i] = s.capture.segments[i] := by
  unfold extendSegment
  cases hj : fillingOf s c with
  | none => rfl
  | some j =>
    obtain ⟨g, hg, hc, hf⟩ := fillingOf_filling hj
    have hij : i ≠ j := by
      rintro rfl
      exact h g hg hc hf
    dsimp only
    rw [hg]
    dsimp only
    split
    · split
      · exact (keepOrEnd_segment _ _ _ _).trans (if_neg hij)
      · exact (State.setSegment_get _ _ _ _).trans (if_neg hij)
    · rfl

/-- What a placed line at index `k` makes of its channel's FILLING segment. -/
def Segment.extended (k r : Nat) (g : Segment) : Option Segment :=
  if k = (g.trigger + g.written) % r then
    if g.written + 1 = g.post + 1 then ({ g with written := g.written + 1, stage := .sealed } : Segment).kept
    else some { g with written := g.written + 1 }
  else some g

theorem extendSegment_filling {c : Fin 32} {s : State} {i : Fin 64} {g : Segment} (k : Nat) (h : fillingOf s c = some i)
    (hg : s.capture.segments[i] = some g) :
    (extendSegment c k s).capture.segments[i] = g.extended k s.capture.ringLines := by
  unfold extendSegment Segment.extended
  rw [h]
  dsimp only
  rw [hg]
  dsimp only
  split
  · split
    · exact (keepOrEnd_segment _ _ _ _).trans (if_pos rfl)
    · exact (State.setSegment_get _ _ _ _).trans (if_pos rfl)
  · exact hg

/-- The ring of channel `c` has moved on past the line with tick `t` at index `k`. -/
def ringPast (c : Fin 32) (k : Nat) (t : Tick) (u : State) : State :=
  u.setRing c { u.capture.rings[c] with writePos := (k + 1) % u.capture.ringLines, ringTick := some (tickAdd t 16) }

theorem State.writer_lines (s : State) : s.writer.lines = s.capture.ringLines := rfl

theorem ringPast_segments (c : Fin 32) (k : Nat) (t : Tick) (u : State) :
    (ringPast c k t u).capture.segments = u.capture.segments := rfl

theorem ringPast_writer (c : Fin 32) (k : Nat) (t : Tick) (u : State) :
    (ringPast c k t u).writer = u.writer.moved c ((k + 1) % u.writer.lines) (some (tickAdd t 16)) := rfl

/-- The state in which a placed line extends its channel's segment: the line is taken from the segments, its write is queued and
the ring has moved on. -/
def beforeExtend (c : Fin 32) (t : Tick) (data : Line) (s : State) : State :=
  ringPast c s.capture.rings[c].writePos t
    (queueLine c s.capture.rings[c].writePos data (takeIndex c s.capture.rings[c].writePos s))

theorem placeAtWritePos_eq (c : Fin 32) (t : Tick) (data : Line) (s : State) :
    placeAtWritePos c t data s = extendSegment c s.capture.rings[c].writePos (beforeExtend c t data s) := by
  have hstep : ∀ k u, extendSegment c k (u.setRing c { u.capture.rings[c] with
      writePos := (k + 1) % u.capture.ringLines, ringTick := some (tickAdd t 16) }) =
      extendSegment c k (ringPast c k t u) := fun _ _ => rfl
  unfold placeAtWritePos beforeExtend
  exact hstep _ _

theorem beforeExtend_segment (c : Fin 32) (t : Tick) (data : Line) (s : State) (i : Fin 64) :
    (beforeExtend c t data s).capture.segments[i] =
      s.capture.segments[i].bind (Segment.taken c s.capture.rings[c].writePos s.capture.ringLines) := by
  unfold beforeExtend
  rw [ringPast_segments, queueLine_segments]
  have htaken := takeIndex_segment c s.capture.rings[c].writePos s i
  generalize takeIndex c s.capture.rings[c].writePos s = u at htaken ⊢
  exact htaken

theorem beforeExtend_lines (c : Fin 32) (t : Tick) (data : Line) (s : State) :
    (beforeExtend c t data s).writer.lines = s.writer.lines := by
  unfold beforeExtend
  rw [ringPast_writer, queueLine_writer, takeIndex_writer]
  show Writer.lines (ite _ _ _) = _
  split
  · exact Writer.begun_lines _
  · rfl

/-- A placed line takes from a segment that is not FILLING the line that lay there, and no more. -/
theorem placeAtWritePos_sealed {c : Fin 32} {s : State} {i : Fin 64} {g : Segment} (t : Tick) (data : Line)
    (hg : s.capture.segments[i] = some g) (hf : g.stage ≠ .filling) :
    (placeAtWritePos c t data s).capture.segments[i] =
      g.taken c s.capture.rings[c].writePos s.capture.ringLines := by
  have hbefore : (beforeExtend c t data s).capture.segments[i] =
      g.taken c s.capture.rings[c].writePos s.capture.ringLines := by rw [beforeExtend_segment, hg]; rfl
  rw [placeAtWritePos_eq, extendSegment_other _ fun x hx _ => ?_, hbefore]
  rw [hbefore] at hx
  rw [(Segment.taken_stage hx).2]
  exact hf

/-- A placed line at its channel's one FILLING segment: the line that lay there is lost, and the segment is extended. -/
theorem placeAtWritePos_filling {c : Fin 32} {s : State} {i : Fin 64} {g x : Segment} (t : Tick) (data : Line)
    (hg : s.capture.segments[i] = some g) (hc : g.channel = c) (hf : g.stage = .filling)
    (hone : ∀ (j : Fin 64) (y : Segment), s.capture.segments[j] = some y → y.channel = c → y.stage = .filling → j = i)
    (hx : g.taken c s.capture.rings[c].writePos s.capture.ringLines = some x) :
    (placeAtWritePos c t data s).capture.segments[i] =
      x.extended s.capture.rings[c].writePos s.capture.ringLines := by
  have hbefore : (beforeExtend c t data s).capture.segments[i] = some x := by rw [beforeExtend_segment, hg]; exact hx
  obtain ⟨hxc, hxf⟩ := Segment.taken_stage hx
  have hfilling : fillingOf (beforeExtend c t data s) c = some i := by
    refine fillingOf_eq_some ⟨x, hbefore, hxc.trans hc, hxf.trans hf⟩ fun j hj => ?_
    obtain ⟨z, hz, hzc, hzf⟩ := hj
    rw [beforeExtend_segment] at hz
    obtain ⟨y, hy, hyz⟩ := Option.bind_eq_some_iff.1 hz
    obtain ⟨hcc, hff⟩ := Segment.taken_stage hyz
    exact hone j y hy (hcc.symm.trans hzc) (hff.symm.trans hzf)
  rw [placeAtWritePos_eq, extendSegment_filling _ hfilling hbefore]
  rw [← State.writer_lines, beforeExtend_lines, State.writer_lines]

/-- A line that meets the write position leaves the ring as it is before it is placed. -/
theorem meetLine_here {c : Fin 32} {t : Tick} {s : State}
    (h : s.capture.rings[c].ringTick = none ∨ s.capture.rings[c].ringTick = some t) : meetLine c t s = s := by
  unfold meetLine Ring.step
  rcases h with h | h
  · rw [h]
  · rw [h]
    dsimp only
    rw [if_pos rfl]

/-! ## The placement table (R130) -/

theorem Ring.meets_here {r : Nat} {q : Ring} {t : Tick} (h : q.ringTick = none ∨ q.ringTick = some t) :
    q.meets r t = (0, q.writePos) := by
  unfold meets step
  rcases h with h | h
  · rw [h]
  · rw [h]
    dsimp only
    rw [if_pos rfl]

theorem Ring.meets_gap {r v : Nat} {q : Ring} {t x : Tick} (hx : q.ringTick = some x) (hv : (t - x).toNat = 16 * v)
    (h1 : 1 ≤ v) (hr : v ≤ r - 1) : q.meets r t = (v, (q.writePos + v) % r) := by
  have hne : x ≠ t := by
    rintro rfl
    rw [BitVec.sub_self] at hv
    exact absurd hv (by show 0 ≠ 16 * v; omega)
  have hfrom : ticksFrom x t = 16 * v := hv
  have hdiv : 16 * v / 16 = v := Nat.mul_div_cancel_left v (by omega)
  unfold meets step
  rw [hx]
  dsimp only
  rw [if_neg hne, hfrom, hdiv, if_pos ⟨Nat.mul_mod_right 16 v, hr⟩]

theorem Ring.meets_restart {r : Nat} {q : Ring} {t x : Tick} (hx : q.ringTick = some x) (hne : x ≠ t)
    (hno : ¬ ∃ d, d ≤ r - 1 ∧ (t - x).toNat = 16 * d) : q.meets r t = (r, q.writePos) := by
  unfold meets step
  rw [hx]
  dsimp only
  rw [if_neg hne, if_neg fun h => hno ⟨ticksFrom x t / 16, h.2, ?_⟩]
  show ticksFrom x t = _
  omega

/-! ## What the writer's steps do to marks and writes -/

theorem Writer.voided_mark (c : Fin 32) (d : Nat → Bool) (w : Writer) (j : Nat) (hj : j < w.rings[c].marks.length) :
    (w.voided c d).rings[c].marks[j]? = if d j then some .void else w.rings[c].marks[j]? := by
  have hmarks : (w.voided c d).rings[c].marks = voidMarks d w.rings[c].marks := by simp only [Writer.voided, put_get_self]
  rw [hmarks, voidMarks, List.getElem?_mapIdx, List.getElem?_eq_getElem hj]
  cases d j <;> rfl

theorem Writer.moved_marks (c : Fin 32) (k : Nat) (x : Option Tick) (w : Writer) :
    (w.moved c k x).rings[c].marks = w.rings[c].marks := by simp only [Writer.moved, put_get_self]

theorem Writer.moved_ringTick (c : Fin 32) (k : Nat) (x : Option Tick) (w : Writer) :
    (w.moved c k x).rings[c].ringTick = x := by simp only [Writer.moved, put_get_self]

theorem Writer.moved_other {c d : Fin 32} (h : d ≠ c) (k : Nat) (x : Option Tick) (w : Writer) :
    (w.moved c k x).rings[d] = w.rings[d] := (put_get _ c d _).trans (if_neg h)

theorem Writer.voided_other {c d : Fin 32} (h : d ≠ c) (v : Nat → Bool) (w : Writer) :
    (w.voided c v).rings[d] = w.rings[d] := (put_get _ c d _).trans (if_neg h)

theorem Writer.voided_writes (c : Fin 32) (d : Nat → Bool) (w : Writer) :
    (w.voided c d).writes = w.writes.map (RingWrite.voidIn c d) := by
  unfold Writer.writes Writer.voided
  dsimp only
  rw [List.map_append]
  rcases w.current with _ | _ | _ <;> rfl

/-- The lines that a line placed at `k` after `v` missing ones voids: those missing, and its own when its write is dropped. -/
def placedVoid (r p v k : Nat) (dropped : Bool) (j : Nat) : Bool :=
  decide (j < r) && (decide ((j + r - p) % r < v) || (dropped && decide (j = k)))

/-- A placement after missing lines, as one voiding, the write, and one move. -/
theorem Writer.voided_placed {c : Fin 32} {r v k : Nat} {w : Writer} (hr : r = w.lines) (hk : k < r) (t : Tick) (data : Line) :
    (w.voided c (ahead r w.rings[c].writePos v)).placed c k t data =
      (if w.queue.length < 128 then
        (w.voided c (placedVoid r w.rings[c].writePos v k false)).queued
          { channel := c, index := k, data := data, voided := false }
      else w.voided c (placedVoid r w.rings[c].writePos v k true)).moved c ((k + 1) % r) (some (tickAdd t 16)) := by
  have hlen : (w.voided c (ahead r w.rings[c].writePos v)).queue.length = w.queue.length := List.length_map _
  have hkept : ahead r w.rings[c].writePos v = placedVoid r w.rings[c].writePos v k false := funext fun j => by
    simp [ahead, placedVoid]
  have hdropped : (fun j => ahead r w.rings[c].writePos v j || decide (j = k)) =
      placedVoid r w.rings[c].writePos v k true := funext fun j => by
    rw [Bool.eq_iff_iff]
    simp only [ahead, placedVoid, Bool.or_eq_true, Bool.and_eq_true, decide_eq_true_eq]
    constructor
    · rintro (⟨hj, h⟩ | rfl)
      · exact ⟨hj, .inl h⟩
      · exact ⟨hk, .inr ⟨trivial, rfl⟩⟩
    · rintro ⟨hj, h | h⟩
      · exact .inl ⟨hj, h⟩
      · exact .inr h.2
  unfold Writer.placed
  rw [hlen, Writer.voided_voided, hdropped, ← hkept]
  subst hr
  rfl

end Sys2Proof.Machine
end

section
/-! The ring lines obligation: placements, missing lines, and what segments lose and gain (R130 to R132, R138, R142). -/

namespace Sys2Proof.Machine

/-- The writer with the lines `void` selects voided and, unless it is dropped, a write joined to its queue. -/
def Writer.taking (c : Fin 32) (void : Bool → Nat → Bool) (x : RingWrite) (w : Writer) : Writer :=
  if w.queue.length < 128 then (w.voided c (void false)).queued x else w.voided c (void true)

theorem Writer.taking_eq {c : Fin 32} {void : Bool → Nat → Bool} {x : RingWrite} {w : Writer} {dropped : Bool}
    (hd : dropped = decide (128 ≤ w.queue.length)) :
    w.taking c void x = if dropped then w.voided c (void dropped) else (w.voided c (void dropped)).queued x := by
  unfold taking
  subst hd
  by_cases h : w.queue.length < 128
  · rw [if_pos h, decide_eq_false (by omega), if_neg Bool.false_ne_true]
  · rw [if_neg h, decide_eq_true (by omega), if_pos rfl]

theorem Writer.taking_rings {c : Fin 32} {void : Bool → Nat → Bool} {x : RingWrite} {w : Writer} {dropped : Bool}
    (hd : dropped = decide (128 ≤ w.queue.length)) : (w.taking c void x).rings = (w.voided c (void dropped)).rings := by
  rw [taking_eq hd]
  split
  · rfl
  · exact Writer.begun_rings _

theorem Writer.taking_writes {c : Fin 32} {void : Bool → Nat → Bool} {x : RingWrite} {w : Writer} {dropped : Bool}
    (hd : dropped = decide (128 ≤ w.queue.length)) :
    (w.taking c void x).writes = w.writes.map (RingWrite.voidIn c (void dropped)) ++ if dropped then [] else [x] := by
  rw [taking_eq hd]
  split
  · rw [Writer.voided_writes, List.append_nil]
  · rw [Writer.queued_writes, Writer.voided_writes]

theorem Writer.taking_current {c : Fin 32} {void : Bool → Nat → Bool} {x : RingWrite} {w : Writer}
    (hd : false = decide (128 ≤ w.queue.length)) (hp : w.port = .ready) : (w.taking c void x).current ≠ none := by
  rw [taking_eq hd, if_neg Bool.false_ne_true]
  exact Writer.queued_current x hp

/-- What a placement at `k` behind `v` missing lines makes of the rings and the ring writes. -/
theorem ringLine_placed {c : Fin 32} {s : State} {t : Tick} {data : Line} {v k : Nat} (hw : s.ringWriting = true)
    (hlen : s.capture.rings[c].marks.length = s.capture.ringLines)
    (hp : s.capture.rings[c].writePos < s.capture.ringLines)
    (hmeet : s.capture.rings[c].meets s.capture.ringLines t = (v, k)) (hk : k < s.capture.ringLines)
    {dropped : Bool} (hd : dropped = decide (128 ≤ s.capture.queue.length)) :
    let u := ringLine c t data s
    let void := placedVoid s.capture.ringLines s.capture.rings[c].writePos v k dropped
    u.capture.rings[c].writePos = (k + 1) % s.capture.ringLines ∧ u.capture.rings[c].ringTick = some (t + 16) ∧
    (∀ j, j < s.capture.ringLines →
      u.capture.rings[c].marks[j]? = if void j then some .void else s.capture.rings[c].marks[j]?) ∧
    (∀ d : Fin 32, d ≠ c → u.capture.rings[d] = s.capture.rings[d]) ∧
    u.ringWrites = s.ringWrites.map (RingWrite.voidIn c void) ++
      (if dropped then [] else [{ channel := c, index := k, data := data, voided := false }]) ∧
    (dropped = false → u.capture.access ≠ none) := by
  intro u void
  have hwriter : u.writer = (s.writer.taking c
      (placedVoid s.capture.ringLines s.writer.rings[c].writePos v k)
      { channel := c, index := k, data := data, voided := false }).moved c ((k + 1) % s.capture.ringLines)
      (some (tickAdd t 16)) := by
    have hline : u.writer = _ := ringLine_writer hw hp t data
    rw [hmeet] at hline
    exact hline.trans (Writer.voided_placed (State.writer_lines s).symm hk t data)
  have hrings := Writer.taking_rings (c := c) (void := placedVoid s.capture.ringLines s.writer.rings[c].writePos v k)
    (x := { channel := c, index := k, data := data, voided := false }) (w := s.writer) hd
  rw [State.ringWrites_eq u, State.ringWrites_eq s]
  refine ⟨?_, ?_, fun j hj => ?_, fun d hdc => ?_, ?_, fun hnot hnone => ?_⟩
  · show u.writer.rings[c].writePos = _
    rw [hwriter, Writer.moved_writePos]
  · show u.writer.rings[c].ringTick = _
    rw [hwriter, Writer.moved_ringTick]
    rfl
  · show u.writer.rings[c].marks[j]? = _
    rw [hwriter, Writer.moved_marks, hrings]
    exact Writer.voided_mark c void s.writer j (by rw [← hlen] at hj; exact hj)
  · show u.writer.rings[d] = _
    rw [hwriter, Writer.moved_other hdc, hrings]
    exact Writer.voided_other hdc _ _
  · rw [hwriter]
    exact Writer.taking_writes hd
  · have hcurrent : u.writer.current = none := congrArg (Option.map Access.ringWrite) hnone
    rw [hwriter] at hcurrent
    exact Writer.taking_current (hnot ▸ hd) ((ringWriting_iff s).1 hw).2 hcurrent

/-- What `n` missing lines make of the rings and the ring writes. -/
theorem missingLines_voided {c : Fin 32} {s : State} {x : Tick} (n : Nat) (hw : s.ringWriting = true)
    (hlen : s.capture.rings[c].marks.length = s.capture.ringLines)
    (hp : s.capture.rings[c].writePos < s.capture.ringLines) (hx : s.capture.rings[c].ringTick = some x) :
    let u := missingLines c n s
    let void := ahead s.capture.ringLines s.capture.rings[c].writePos n
    u.capture.rings[c].writePos = (s.capture.rings[c].writePos + n) % s.capture.ringLines ∧
    u.capture.rings[c].ringTick = some (x + BitVec.ofNat 48 (16 * n)) ∧
    (∀ j, j < s.capture.ringLines →
      u.capture.rings[c].marks[j]? = if void j then some .void else s.capture.rings[c].marks[j]?) ∧
    (∀ d : Fin 32, d ≠ c → u.capture.rings[d] = s.capture.rings[d]) ∧
    u.ringWrites = s.ringWrites.map (RingWrite.voidIn c void) := by
  intro u void
  have hwriter : u.writer = _ := missingLines_writer hw hx hp n
  rw [State.ringWrites_eq u, State.ringWrites_eq s]
  refine ⟨?_, ?_, fun j hj => ?_, fun d hdc => ?_, ?_⟩
  · show u.writer.rings[c].writePos = _
    rw [hwriter, Writer.moved_writePos]
  · show u.writer.rings[c].ringTick = _
    rw [hwriter, Writer.moved_ringTick]
    rfl
  · show u.writer.rings[c].marks[j]? = _
    rw [hwriter, Writer.moved_marks]
    exact Writer.voided_mark c void s.writer j (by rw [← hlen] at hj; exact hj)
  · show u.writer.rings[d] = _
    rw [hwriter, Writer.moved_other hdc]
    exact Writer.voided_other hdc _ _
  · rw [hwriter]
    exact Writer.voided_writes c void s.writer

/-- A line that meets the write position takes from the segments at that position. -/
theorem ringLine_here {c : Fin 32} {s : State} {t : Tick} {data : Line} (hw : s.ringWriting = true)
    (h : s.capture.rings[c].ringTick = none ∨ s.capture.rings[c].ringTick = some t) :
    ringLine c t data s = placeAtWritePos c t data s := by
  unfold ringLine
  rw [if_pos hw, meetLine_here h]

theorem lost_append_ne_nil (l : List Int) (o : Int) : l ++ [o] ≠ [] := by simp

/-- Settles O49: the writer's part of a placement is one voiding, one write and one move; a placed line takes the index it covers
from every segment and then extends the channel's FILLING segment. -/
theorem ringLinesPlaced : Obligations.RingLinesPlaced := by
  unfold Obligations.RingLinesPlaced
  refine ⟨fun c s => ?placing, fun c k i g s hg => ?taken⟩
  case placing =>
    intro q r voidBy
    refine ⟨fun hnot => ?idle, fun hrun hport hlen hp => ?writing⟩
    case idle =>
      have hw : ¬ s.ringWriting = true := fun h => hnot ((ringWriting_iff s).1 h)
      refine ⟨fun t data => if_neg hw, fun n => if_neg ?_⟩
      rw [Bool.and_eq_true]
      exact fun h => hw h.1
    case writing =>
      have hw : s.ringWriting = true := (ringWriting_iff s).2 ⟨hrun, hport⟩
      refine ⟨fun t data v k hcase => ?line, fun n => ⟨fun hnone => ?_, fun x hx => missingLines_voided n hw hlen hp hx⟩⟩
      case line =>
        have hmeet : s.capture.rings[c].meets s.capture.ringLines t = (v, k) ∧ k < s.capture.ringLines := by
          rcases hcase with ⟨htick, rfl, rfl⟩ | ⟨x, hx, hv, h1, hr, rfl⟩ | ⟨x, hx, hne, hno, rfl, rfl⟩
          · exact ⟨Ring.meets_here htick, hp⟩
          · exact ⟨Ring.meets_gap hx hv h1 hr, Nat.mod_lt _ (by omega)⟩
          · exact ⟨Ring.meets_restart hx hne hno, hp⟩
        have hhere : v = 0 → k = q.writePos ∧ ringLine c t data s = placeAtWritePos c t data s := by
          intro hv
          rcases hcase with ⟨htick, -, rfl⟩ | ⟨x, hx, -, h1, -⟩ | ⟨x, hx, hne, hno, hvr, rfl⟩
          · exact ⟨rfl, ringLine_here hw htick⟩
          · omega
          · omega
        obtain ⟨hpos, htick, hmarks, hothers, hwrites, haccess⟩ := ringLine_placed (data := data) hw hlen hp hmeet.1 hmeet.2 rfl
        refine ⟨hpos, htick, hmarks, hothers, hwrites, haccess, fun hv i g o hg hc hf ho => ?_,
          fun hv i g hg hc hf hone hwritten hroom => ?_⟩
        · obtain ⟨rfl, hplaced⟩ := hhere hv
          rw [hplaced, placeAtWritePos_sealed t data hg hf, Segment.taken_lost hc ho]
          by_cases hu : ({ g with lost := g.lost ++ [o] } : Segment).unread = []
          · rw [Segment.kept_none (g := { g with lost := g.lost ++ [o] }) hf (lost_append_ne_nil _ _) hu, if_pos hu]
          · rw [Segment.kept_some (.inr hu), if_neg hu]
        · obtain ⟨rfl, hplaced⟩ := hhere hv
          refine ⟨fun hk => ?next, fun hk => ?past⟩
          case next =>
            have hnone := Segment.unreadAt_next hwritten hroom
            rw [← hk] at hnone
            have hext := placeAtWritePos_filling t data hg hc hf hone (Segment.taken_other (.inr hnone))
            rw [hplaced, hext, Segment.extended, if_pos hk]
            refine ⟨fun hmore => if_neg (by omega), fun hlast => ?_⟩
            rw [if_pos (by omega)]
            unfold Segment.kept
            refine if_congr ⟨fun h => h.2, fun h => ⟨nofun, h⟩⟩ rfl rfl
          case past =>
            rw [hplaced]
            cases ho : g.unreadAt s.capture.ringLines s.capture.rings[c].writePos with
            | none =>
              rw [placeAtWritePos_filling t data hg hc hf hone (Segment.taken_other (.inr ho))]
              exact if_neg hk
            | some o =>
              have htaken := (Segment.taken_lost hc ho).trans (Segment.kept_some (.inl hf))
              rw [placeAtWritePos_filling t data hg hc hf hone htaken]
              exact if_neg hk
      · refine if_neg ?_
        rw [hnone, Option.isSome_none, Bool.and_false]
        exact Bool.false_ne_true
  case taken =>
    have hseg := takeIndex_segment c k s i
    rw [hg, Option.bind_some] at hseg
    refine ⟨fun h => hseg.trans (Segment.taken_other h), fun o hc ho => ?_, fun o ho => ?_⟩
    · rw [Segment.taken_lost hc ho] at hseg
      exact ⟨fun h => hseg.trans (Segment.kept_some h),
        fun hf hu => hseg.trans (Segment.kept_none hf (lost_append_ne_nil _ _) hu)⟩
    · obtain ⟨hmem, hlost, hk⟩ := Segment.unreadAt_mem ho
      refine ⟨hmem, hlost, fun hr => ?_⟩
      rw [lineIndex_cast hr, hk]

end Sys2Proof.Machine
end

section
/-! A sample frame in order: the lane, and what each slot does to its own channel (R14, R15, R54, R58, R59, R130). -/

namespace Sys2Proof.Machine

/-- Of work whose pieces keep `P` and, each but one, leave `g` alone, `g` after the whole is `g` after that one piece. -/
theorem forEach_once {α β : Type} {P : State → Prop} {g : State → β} {f : α → State → State} {a : α}
    (hP : ∀ b s, P s → P (f b s)) (hg : ∀ b s, b ≠ a → P s → g (f b s) = g s) {l : List α} (hl : l.Nodup) (ha : a ∈ l)
    (s : State) (hs : P s) : ∃ u, P u ∧ g u = g s ∧ g (forEach l f s) = g (f a u) := by
  induction l generalizing s with
  | nil => exact nomatch ha
  | cons b l ih =>
    obtain ⟨hb, hl⟩ := List.nodup_cons.1 hl
    by_cases hab : b = a
    · subst hab
      have hrest : ∀ (l' : List α), b ∉ l' → ∀ t, P t → g (forEach l' f t) = g t := by
        intro l' hl'
        induction l' with
        | nil => exact fun t _ => rfl
        | cons d l' ih' =>
          intro t ht
          have hd : d ≠ b := fun h => hl' (h ▸ List.mem_cons_self)
          rw [forEach_cons, ih' (fun h => hl' (List.mem_cons_of_mem _ h)) _ (hP d t ht), hg d t hd ht]
      exact ⟨s, hs, rfl, hrest l hb _ (hP b s hs)⟩
    · obtain ⟨u, hu, hus, hend⟩ := ih hl ((List.mem_cons.1 ha).resolve_left (Ne.symm hab)) (f b s) (hP b s hs)
      exact ⟨u, hu, hus.trans (hg b s hab hs), hend⟩

/-! ## The ring writer leaves the rest alone -/

/-- What no step of the ring writer at channel `c` changes. -/
structure BlindWriter {β : Type} (c : Fin 32) (g : Writer → β) : Prop where
  voided : ∀ d w, g (w.voided c d) = g w
  moved : ∀ k x w, g (w.moved c k x) = g w
  queued : ∀ x w, g (Writer.queued x w) = g w

theorem voidAhead_blind {β : Type} {c : Fin 32} {g : Writer → β} (h : BlindWriter c g) (n : Nat) (s : State) :
    g (voidAhead c n s).writer = g s.writer :=
  forEach_same (fun t => g t.writer) (List.range n) _ (fun j t => by rw [voidIndex_writer, h.voided]) s

theorem meetLine_blind {β : Type} {c : Fin 32} {g : Writer → β} (h : BlindWriter c g) (t : Tick) (s : State) :
    g (meetLine c t s).writer = g s.writer := by
  have hring : ∀ (u : State) (x : Tick), g (u.setRing c { u.capture.rings[c] with ringTick := some x }).writer = g u.writer :=
    fun u x => h.moved u.writer.rings[c].writePos (some x) u.writer
  unfold meetLine
  dsimp only
  split
  · rfl
  · rw [advanceRing_writer, h.moved, voidAhead_blind h, sealChannel_writer]
  · rw [hring, voidAhead_blind h, sealChannel_writer]

theorem ringLine_blind {β : Type} {c : Fin 32} {g : Writer → β} (h : BlindWriter c g) (t : Tick) (data : Line) (s : State) :
    g (ringLine c t data s).writer = g s.writer := by
  unfold ringLine
  split
  · rw [placeAtWritePos_writer, Writer.placed, h.moved]
    split
    · rw [h.queued, meetLine_blind h]
    · rw [h.voided, meetLine_blind h]
  · rfl

theorem blindWriter_other {c d : Fin 32} (h : d ≠ c) : BlindWriter c (fun w => w.rings[d]) :=
  ⟨fun v w => Writer.voided_other h v w, fun k x w => Writer.moved_other h k x w,
    fun x w => congrArg (fun r : Vector Ring 32 => r[d]) (Writer.begun_rings { w with queue := w.queue ++ [x] })⟩

theorem blindWriter_port (c : Fin 32) : BlindWriter c Writer.port :=
  ⟨fun _ _ => rfl, fun _ _ _ => rfl, fun _ _ => Writer.begun_port _⟩

theorem ringLine_ringTick {c : Fin 32} {s : State} (h : s.ringWriting = true) (t : Tick) (data : Line) :
    (ringLine c t data s).writer.rings[c].ringTick = some (tickAdd t 16) := by
  unfold ringLine
  rw [if_pos h, placeAtWritePos_writer, Writer.placed, Writer.moved_ringTick]

/-! ## What a slot does (R15, R54, R59) -/

theorem doneTest_untested {s : State} (h : s.pulse.test = .none) : doneTest s = s := by
  simp only [doneTest, h]

theorem unitTests_untested {s : State} (h : s.pulse.test = .none) : unitTests s = closeTest s :=
  doneTest_untested (by rw [closeTest_same (g := State.pulse) ⟨⟨⟨fun _ _ => rfl⟩, fun _ _ => rfl⟩, fun _ _ => rfl⟩]; exact h)

/-- With no test in flight a slot's samples leave alone what neither its detector nor the closing of groups changes. -/
theorem deliverSamples_same {β : Type} {g : State → β} {c : Fin 32} (h : BlindGroup g)
    (hd : ∀ s x, g (s.setDetector c x) = g s) (t : Tick) (line : Line) (mark : Bool) {s : State}
    (hs : s.pulse.test = .none) : g (deliverSamples c t line mark s) = g s := by
  unfold deliverSamples frameDealt
  dsimp only
  split
  · split
    · rw [unitTests_untested (by exact hs), closeTest_same h, hd]
    · exact hd _ _
  · exact hd _ _

theorem deliverSlot_mapped {l : Fin 4} {j : Fin 8} {s : State} (t : Tick) (f : SampleFrame)
    (h : (s.sensorMap[channelOf l j]).isSome = true) :
    deliverSlot l t f j s = deliverSamples (channelOf l j) t (f.slot j) (f.mark j)
      (ringLine (channelOf l j) t (f.slot j) s) := by
  obtain ⟨n, hn⟩ := Option.isSome_iff_exists.1 h
  unfold deliverSlot
  dsimp only
  rw [hn]

theorem deliverSlot_unmapped {l : Fin 4} {j : Fin 8} {s : State} (t : Tick) (f : SampleFrame)
    (h : ¬ (s.sensorMap[channelOf l j]).isSome = true) : deliverSlot l t f j s = s := by
  unfold deliverSlot
  dsimp only
  rw [Option.not_isSome_iff_eq_none.1 h]

/-- What of a state decides what a slot does, besides its own detector and ring. -/
structure SlotContext (s t : State) : Prop where
  test : t.pulse.test = .none
  sensors : t.sensorMap = s.sensorMap
  writing : t.ringWriting = s.ringWriting

/-- With no test in flight a slot changes, of what samples and ring lines change, its own channel's detector and ring. -/
theorem deliverSlot_only {β : Type} {g : State → β} {l : Fin 4} {j : Fin 8} (hring : ∀ t x s, g (ringLine (channelOf l j) t x s) = g s)
    (h : BlindGroup g) (hd : ∀ s x, g (s.setDetector (channelOf l j) x) = g s) (t : Tick) (f : SampleFrame) {s : State}
    (hs : s.pulse.test = .none) : g (deliverSlot l t f j s) = g s := by
  by_cases hm : (s.sensorMap[channelOf l j]).isSome = true
  · rw [deliverSlot_mapped t f hm, deliverSamples_same h hd _ _ _ ?_, hring]
    rw [ringLine_same (g := State.pulse) ⟨⟨fun _ _ => rfl⟩, fun _ _ => rfl⟩]
    exact hs
  · rw [deliverSlot_unmapped t f hm]

theorem ringLine_writing (c : Fin 32) (t : Tick) (data : Line) (s : State) :
    (ringLine c t data s).ringWriting = s.ringWriting := by
  have hport : (ringLine c t data s).capture.port = s.capture.port := ringLine_blind (blindWriter_port c) t data s
  have hrun : (ringLine c t data s).measuring = s.measuring := ringLine_same ⟨⟨fun _ _ => rfl⟩, fun _ _ => rfl⟩ c t data s
  unfold State.ringWriting
  rw [hport, hrun]

theorem ringLine_detectors (c : Fin 32) (t : Tick) (data : Line) (s : State) :
    (ringLine c t data s).detectors = s.detectors := ringLine_same ⟨⟨fun _ _ => rfl⟩, fun _ _ => rfl⟩ c t data s

theorem deliverSlot_context {l : Fin 4} {s : State} (t : Tick) (f : SampleFrame) (j : Fin 8) (u : State)
    (h : SlotContext s u) : SlotContext s (deliverSlot l t f j u) where
  test := by
    rw [deliverSlot_only (g := State.pulse) (fun t x s => ringLine_same ⟨⟨fun _ _ => rfl⟩, fun _ _ => rfl⟩ _ t x s)
      ⟨⟨⟨fun _ _ => rfl⟩, fun _ _ => rfl⟩, fun _ _ => rfl⟩ (fun _ _ => rfl) t f h.test]
    exact h.test
  sensors := by
    rw [deliverSlot_only (g := State.sensorMap) (fun t x s => ringLine_same ⟨⟨fun _ _ => rfl⟩, fun _ _ => rfl⟩ _ t x s)
      ⟨⟨⟨fun _ _ => rfl⟩, fun _ _ => rfl⟩, fun _ _ => rfl⟩ (fun _ _ => rfl) t f h.test]
    exact h.sensors
  writing := by
    rw [deliverSlot_only (g := State.ringWriting) (fun t x s => ringLine_writing _ t x s)
      ⟨⟨⟨fun _ _ => rfl⟩, fun _ _ => rfl⟩, fun _ _ => rfl⟩ (fun _ _ => rfl) t f h.test]
    exact h.writing

theorem channelOf_injective (l : Fin 4) {i j : Fin 8} (h : channelOf l i = channelOf l j) : i = j := by
  have hval := congrArg Fin.val h
  simp only [channelOf] at hval
  exact Fin.ext (by omega)

/-- Of a frame's slots, only a channel's own changes its detector. -/
theorem deliverSlots_detector {l : Fin 4} {s : State} (t : Tick) (f : SampleFrame) (j : Fin 8) (h : s.pulse.test = .none) :
    ∃ u, SlotContext s u ∧ u.detectors[channelOf l j] = s.detectors[channelOf l j] ∧
      (forEach (List.finRange 8) (deliverSlot l t f) s).detectors[channelOf l j] =
        (deliverSlot l t f j u).detectors[channelOf l j] :=
  forEach_once (P := SlotContext s) (g := fun t => t.detectors[channelOf l j]) (deliverSlot_context t f)
    (fun b u hb hu => deliverSlot_only (g := fun t => t.detectors[channelOf l j])
      (fun t x s => congrArg (fun v : Vector Detector 32 => v[channelOf l j]) (ringLine_detectors _ t x s))
      ⟨⟨⟨fun _ _ => rfl⟩, fun _ _ => rfl⟩, fun _ _ => rfl⟩
      (fun v x => (State.setDetector_get _ _ _ _).trans (if_neg fun hc => hb (channelOf_injective l hc).symm)) t f hu.test)
    (List.nodup_finRange 8) (List.mem_finRange j) s ⟨h, rfl, rfl⟩

/-- Of a frame's slots, only a channel's own changes its ring tick. -/
theorem deliverSlots_ringTick {l : Fin 4} {s : State} (t : Tick) (f : SampleFrame) (j : Fin 8) (h : s.pulse.test = .none) :
    ∃ u, SlotContext s u ∧ u.writer.rings[channelOf l j] = s.writer.rings[channelOf l j] ∧
      (forEach (List.finRange 8) (deliverSlot l t f) s).writer.rings[channelOf l j] =
        (deliverSlot l t f j u).writer.rings[channelOf l j] :=
  forEach_once (P := SlotContext s) (g := fun t => t.writer.rings[channelOf l j]) (deliverSlot_context t f)
    (fun b u hb hu => deliverSlot_only (g := fun t => t.writer.rings[channelOf l j])
      (fun t x s => ringLine_blind (blindWriter_other fun hc => hb (channelOf_injective l hc).symm) t x s)
      ⟨⟨⟨fun _ _ => rfl⟩, fun _ _ => rfl⟩, fun _ _ => rfl⟩ (fun v x => rfl) t f hu.test)
    (List.nodup_finRange 8) (List.mem_finRange j) s ⟨h, rfl, rfl⟩

theorem deliverSamples_off {c : Fin 32} {s : State} (t : Tick) (line : Line) (mark : Bool)
    (h : s.detectors[c].state = .off) :
    (deliverSamples c t line mark s).detectors[c] = { s.detectors[c] with horizon := some (tickAdd t 15) } := by
  have hl : ¬ s.detectors[c].live = true := fun hl => (live_iff _).1 hl h
  unfold deliverSamples
  dsimp only
  rw [if_neg hl]
  exact (State.setDetector_get _ _ _ _).trans (if_pos rfl)

theorem deliverSamples_live {c : Fin 32} {s : State} (t : Tick) (line : Line) (mark : Bool)
    (h : s.detectors[c].state ≠ .off)
    (hfresh : (slotSamples t line mark).filter (FeedSample.unheard s.detectors[c].horizon) ≠ []) :
    (deliverSamples c t line mark s).detectors[c] =
      { s.detectors[c] with
        feed := some { stamp := t, samples := (slotSamples t line mark).filter (FeedSample.unheard s.detectors[c].horizon) } } := by
  unfold deliverSamples
  dsimp only
  rw [if_pos ((live_iff _).2 h), if_neg hfresh]
  exact (State.setDetector_get _ _ _ _).trans (if_pos rfl)

theorem settleCapture_rings (s : State) : (settleCapture s).writer.rings = s.writer.rings := by
  unfold settleCapture
  rw [beginWrite_writer, Writer.begun_rings]
  unfold selectReadout
  repeat' split
  all_goals rfl

theorem settleCapture_detectors (s : State) : (settleCapture s).detectors = s.detectors :=
  settleCapture_same ⟨⟨fun _ _ => rfl⟩, fun _ _ => rfl⟩ s

theorem deliverFrame_untested {l : Fin 4} {s : State} (f : SampleFrame) (h : s.pulse.test = .none) :
    deliverFrame l (.sample f) s = forEach (List.finRange 8) (deliverSlot l (stampNow s l) f) (s.received l f) := by
  have hslots : (forEach (List.finRange 8) (deliverSlot l (stampNow s l) f) (s.received l f)).pulse.test = .none :=
    (forEach_keeps (SlotContext (s.received l f)) (List.finRange 8) (deliverSlot l (stampNow s l) f)
      (fun j _ u hu => deliverSlot_context (stampNow s l) f j u hu) (s.received l f) ⟨h, rfl, rfl⟩).test
  have htest : ∀ u : State, u.pulse.test = .none → testFrame l (stampNow s l) f.confirmation u = u := fun u hu => by
    simp only [testFrame, hu]
  rw [deliverFrame_sample, htest _ hslots]

/-- Settles O8: with no test in flight each slot works on its own channel's detector and ring alone. -/
theorem sampleFrameDelivered : Obligations.SampleFrameDelivered := by
  intro l frame f s hr hup hrole hf hq
  have hread : readLaneFrame s.lanes[l].role frame = some (.sample f) := by
    rw [hrole]
    exact congrArg (Option.map LaneFrame.sample) hf
  have hdrained := drainLane_lanes l s
  have harrives : laneArrival l frame s = deliverFrame l (.sample f) (drainLane l s) := by
    rw [laneArrival_up hup, upFrame_some hread]
    exact classifyFrame_ordered (by rw [hdrained]; exact hq)
  have hstamp : stampNow (drainLane l s) l = stampNow s l :=
    stampNow_congr (drainLane_same blindTimebase_hits l s) l (by rw [hdrained])
  have hlanes := deliverFrame_lanes l (.sample f) (drainLane l s)
  rw [← harrives, hdrained, hstamp] at hlanes
  obtain ⟨hlane, hothers⟩ := put_others hlanes
  have hslots (htest : s.pulse.test = .none) (hfed : ∀ j : Fin 8, s.detectors[channelOf l j].feed = none) :
      laneArrival l frame s = forEach (List.finRange 8) (deliverSlot l (stampNow s l) f) (s.received l f) := by
    rw [harrives, drainLane_pod hrole hfed, deliverFrame_untested f htest]
  refine ⟨settleCapture (laneArrival l frame s), exec_sampleFrame_eq hr, fun k hk => ?_, ?_, fun htest hfed j hmap => ?_,
    fun htest hfed hrun hport j => ?_, settledArrival_settings l frame s⟩
  · rw [settleCapture_lanes, hothers k hk]
  · rw [settleCapture_lanes, hlane]
    rfl
  · intro d stamp fresh
    obtain ⟨u, hu, hdet, hend⟩ := deliverSlots_detector (s := s.received l f) (stampNow s l) f j htest
    have hline : (ringLine (channelOf l j) (stampNow s l) (f.slot j) u).detectors[channelOf l j] = d :=
      (congrArg (fun v : Vector Detector 32 => v[channelOf l j]) (ringLine_detectors _ _ _ u)).trans hdet
    rw [← hslots htest hfed, deliverSlot_mapped _ f (by rw [hu.sensors]; exact hmap)] at hend
    rw [settleCapture_detectors, hend]
    refine ⟨fun hoff => ?_, fun hlive hfresh => ?_⟩
    · rw [deliverSamples_off _ _ _ (by rw [hline]; exact hoff), hline]
      rfl
    · rw [deliverSamples_live _ _ _ (by rw [hline]; exact hlive) (by rw [hline]; exact hfresh), hline]
      rfl
  · obtain ⟨u, hu, hring, hend⟩ := deliverSlots_ringTick (s := s.received l f) (stampNow s l) f j htest
    have hwriting : u.ringWriting = true := hu.writing.trans ((ringWriting_iff s).2 ⟨hrun, hport⟩)
    show (settleCapture (laneArrival l frame s)).writer.rings[channelOf l j].ringTick = _
    rw [settleCapture_rings, hslots htest hfed, hend]
    by_cases hmap : (s.sensorMap[channelOf l j]).isSome = true
    · have hsame := deliverSamples_same (g := State.writer) (c := channelOf l j)
        ⟨⟨⟨fun _ _ => rfl⟩, fun _ _ => rfl⟩, fun _ _ => rfl⟩ (fun _ _ => rfl) (stampNow s l) (f.slot j) (f.mark j)
        (s := ringLine (channelOf l j) (stampNow s l) (f.slot j) u)
        (by rw [ringLine_same (g := State.pulse) ⟨⟨fun _ _ => rfl⟩, fun _ _ => rfl⟩]; exact hu.test)
      rw [deliverSlot_mapped _ f (by rw [hu.sensors]; exact hmap), hsame, ringLine_ringTick hwriting, if_pos hmap]
      rfl
    · rw [deliverSlot_unmapped _ f (by rw [hu.sensors]; exact hmap), hring, if_neg hmap]
      rfl

end Sys2Proof.Machine
end

section
/-! The closing of groups: the close condition, the close test, and what a group that closes leaves and offers (R84 to R86, R92,
R106 to R109). -/

namespace Sys2Proof.Machine

/-! ## The close condition (R80, R84) -/

theorem Group.hasSensor_iff (g : Group) (n : Fin 32) : g.hasSensor n = false ↔ ∀ m ∈ g.members, m.sensor ≠ n := by
  simp [Group.hasSensor]

theorem Group.spans_iff (g : Group) (w : Nat) (a : Tick) :
    g.spans w a = true ↔ (laterOf g.latest a - earlierOf g.anchor a).toNat < w := decide_eq_true_iff

theorem Group.candidate_iff (g : Group) (w : Nat) (h : HitRecord) : g.candidate w h = true ↔
    (∀ m ∈ g.members, m.sensor ≠ h.sensor) ∧ (laterOf g.latest h.arrival - earlierOf g.anchor h.arrival).toNat < w := by
  rw [Group.candidate, Bool.and_eq_true, Bool.not_eq_true', Group.hasSensor_iff, Group.spans_iff]

theorem Group.heardOn_iff (g : Group) (w : Nat) (d : Detector) : g.heardOn w d = true ↔
    (∃ x, d.horizon = some x ∧ atOrAfter x (g.anchor + BitVec.ofNat 48 (w - 1)) = true) ∧
    ∀ o, d.state = .opened o → g.spans w o.arrival = false := by
  unfold Group.heardOn
  rw [Bool.and_eq_true]
  refine and_congr ?_ ?_
  · cases d.horizon with
    | none => simp
    | some x => simp [tickAdd]
  · cases d.state <;> simp

theorem channelClear_iff (s : State) (g : Group) (c : Fin 32) : channelClear s g c = true ↔
    ∀ n : Fin 32, s.detectors[c].state ≠ .off → s.sensorMap[c] = some n → (∀ m ∈ g.members, m.sensor ≠ n) →
      g.heardOn s.grouping.window s.detectors[c] = true := by
  unfold channelClear
  dsimp only
  split
  · next hlive =>
    have hstate := (live_iff _).1 hlive
    cases hn : s.sensorMap[c] with
    | none => simp
    | some n =>
      dsimp only
      rw [Bool.or_eq_true]
      constructor
      · rintro h k - hk hno
        obtain rfl := Option.some.inj hk
        exact h.resolve_left (Bool.not_eq_true _ ▸ (Group.hasSensor_iff g n).2 hno)
      · intro h
        cases hs : g.hasSensor n with
        | true => exact .inl rfl
        | false => exact .inr (h n hstate rfl ((Group.hasSensor_iff g n).1 hs))
  · next hlive => exact iff_of_true rfl fun n hs => (hlive ((live_iff _).2 hs)).elim

theorem closeCondition_iff (g : Group) (s : State) : closeCondition s g = true ↔
    (∀ c n : Fin 32, s.detectors[c].state ≠ .off → s.sensorMap[c] = some n → (∀ m ∈ g.members, m.sensor ≠ n) →
      g.heardOn s.grouping.window s.detectors[c] = true) ∧
    ∀ h ∈ s.pulse.hold, g.candidate s.grouping.window h = false := by
  unfold closeCondition allChannels
  rw [Bool.and_eq_true, List.all_eq_true, List.all_eq_true]
  refine and_congr ⟨fun h c => (channelClear_iff s g c).1 (h c (List.mem_finRange c)),
    fun h c _ => (channelClear_iff s g c).2 (h c)⟩ (forall₂_congr fun h _ => by rw [Bool.not_eq_true'])

/-! ## The close test (R85, R86) -/

/-- An examined group closes. -/
def closes (s : State) (g : Group) : Bool := closeCondition s g || atOrAfter s.timebase.counter g.deadline

/-- How a group that closes does so. -/
def closeHow (s : State) (g : Group) : GroupClose := if closeCondition s g then .normal else .late

theorem closeVerdict_eq (s : State) (g : Group) :
    closeVerdict s g = if closes s g then some (closeHow s g) else none := by
  unfold closeVerdict closes closeHow
  cases closeCondition s g <;> simp

theorem closeTest_eq (s : State) :
    closeTest s = (s.grouping.groups.filter (closes s)).foldl (fun t g => closeGroup (closeHow s g) g t) s := by
  unfold closeTest closing forEach
  rw [List.foldl_filterMap, List.foldl_filter]
  refine congrArg (fun f => List.foldl f s s.grouping.groups) (funext fun t => funext fun g => ?_)
  rw [closeVerdict_eq]
  cases closes s g <;> rfl

/-- The grouping unit after the groups of a list have closed, one after another. -/
theorem closeGroups_grouping (how : Group → GroupClose) (l : List Group) (s : State) :
    (l.foldl (fun t g => closeGroup (how g) g t) s).grouping =
      { s.grouping with
        groups := s.grouping.groups.filter (fun y => l.all fun g => !(y.number == g.number))
        lastClosed := match l.getLast? with
          | some g => some g.anchor
          | none => s.grouping.lastClosed } := by
  induction l generalizing s with
  | nil => simp
  | cons x l ih =>
    rw [List.foldl_cons, ih, closeGroup_grouping]
    dsimp only
    rw [List.filter_filter, List.getLast?_cons]
    cases l.getLast? <;> simp [Bool.and_comm]

/-- In a list with no number twice, the groups that close are those with the number of one that closes. -/
theorem all_number_ne {p : Group → Bool} {l : List Group} (h : (l.map (fun g => g.number)).Nodup) {y : Group} (hy : y ∈ l) :
    (l.filter p).all (fun g => !(y.number == g.number)) = !(p y) := by
  cases hp : p y with
  | true =>
    refine List.all_eq_false.2 ⟨y, List.mem_filter.2 ⟨hy, hp⟩, by simp⟩
  | false =>
    refine List.all_eq_true.2 fun g hg => ?_
    obtain ⟨hg, hpg⟩ := List.mem_filter.1 hg
    have hne : y.number ≠ g.number := fun hn => by
      rw [List.inj_on_of_nodup_map h hy hg hn, hpg] at hp
      exact nomatch hp
    simpa using hne

theorem closeTest_grouping {s : State} (h : (s.grouping.groups.map (fun g => g.number)).Nodup) :
    (closeTest s).grouping =
      { s.grouping with
        groups := s.grouping.groups.filter (fun g => !(closes s g))
        lastClosed := match (s.grouping.groups.filter (closes s)).getLast? with
          | some g => some g.anchor
          | none => s.grouping.lastClosed } := by
  rw [closeTest_eq, closeGroups_grouping, List.filter_congr fun y hy => all_number_ne (p := closes s) h hy]

/-! ## A group that closes (R92, R106 to R109) -/

theorem offer_setGrouping (r : Record) (b : Bool) (x : Grouping) (s : State) :
    offer r b (s.setGrouping x) = (offer r b s).setGrouping x := by
  unfold offer
  split
  · next h => rw [if_pos (show s.run.bypass = true from h)]
  · next h => rw [if_neg (show ¬ s.run.bypass = true from h)]; rfl

theorem changeAlarm_setGrouping (n : Fin 1024) (c : Cell) (a : Alarm) (k : Option CellCause) (x : Grouping) (s : State) :
    changeAlarm n c a k (s.setGrouping x) = (changeAlarm n c a k s).setGrouping x := by
  cases k with
  | none => rfl
  | some k => exact offer_setGrouping _ _ x (s.setCell n { c with alarm := a })

theorem accountEvent_setGrouping (e : EventRecord) (x : Grouping) (s : State) :
    accountEvent e (s.setGrouping x) = (accountEvent e s).setGrouping x := by
  cases hn : e.cell with
  | none => rw [accountEvent_other (.inl hn), accountEvent_other (.inl hn)]
  | some n =>
    by_cases hgo : s.run.state = .run ∧ e.halted = false
    · obtain ⟨hrun, hh⟩ := hgo
      rw [accountEvent_eq hn hrun hh, accountEvent_eq (s := s.setGrouping x) hn hrun hh]
      exact changeAlarm_setGrouping n _ _ _ x s
    · have hstay : s.run.state ≠ .run ∨ e.halted = true := by
        by_cases hrun : s.run.state = .run
        · exact .inr (Bool.not_eq_false _ ▸ fun h => hgo ⟨hrun, h⟩)
        · exact .inl hrun
      rw [accountEvent_other (.inr hstay), accountEvent_other (s := s.setGrouping x) (.inr hstay)]

theorem forEach_setGrouping {α : Type} {f : α → State → State}
    (hf : ∀ a x s, f a (s.setGrouping x) = (f a s).setGrouping x) (l : List α) (x : Grouping) (s : State) :
    forEach l f (s.setGrouping x) = (forEach l f s).setGrouping x := by
  induction l generalizing s with
  | nil => rfl
  | cons a l ih => rw [forEach_cons, forEach_cons, hf, ih]

theorem offerGroup_setGrouping (e : EventRecord) (l : List HitRecord) (x : Grouping) (s : State) :
    offerGroup e l (s.setGrouping x) = (offerGroup e l s).setGrouping x := by
  unfold offerGroup
  rw [offer_setGrouping, forEach_setGrouping fun h x t => offer_setGrouping _ _ x t]

/-- The grouping unit after a group has closed. -/
def Grouping.without (u : Grouping) (g : Group) : Grouping :=
  { u with groups := u.groups.filter (fun y => !(y.number == g.number)), lastClosed := some g.anchor }

theorem closeGroup_eq (how : GroupClose) (g : Group) (s : State) :
    closeGroup how g s = (offerGroup (eventRecord s g how) g.members (accountEvent (eventRecord s g how) s)).setGrouping
      (s.grouping.without g) := by
  have hlocate : eventRecord (s.setGrouping (s.grouping.without g)) g how = eventRecord s g how := rfl
  show offerGroup (eventRecord (s.setGrouping (s.grouping.without g)) g how) g.members
    (accountEvent (eventRecord (s.setGrouping (s.grouping.without g)) g how) (s.setGrouping (s.grouping.without g))) = _
  rw [hlocate, accountEvent_setGrouping, offerGroup_setGrouping]

theorem foldl_satAdd (limit : Nat) (l : List HitRecord) (e : Nat) (he : e ≤ limit) :
    l.foldl (fun e h => satAdd limit e h.energy) e = min limit (e + (l.map (fun h => h.energy)).sum) := by
  induction l generalizing e with
  | nil => simpa using he
  | cons h l ih =>
    have hstep : satAdd limit e h.energy ≤ limit := Nat.min_le_left _ _
    rw [List.foldl_cons, ih _ hstep, List.map_cons, List.sum_cons]
    unfold satAdd
    omega

theorem summedEnergy_eq (l : List HitRecord) : summedEnergy l = min (2 ^ 32 - 1) (l.map (fun h => h.energy)).sum := by
  rw [summedEnergy, foldl_satAdd _ _ _ (Nat.zero_le _), Nat.zero_add]

/-- Settles O17: the test closes the groups it has examined, one after another, and what a group leaves does not depend on the
open group list. -/
theorem holdTimerClosesGroup : Obligations.HoldTimerClosesGroup := by
  refine ⟨fun g s => ?condition, fun s => ?test, fun how g s => ?close, fun n g s hr hg hn hd => ?expiry⟩
  case condition =>
    intro joins
    rw [closeCondition_iff]
    refine and_congr (forall₅_congr fun c n _ _ hno => ?_) (forall₂_congr fun h _ => ?_)
    · rw [Group.heardOn_iff]
      refine and_congr Iff.rfl (forall₂_congr fun o _ => ?_)
      rw [← Bool.not_eq_true, Group.spans_iff]
      exact not_congr ⟨fun h => ⟨hno, h⟩, fun h => h.2⟩
    · rw [← Bool.not_eq_true, Group.candidate_iff]
  case test => exact ⟨closeTest_eq s, closeTest_grouping⟩
  case close =>
    refine ⟨eventRecord s g how, rfl, rfl, rfl, rfl, rfl, ?_, ?_, ?_, rfl, ?_, rfl, fun f rest hm => ?_,
      summedEnergy_eq g.members, rfl, ?_⟩
    · cases how <;> rfl
    · cases how <;> rfl
    · cases how <;> rfl
    · unfold eventRecord
      dsimp only
      cases s.run.state <;> rfl
    · unfold eventRecord
      dsimp only
      rw [hm]
      exact ⟨rfl, rfl⟩
    · rw [closeGroup_eq]
      unfold Grouping.without
      have hfilter : (fun y : Group => !(y.number == g.number)) = fun y => decide (y.number ≠ g.number) := funext fun y => by
        rw [decide_not]
        rfl
      rw [hfilter]
      rfl
  case expiry =>
    have hcloses : closes s g = true := by rw [closes, hd, Bool.or_true]
    have hclosing : g ∈ s.grouping.groups.filter (closes s) := List.mem_filter.2 ⟨hg, hcloses⟩
    have hdue : holdDue s n = true := by
      unfold holdDue
      exact List.any_eq_true.2 ⟨g, hg, by rw [Bool.and_eq_true]; exact ⟨beq_iff_eq.2 hn, hd⟩⟩
    have hgrouping : (closeTest s).grouping = _ := (congrArg State.grouping (closeTest_eq s)).trans (closeGroups_grouping _ _ s)
    refine ⟨closeTest s, congrArg Host.Outcome.next ((whileRunning_of_running hr _).trans (if_pos hdue)), rfl, fun x hx => ?_, ?_,
      ?_, ?_, ?_, ?_, ?_, ?_, ?_, ?_⟩
    · rw [hgrouping] at hx
      have hall := List.all_eq_true.1 (List.mem_filter.1 hx).2 g hclosing
      simpa [hn] using hall
    · rw [hgrouping]
      cases hlast : (s.grouping.groups.filter (closes s)).getLast? with
      | none => exact absurd (List.getLast?_eq_none_iff.1 hlast) (List.ne_nil_of_mem hclosing)
      | some y => rfl
    case refine_10 => constructor <;> exact closeTest_same ⟨⟨⟨fun _ _ => rfl⟩, fun _ _ => rfl⟩, fun _ _ => rfl⟩ s
    all_goals exact closeTest_same ⟨⟨⟨fun _ _ => rfl⟩, fun _ _ => rfl⟩, fun _ _ => rfl⟩ s

end Sys2Proof.Machine
end

section
/-! A presented hit in the grouping unit: joining, opening and eviction (R80 to R83). -/

namespace Sys2Proof.Machine

theorem earlier_self (a : Tick) : earlier a a = false := by
  unfold earlier atOrAfter
  rw [BitVec.sub_self]
  rfl

/-- A hit without SAT is reported to no one. -/
theorem present_unsaturated {h : HitRecord} (hs : h.sat = false) (s : State) : present h s = placeHit h s := by
  have hno : ¬ s.tracker.watches h = true := fun hw => by
    obtain ⟨hsat, -⟩ := (watches_iff _ _).1 hw
    exact nomatch hs.symm.trans hsat
  unfold present presentWith
  dsimp only
  rw [if_neg fun hw => hno hw.1, presentQuietly_unwatched hno]

/-! ## Joining (R80, R81) -/

theorem firstCandidate_some {u : Grouping} {h : HitRecord} {before after : List Group} {g : Group}
    (hu : u.groups = before ++ g :: after) (hno : ∀ y ∈ before, ¬ y.candidate u.window h = true)
    (hg : g.candidate u.window h = true) : firstCandidate u h = some g := by
  unfold firstCandidate
  rw [hu, List.find?_append, List.find?_eq_none.2 hno, Option.none_or]
  exact List.find?_cons_of_pos (p := fun x : Group => x.candidate u.window h) hg

theorem firstCandidate_none {u : Grouping} {h : HitRecord} (hno : ∀ g ∈ u.groups, ¬ g.candidate u.window h = true) :
    firstCandidate u h = none := List.find?_eq_none.2 hno

/-- In a list with no number twice, only the group in the middle has its number. -/
theorem number_apart {before after : List Group} {g : Group}
    (h : ((before ++ g :: after).map (fun x => x.number)).Nodup) :
    (∀ y ∈ before, y.number ≠ g.number) ∧ ∀ y ∈ after, y.number ≠ g.number := by
  rw [List.map_append, List.map_cons, List.nodup_middle, List.nodup_cons, ← List.map_append] at h
  obtain ⟨hg, -⟩ := h
  exact ⟨fun y hy hn => hg (List.mem_map.2 ⟨y, List.mem_append_left _ hy, hn⟩),
    fun y hy hn => hg (List.mem_map.2 ⟨y, List.mem_append_right _ hy, hn⟩)⟩

theorem replaceGroup_still {before after : List Group} {g g' : Group} (ha : g.anchor = g'.anchor)
    (h : ((before ++ g :: after).map (fun x => x.number)).Nodup) :
    replaceGroup g g' (before ++ g :: after) = before ++ g' :: after := by
  obtain ⟨hbefore, hafter⟩ := number_apart h
  have hkept : ∀ l : List Group, (∀ y ∈ l, y.number ≠ g.number) →
      l.map (fun x => if x.number = g.number then g' else x) = l := fun l hl =>
    (List.map_congr_left fun y hy => if_neg (hl y hy)).trans (List.map_id' l)
  unfold replaceGroup
  rw [if_pos ha, List.map_append, List.map_cons, hkept before hbefore, hkept after hafter, if_pos rfl]

theorem filter_number {before after : List Group} {g : Group} (h : ((before ++ g :: after).map (fun x => x.number)).Nodup) :
    (before ++ g :: after).filter (fun x => !(x.number == g.number)) = before ++ after := by
  obtain ⟨hbefore, hafter⟩ := number_apart h
  have hkept : ∀ l : List Group, (∀ y ∈ l, y.number ≠ g.number) → l.filter (fun x => !(x.number == g.number)) = l :=
    fun l hl => List.filter_eq_self.2 fun y hy => by simpa using hl y hy
  rw [List.filter_append, List.filter_cons_of_neg (by simp), hkept before hbefore, hkept after hafter]

theorem replaceGroup_moved {before after : List Group} {g g' : Group} (ha : g.anchor ≠ g'.anchor)
    (h : ((before ++ g :: after).map (fun x => x.number)).Nodup) :
    replaceGroup g g' (before ++ g :: after) = insertGroup g' (before ++ after) := by
  unfold replaceGroup
  rw [if_neg ha, filter_number h]

/-- The group after a hit has joined it, field by field. -/
theorem Group.join_eq (u : Grouping) (g : Group) (h : HitRecord) : g.join u h =
    { number := g.number
      anchor := if earlier h.arrival g.anchor then h.arrival else g.anchor
      latest := laterOf g.latest h.arrival
      members := insertHit h g.members
      deadline := if earlier h.arrival g.anchor then u.deadline h.arrival else g.deadline
      behind := g.behind || (earlier h.arrival g.anchor && u.precedes h.arrival) } := by
  unfold Group.join
  cases earlier h.arrival g.anchor <;> simp

theorem precedes_eq (u : Grouping) (a : Tick) : u.precedes a = u.lastClosed.any (fun y => earlier a y) := by
  unfold Grouping.precedes
  cases u.lastClosed <;> rfl

/-! ## Opening and eviction (R82, R83) -/

theorem placeHit_join {h : HitRecord} {s : State} {g : Group} (hg : firstCandidate s.grouping h = some g) :
    placeHit h s = s.setGrouping
      { s.grouping with groups := replaceGroup g (g.join s.grouping h) s.grouping.groups } := by
  simp only [placeHit, hg]

theorem placeHit_open {h : HitRecord} {s : State} (hg : firstCandidate s.grouping h = none) :
    placeHit h s = openGroup h (evictFirst s) := by
  simp only [placeHit, hg]

theorem evictFirst_few {s : State} (h : s.grouping.groups.length < 8) : evictFirst s = s := by
  unfold evictFirst
  split
  · exact if_neg (by omega)
  · rfl

theorem evictFirst_full {s : State} {g : Group} {rest : List Group} (h : 8 ≤ s.grouping.groups.length)
    (hg : s.grouping.groups = g :: rest) : evictFirst s = closeGroup .crowded g s := by
  unfold evictFirst
  rw [hg]
  exact if_pos (hg ▸ h)

/-- A new group of one hit, numbered by the counter. -/
def Grouping.fresh (u : Grouping) (h : HitRecord) : Group :=
  { number := u.counter, anchor := h.arrival, latest := h.arrival, members := [h], deadline := u.deadline h.arrival,
    behind := u.precedes h.arrival }

theorem openGroup_setGrouping (h : HitRecord) (u : Grouping) (s : State) :
    openGroup h (s.setGrouping u) = s.setGrouping { u with groups := insertGroup (u.fresh h) u.groups, counter := u.counter + 1 } :=
  rfl

/-- Settles O15: the branches of a placement, with the lists read off the ordered insertions. -/
theorem hitsGrouped : Obligations.HitsGrouped := by
  intro h s hnodup u can deadline late fresh
  have hcan (g : Group) : can g ↔ g.candidate u.window h = true := (Group.candidate_iff g u.window h).symm
  have hnone (hno : ∀ g ∈ u.groups, ¬ can g) : firstCandidate u h = none :=
    firstCandidate_none fun g hg hc => hno g hg ((hcan g).2 hc)
  refine ⟨fun hs => present_unsaturated hs s, fun before g after hu hno hg => ?join, fun hno hlen => ?opens,
    fun hno hlen g rest hu => ?evicts⟩
  case join =>
    intro moved
    have hplaced := placeHit_join (firstCandidate_some hu (fun y hy hc => hno y hy ((hcan y).2 hc)) ((hcan g).1 hg))
    have hjoin : g.join u h =
        { number := g.number, anchor := if moved then h.arrival else g.anchor, latest := laterOf g.latest h.arrival,
          members := insertHit h g.members, deadline := if moved then deadline else g.deadline,
          behind := g.behind || (moved && late u.lastClosed) } := by
      rw [Group.join_eq, precedes_eq]
      rfl
    have hgroups : ((before ++ g :: after).map (fun x => x.number)).Nodup := hu ▸ hnodup
    refine ⟨insertHit h g.members, replaceGroup g (g.join u h) (before ++ g :: after), insertHit_inserted h g.members,
      fun hm => ?_, fun hm => ?_, hu ▸ hplaced⟩
    · rw [hjoin, replaceGroup_still (by simp [hm]) hgroups]
    · have hne : g.anchor ≠ h.arrival := fun ha => by
        have hself : earlier h.arrival g.anchor = true := hm
        rw [ha, earlier_self] at hself
        exact nomatch hself
      rw [hjoin, replaceGroup_moved (by simpa [hm] using hne) hgroups]
      exact insertGroup_inserted _ _
  case opens =>
    refine ⟨insertGroup (u.fresh h) u.groups, ?_, ?_⟩
    · have hfresh : u.fresh h = fresh u.lastClosed := by
        unfold Grouping.fresh
        rw [precedes_eq]
        rfl
      rw [← hfresh]
      exact insertGroup_inserted _ _
    · rw [placeHit_open (hnone hno), evictFirst_few hlen]
      exact openGroup_setGrouping h u s
  case evicts =>
    have hfilter : u.groups.filter (fun y => !(y.number == g.number)) = rest := by
      rw [hu]
      exact filter_number (before := []) (by rw [List.nil_append, ← hu]; exact hnodup)
    have hwithout : u.without g = { u with groups := rest, lastClosed := some g.anchor } := by
      unfold Grouping.without
      rw [hfilter]
    refine ⟨insertGroup ((u.without g).fresh h) rest, eventRecord s g .crowded, ?_, rfl, rfl, rfl, rfl, rfl, rfl, ?_, ?_⟩
    · have hfresh : (u.without g).fresh h = fresh (some g.anchor) := by
        unfold Grouping.fresh
        rw [precedes_eq]
        rfl
      rw [← hfresh]
      exact insertGroup_inserted _ _
    · exact beq_iff_eq
    · rw [placeHit_open (hnone hno), evictFirst_full hlen hu, closeGroup_eq, openGroup_setGrouping, hwithout]

end Sys2Proof.Machine
end

section
/-! Departures from RUN and TAILING: what halting the detectors, ending a test and halting the groups leave alone, and TAIL_END and
STOP (R57, R139, R155, R162, R168). -/

namespace Sys2Proof.Machine

/-! ## What halting leaves alone -/

/-- `g` does not read the blocks that detectors, hits, groups and tests change when they are halted: the capture unit is not among
them. -/
structure BlindHalt {β : Type} (g : State → β) : Prop extends BlindGroup g where
  channels : ∀ s x, g (s.setChannels x) = g s
  tracker : ∀ s x, g (s.setTracker x) = g s
  detectors : ∀ s x, g (s.setDetectors x) = g s
  pulse : ∀ s x, g (s.setPulse x) = g s

section
variable {β : Type} {g : State → β}

theorem presentQuietly_halted (h : BlindHalt g) (x : HitRecord) (s : State) : g (presentQuietly x s) = g s := by
  unfold presentQuietly
  rw [reportSaturation_same h.tracker, placeHit_same h.toBlindGroup]

theorem makeTest_halted (h : BlindHalt g) (f : Tick) (x : HitRecord) (s : State) : g (makeTest f x s) = g s := by
  unfold makeTest
  rw [offer_same h.toBlindLink]
  exact h.pulse _ _

theorem releaseQuietly_halted (h : BlindHalt g) (x : HitRecord) (s : State) : g (releaseHit presentQuietly x s) = g s :=
  releaseHit_same (fun x s => presentQuietly_halted h x s) x s

theorem offerToTest_halted (h : BlindHalt g) (x : HitRecord) (s : State) :
    g (offerToTest presentQuietly x s).1 = g s := by
  unfold offerToTest holdHit
  split
  · rfl
  · split
    · rfl
    · split
      · rfl
      · split
        · exact (releaseQuietly_halted h _ _).trans (h.pulse _ _)
        · exact h.pulse _ _
  · split
    · exact makeTest_halted h _ _ _
    · rfl

theorem handOff_halted (h : BlindHalt g) (c : Fin 32) (x : HitRecord) (s : State) (hx : x.cause = .halt) :
    g (handOff presentQuietly c x s) = g s := by
  have hseals : ¬ x.cause.seals = true := by
    rw [hx]
    exact Bool.false_ne_true
  unfold handOff
  dsimp only
  rw [if_neg hseals]
  split
  · rw [releaseQuietly_halted h, offerToTest_halted h]
  · exact offerToTest_halted h x s

theorem enterOff_halted (h : BlindHalt g) (c : Fin 32) (s : State) : g (enterOff c s) = g s := by
  unfold enterOff
  rw [applyPending_same h.channels]
  exact h.detectors _ _

theorem detectorOff_halted (h : BlindHalt g) (c : Fin 32) (s : State) : g (detectorOff presentQuietly .halt c s) = g s := by
  unfold detectorOff
  split
  · rfl
  · exact enterOff_halted h c s
  · exact enterOff_halted h c s
  · rw [handOff_halted h c _ _ rfl, enterOff_halted h]

theorem allOff_halted (h : BlindHalt g) (s : State) :
    g (forEach allChannels (detectorOff presentQuietly .halt) s) = g s :=
  forEach_same g allChannels _ (fun c t => detectorOff_halted h c t) s

theorem decideHeld_halted (h : BlindHalt g) (x : HitRecord) (s : State) : g (decideHeld presentQuietly x s) = g s := by
  unfold decideHeld
  split
  · exact releaseQuietly_halted h x s
  · exact releaseQuietly_halted h x s
  · split
    · exact makeTest_halted h _ x s
    · exact releaseQuietly_halted h x s

theorem emptyHold_halted (h : BlindHalt g) (m : Tests) (n : Nat) (s : State) : g (emptyHold presentQuietly m n s) = g s := by
  have htest : ∀ t, g (groupTest m t) = g t := fun t => by
    cases m with
    | made => exact closeTest_same h.toBlindGroup t
    | withheld => rfl
  induction n generalizing s with
  | zero => rfl
  | succ n ih =>
    unfold emptyHold
    split
    · rfl
    · rw [ih, htest, decideHeld_halted h]
      exact h.pulse _ _

theorem concludeTest_halted (h : BlindHalt g) (k : EndCause) (s : State) : g (concludeTest k s) = g s := by
  unfold concludeTest
  split
  · rfl
  · rw [offer_same h.toBlindLink]
    exact h.pulse _ _
  · rw [offer_same h.toBlindLink]
    exact h.pulse _ _

theorem endTest_halted (h : BlindHalt g) (m : Tests) (k : EndCause) (s : State) : g (endTest presentQuietly m k s) = g s := by
  unfold endTest
  split
  · dsimp only
    rw [concludeTest_halted h, emptyHold_halted h]
    split
    · exact allOff_halted h s
    · rfl
  · rfl

end

theorem blindHalt_capture : BlindHalt State.capture :=
  ⟨⟨⟨⟨fun _ _ => rfl⟩, fun _ _ => rfl⟩, fun _ _ => rfl⟩, fun _ _ => rfl, fun _ _ => rfl, fun _ _ => rfl, fun _ _ => rfl⟩

/-! ## What halting leaves -/

/-- Every detector is OFF. -/
def AllOff (s : State) : Prop := ∀ c : Fin 32, s.detectors[c].state = .off

/-- What leaves a detector that is OFF as it is leaves all OFF. -/
theorem allOff_units : KeepsUnits AllOff :=
  { KeepsBlocks.toKeepsWork {} fun _ _ h => h with
    off := fun s b hb h => absurd (h b) hb }

/-- The channel's detector is OFF. -/
def OffAt (c : Fin 32) (s : State) : Prop := s.detectors[c].state = .off

theorem detectorOff_offAt (c : Fin 32) (s : State) : OffAt c (detectorOff presentQuietly .halt c s) :=
  (congrArg Detector.state (detectorOff_quietly .halt c s)).trans (Detector.departed_off _)

theorem OffAt.detectorOff {c : Fin 32} {s : State} (h : OffAt c s) (b : Fin 32) :
    OffAt c (detectorOff presentQuietly .halt b s) := by
  have hk := (offDetector_units (c := c) (d := s.detectors[c]) h).toKeepsTests
  exact (congrArg Detector.state (detectorOff_keeps hk (presentQuietly_keeps hk.toKeepsWork) .halt b s rfl)).trans h

theorem allOff_established (s : State) : AllOff (forEach allChannels (detectorOff presentQuietly .halt) s) := fun c =>
  forEach_establishes (Q := OffAt) detectorOff_offAt (fun _ b _ h => h.detectorOff b) allChannels s c (List.mem_finRange c)

theorem haltGroups_groups (s : State) : (haltGroups s).grouping.groups = [] := by
  have hfold := closeGroups_grouping (fun _ => .halted) s.grouping.groups s
  have hgroups : (haltGroups s).grouping.groups = _ := congrArg Grouping.groups hfold
  rw [hgroups]
  refine List.filter_eq_nil_iff.2 fun y hy hall => ?_
  simpa using List.all_eq_true.1 hall y hy

theorem haltGroups_capture (s : State) : (haltGroups s).capture = s.capture :=
  haltGroups_same blindHalt_capture.toBlindGroup s

theorem haltGroups_allOff {s : State} (h : AllOff s) : AllOff (haltGroups s) :=
  haltGroups_keeps allOff_units.toKeepsBlocks s h

/-! ## What the capture unit does at the end of a command -/

theorem betterSealed_none {s : State} (h : ∀ i : Fin 64, s.capture.segments[i] = none) (l : List (Fin 64)) :
    l.foldl (betterSealed s) none = none := by
  induction l with
  | nil => rfl
  | cons i l ih =>
    have hi : betterSealed s none i = none := by
      unfold betterSealed
      rw [h i]
    rw [List.foldl_cons, hi, ih]

/-- With every segment FREE the readout selects nothing. -/
theorem selectReadout_free {s : State} (h : ∀ i : Fin 64, s.capture.segments[i] = none) : selectReadout s = s := by
  have hreading : readingSegment s = none := by
    unfold readingSegment
    refine List.findSome?_eq_none_iff.2 fun i _ => ?_
    rw [h i]
    rfl
  unfold selectReadout
  rw [hreading, betterSealed_none h]

theorem beginWrite_capture (s : State) : (beginWrite s).capture =
    { s.capture with access := (beginWrite s).capture.access, queue := (beginWrite s).capture.queue } := by
  unfold beginWrite
  split <;> rfl

theorem beginWrite_link (s : State) : (beginWrite s).link = s.link := by
  unfold beginWrite
  split <;> rfl

theorem selectReadout_dump (s : State) : (selectReadout s).capture.dump = s.capture.dump := by
  unfold selectReadout
  repeat' split
  all_goals rfl

theorem selectReadout_link (s : State) : (selectReadout s).link = s.link := by
  unfold selectReadout
  repeat' split
  all_goals rfl

theorem settleCapture_dump (s : State) : (settleCapture s).capture.dump = s.capture.dump := by
  unfold settleCapture
  rw [beginWrite_capture]
  exact selectReadout_dump s

theorem settleCapture_link (s : State) : (settleCapture s).link = s.link := by
  unfold settleCapture
  rw [beginWrite_link, selectReadout_link]

theorem settleCapture_free {s : State} (h : ∀ i : Fin 64, s.capture.segments[i] = none) (i : Fin 64) :
    (settleCapture s).capture.segments[i] = none := by
  unfold settleCapture
  rw [selectReadout_free h, beginWrite_segments, h i]

theorem settleCapture_grouping (s : State) : (settleCapture s).grouping = s.grouping :=
  settleCapture_same ⟨⟨fun _ _ => rfl⟩, fun _ _ => rfl⟩ s

theorem settleCapture_pulse (s : State) : (settleCapture s).pulse = s.pulse :=
  settleCapture_same ⟨⟨fun _ _ => rfl⟩, fun _ _ => rfl⟩ s

/-! ## The tail end (R168) -/

/-- The number of segments that a state holds. -/
def State.held (s : State) : Nat := (List.finRange 64).countP fun i : Fin 64 => decide (s.capture.segments[i] ≠ none)

theorem held_eq (s : State) : 64 - s.capture.free = s.held := by
  have hall := List.length_eq_countP_add_countP (fun i : Fin 64 => decide (s.capture.segments[i] = none))
    (l := List.finRange 64)
  rw [List.length_finRange] at hall
  rw [capture_free_eq, State.held]
  simp only [decide_eq_true_eq] at hall
  simp only [ne_eq]
  omega

theorem tailHits_capture (s : State) : (tailHits s).capture = s.capture :=
  (haltGroups_capture _).trans (allOff_halted blindHalt_capture s)

theorem tailBlocks_eq {s t : State} (hrun : t.run = s.run) (hcapture : t.capture = s.capture) :
    tailBlocks t = startDump (notify (.frozen s.run.cause s.run.burstTick s.held)
      (freeSegments (t.setRun { s.run with state := .frozen, tailExpiry := none }))) := by
  have hfree : (t.setRun { t.run with state := .frozen, tailExpiry := none }).capture.free = s.capture.free :=
    congrArg Capture.free hcapture
  unfold tailBlocks
  dsimp only
  rw [hfree, held_eq, hrun]
  rfl

/-- Halting the detectors where no hit is open changes neither the record link nor the groups. -/
theorem allOff_noHits {s : State} (h : ∀ (c : Fin 32) (o : OpenHit), s.detectors[c].state ≠ .opened o) :
    (forEach allChannels (detectorOff presentQuietly .halt) s).link = s.link ∧
    (forEach allChannels (detectorOff presentQuietly .halt) s).grouping = s.grouping := by
  have henter : ∀ (c : Fin 32) (t : State), (∀ (d : Fin 32) (o : OpenHit), t.detectors[d].state ≠ .opened o) →
      (∀ (d : Fin 32) (o : OpenHit), (enterOff c t).detectors[d].state ≠ .opened o) ∧ (enterOff c t).link = t.link ∧
      (enterOff c t).grouping = t.grouping := by
    intro c t ht
    rw [enterOff_eq]
    refine ⟨fun d o hd => ?_, rfl, rfl⟩
    have hget := (congrArg Detector.state (State.setDetector_get t c d t.detectors[c].switchedOff)).symm.trans hd
    split at hget
    · exact nomatch hget
    · exact ht d o hget
  have hkept := forEach_keeps
    (P := fun t => (∀ (c : Fin 32) (o : OpenHit), t.detectors[c].state ≠ .opened o) ∧ t.link = s.link ∧ t.grouping = s.grouping)
    allChannels (detectorOff presentQuietly .halt) (fun c _ t ⟨hno, hlink, hgroups⟩ => by
      obtain ⟨hno', hlink', hgroups'⟩ := henter c t hno
      unfold detectorOff
      split
      · exact ⟨hno, hlink, hgroups⟩
      · exact ⟨hno', hlink'.trans hlink, hgroups'.trans hgroups⟩
      · exact ⟨hno', hlink'.trans hlink, hgroups'.trans hgroups⟩
      · next o ho => exact absurd ho (hno c o)) s ⟨h, rfl, rfl⟩
  exact hkept.2

theorem startDump_free {s : State} (h : ∀ i : Fin 64, s.capture.segments[i] = none) (i : Fin 64) :
    (startDump s).capture.segments[i] = none := by
  unfold startDump
  split <;> exact h i

theorem startDump_link (s : State) : (startDump s).link = s.link := by
  unfold startDump
  split <;> rfl

theorem startDump_dump {s : State} (hd : s.capture.dumpDepth ≠ 0) (hp : s.capture.port = .ready) :
    (startDump s).capture.dump = some
      { channels := (List.finRange 32).filter (fun c : Fin 32 =>
          (s.sensorMap[c]).isSome && (s.capture.rings[c].ringTick).isSome)
        line := 0, sent := 0, damaged := 0 } := by
  unfold startDump
  rw [if_pos ⟨hd, hp⟩]
  rfl

theorem notify_capture (x : NoticeBody) (s : State) : (notify x s).capture = s.capture := notify_same ⟨fun _ _ => rfl⟩ x s

theorem freeSegments_free (s : State) (i : Fin 64) : (freeSegments s).capture.segments[i] = none := by
  show (Vector.replicate 64 (none : Option Segment))[i] = none
  simp

theorem exec_tailEnd_eq {s : State} {x : Tick} (hr : s.running = true) (hst : s.run.state = .tailing)
    (hx : s.run.tailExpiry = some x) (hd : atOrAfter s.timebase.counter x = true) :
    exec .tailEnd s = .next (settleCapture (tailEnd s)) := by
  have hdue : s.tailDue = true := by
    unfold State.tailDue State.expired
    rw [hst, hx]
    exact hd
  exact congrArg Host.Outcome.next ((whileRunning_of_running hr _).trans (if_pos hdue))

theorem tailHits_fold (s : State) :
    tailHits s = (((List.finRange 32).foldl (fun u c => detectorOff presentQuietly .halt c u) s).grouping.groups.foldl
      (fun u g => closeGroup .halted g u)
      ((List.finRange 32).foldl (fun u c => detectorOff presentQuietly .halt c u) s)) := by
  unfold tailHits haltGroups forEach allChannels
  rfl

/-- What the steps of a tail end after the groups' end leave, from a state `shut` with the run and the capture unit of `s`. -/
theorem tailBlocks_spec {s shut : State} (hrun : shut.run = s.run) (hcapture : shut.capture = s.capture)
    (hsensors : shut.sensorMap = s.sensorMap) (htime : shut.timebase = s.timebase) :
    (settleCapture (tailBlocks shut)).grouping = shut.grouping ∧
    (∀ i : Fin 64, (settleCapture (tailBlocks shut)).capture.segments[i] = none) ∧
    (s.capture.dumpDepth ≠ 0 → s.capture.port = .ready → (settleCapture (tailBlocks shut)).capture.dump = some
      { channels := (List.finRange 32).filter (fun c : Fin 32 =>
          (s.sensorMap[c]).isSome && (s.capture.rings[c].ringTick).isSome)
        line := 0, sent := 0, damaged := 0 }) ∧
    (shut.link = s.link → s.run.bypass = false → s.link.fill + 2 ≤ 4096 →
      (settleCapture (tailBlocks shut)).link.own = s.link.own ++ [.notice
        { part := s.run.address, tick := s.timebase.counter, body := .frozen s.run.cause s.run.burstTick s.held }]) := by
  rw [tailBlocks_eq hrun hcapture]
  generalize hfrozen : freeSegments (shut.setRun { s.run with state := .frozen, tailExpiry := none }) = frozen
  have hfree (i : Fin 64) : frozen.capture.segments[i] = none := by rw [← hfrozen]; exact freeSegments_free _ i
  have hdepth : frozen.capture.dumpDepth = s.capture.dumpDepth := by
    rw [← hfrozen]
    show shut.capture.dumpDepth = _
    rw [hcapture]
  have hport : frozen.capture.port = s.capture.port := by
    rw [← hfrozen]
    show shut.capture.port = _
    rw [hcapture]
  have hrings : frozen.capture.rings = s.capture.rings := by
    rw [← hfrozen]
    show shut.capture.rings = _
    rw [hcapture]
  have hfsensors : frozen.sensorMap = s.sensorMap := by rw [← hfrozen]; exact hsensors
  refine ⟨?_, fun i => ?_, fun h0 hready => ?_, fun hlink hb hfill => ?_⟩
  · rw [settleCapture_grouping, startDump_same (g := State.grouping) ⟨⟨fun _ _ => rfl⟩, fun _ _ => rfl⟩,
      notify_same (g := State.grouping) ⟨fun _ _ => rfl⟩, ← hfrozen]
    rfl
  · exact settleCapture_free (startDump_free fun j => by rw [notify_capture]; exact hfree j) i
  · rw [settleCapture_dump, startDump_dump (by rw [notify_capture, hdepth]; exact h0)
      (by rw [notify_capture, hport]; exact hready), notify_capture, hrings,
      notify_same (g := State.sensorMap) ⟨fun _ _ => rfl⟩, hfsensors]
  · have hflink : frozen.link = s.link := by rw [← hfrozen]; exact hlink
    have hftime : frozen.timebase = s.timebase := by rw [← hfrozen]; exact htime
    have hfrun : frozen.run = { s.run with state := .frozen, tailExpiry := none } := by rw [← hfrozen]; rfl
    rw [settleCapture_link, startDump_link, notify_own (by rw [hfrun]; exact hb) (by rw [hflink]; exact hfill), hflink,
      hftime, hfrun]

theorem tailBlocks_allOff {s : State} (h : AllOff s) : AllOff (tailBlocks s) := by
  unfold tailBlocks
  exact startDump_keeps allOff_units.toKeepsBlocks _ (notify_keeps allOff_units.toKeepsBlocks _ _ h)

theorem tailHits_allOff (s : State) : AllOff (tailHits s) := by
  unfold tailHits
  exact haltGroups_allOff (allOff_established s)

theorem tailHits_groups (s : State) : (tailHits s).grouping.groups = [] := by
  unfold tailHits
  exact haltGroups_groups _

/-- With no hit and no group open a tail end leaves the record link alone before its notice. -/
theorem tailHits_link {s : State} (h : ∀ (c : Fin 32) (o : OpenHit), s.detectors[c].state ≠ .opened o)
    (hg : s.grouping.groups = []) : (tailHits s).link = s.link := by
  obtain ⟨hlink, hgroups⟩ := allOff_noHits h
  unfold tailHits haltGroups
  rw [hgroups, hg, forEach_nil, hlink]

/-- Settles O21: the hits and the groups are halted with the capture unit untouched; then the segments are freed and the dump
starts. -/
theorem tailEndFreezes : Obligations.TailEndFreezes := by
  intro x s hr hst hx hd
  have hhits := tailHits_steady s
  have hcapture := tailHits_capture s
  obtain ⟨hgrouping, hsegments, hdump, hown⟩ := tailBlocks_spec hhits.run hcapture hhits.sensorMap hhits.timebase
  rw [← tailEnd_eq] at hgrouping hsegments hdump hown
  have hsteady := (tailEnd_steady s).trans (settleCapture_steady _)
  have hoff : AllOff (settleCapture (tailEnd s)) := by
    rw [tailEnd_eq]
    exact settleCapture_keeps allOff_units.toKeepsBlocks _ (tailBlocks_allOff (tailHits_allOff s))
  refine ⟨settleCapture (tailEnd s), exec_tailEnd_eq hr hst hx hd, hsteady.run, hoff, ?groups, hsegments, ?dumped,
    ⟨?order, fun hno hg hb hfill => ?own⟩, hdump, hsteady.lanes, { hsteady.toSameSettings with }⟩
  case groups =>
    rw [hgrouping]
    exact tailHits_groups s
  case dumped =>
    by_cases h0 : s.capture.dumpDepth = 0
    · exact .inr (.inl h0)
    · cases hp : s.capture.port with
      | failed => exact .inr (.inr rfl)
      | ready => exact .inl (by rw [hdump h0 hp]; rfl)
  case order =>
    rw [tailEnd_eq, tailBlocks_eq hhits.run hcapture, tailHits_fold]
    rfl
  case own => exact hown (tailHits_link hno hg) hb hfill

end Sys2Proof.Machine
end

section
/-! STOP: the segments sealed, then everything halted and the part in IDLE (R139, R155, R162). -/

namespace Sys2Proof.Machine

section
variable {s : State} {e : IntakeEntry} {rest : List IntakeEntry}

theorem exec_stop_eq (h : Serves s e rest) (hk : TakenAs stopKind e) :
    exec .stop s = .next (orderEnd s e rest
      (firstReason [(s.run.bypass, .state), (!(s.run.state == .run), .state)])
      (settleCapture (stopRun (s.headTaken rest)))) :=
  congrArg Host.Outcome.next (executeOrder_eq h ((taken_iff _ _).2 hk))

end

/-! ## Sealing every channel (R139) -/

/-- No two FILLING segments are of one channel (R136). -/
def OneFilling (s : State) : Prop :=
  ∀ (i j : Fin 64) (x y : Segment), s.capture.segments[i] = some x → s.capture.segments[j] = some y →
    x.stage = .filling → y.stage = .filling → x.channel = y.channel → i = j

/-- The FILLING segments of `t` are FILLING segments of `s` on channels outside `l`. -/
def FillingFrom (l : List (Fin 32)) (s t : State) : Prop :=
  ∀ (i : Fin 64) (g : Segment), t.capture.segments[i] = some g → g.stage = .filling →
    s.capture.segments[i] = some g ∧ g.channel ∉ l

theorem Segment.kept_stage {g x : Segment} (h : g.kept = some x) : x.stage = g.stage :=
  congrArg Segment.stage (Segment.kept_eq h)

theorem sealChannel_filling {c : Fin 32} {s : State} (h : OneFilling s) : FillingFrom [c] s (sealChannel c s) := by
  intro i g hg hf
  cases hj : fillingOf s c with
  | none =>
    rw [sealChannel_none hj] at hg
    refine ⟨hg, fun hc => ?_⟩
    have hno := List.find?_eq_none.1 hj i (List.mem_finRange i)
    exact hno ((isFilling_iff s c i).2 ⟨g, hg, List.mem_singleton.1 hc, hf⟩)
  | some j =>
    obtain ⟨x, hx, hxc, hxf⟩ := fillingOf_filling hj
    rw [sealChannel_some hj hx] at hg
    have hget := (keepOrEnd_segment j { x with stage := .sealed } s i).symm.trans hg
    split at hget
    · exact nomatch hf.symm.trans (Segment.kept_stage hget)
    · next hij =>
      exact ⟨hget, fun hc => hij (h i j g x hget hx hf hxf ((List.mem_singleton.1 hc).trans hxc.symm))⟩

theorem FillingFrom.oneFilling {l : List (Fin 32)} {s t : State} (h : FillingFrom l s t) (hs : OneFilling s) : OneFilling t :=
  fun i j x y hx hy hxf hyf hc => hs i j x y (h i x hx hxf).1 (h j y hy hyf).1 hxf hyf hc

theorem sealChannels_filling (l : List (Fin 32)) {s : State} (h : OneFilling s) : FillingFrom l s (forEach l sealChannel s) := by
  induction l generalizing s with
  | nil => exact fun i g hg _ => ⟨hg, List.not_mem_nil⟩
  | cons c l ih =>
    have hfirst := sealChannel_filling (c := c) h
    intro i g hg hf
    rw [forEach_cons] at hg
    obtain ⟨hmid, hl⟩ := ih (hfirst.oneFilling h) i g hg hf
    obtain ⟨hs, hc⟩ := hfirst i g hmid hf
    exact ⟨hs, fun hm => (List.mem_cons.1 hm).elim (fun h => hc (List.mem_singleton.2 h)) hl⟩

theorem allSealed {s : State} (h : OneFilling s) (i : Fin 64) (g : Segment)
    (hg : (forEach allChannels sealChannel s).capture.segments[i] = some g) : g.stage ≠ .filling := fun hf =>
  (sealChannels_filling allChannels h i g hg hf).2 (List.mem_finRange _)

theorem selectReadout_filling {s : State} {i : Fin 64} {g : Segment} (h : (selectReadout s).capture.segments[i] = some g)
    (hf : g.stage = .filling) : s.capture.segments[i] = some g := by
  unfold selectReadout at h
  split at h
  · exact h
  · split at h
    · exact h
    · next j x hj =>
      have hget := (State.setSegment_get s j i (some { x with stage := .reading })).symm.trans h
      split at hget
      · rw [← Option.some.inj hget] at hf
        exact nomatch hf
      · exact hget

theorem settleCapture_filling {s : State} {i : Fin 64} {g : Segment} (h : (settleCapture s).capture.segments[i] = some g)
    (hf : g.stage = .filling) : s.capture.segments[i] = some g := by
  unfold settleCapture at h
  rw [beginWrite_segments] at h
  exact selectReadout_filling h hf

/-! ## The departure (R162) -/

theorem stopHits_steady (s : State) : Steady s (stopHits s) := by
  have hk := steady_tests s
  have hq := presentQuietly_keeps hk.toKeepsWork
  unfold stopHits
  exact endTest_keeps hk hq _ _ _ (allOff_keeps hk hq _ _
    (forEach_keeps (Steady s) allChannels _ (fun c _ t ht => sealChannel_keeps hk.toKeepsBlocks c t ht) s (.refl s)))

theorem stopHalted_steady (s : State) : Steady s (haltGroups (stopHits s)) :=
  haltGroups_keeps (steady_tests s).toKeepsBlocks _ (stopHits_steady s)

theorem stopHits_capture (s : State) : (stopHits s).capture = (forEach allChannels sealChannel s).capture := by
  unfold stopHits
  rw [endTest_halted blindHalt_capture, allOff_halted blindHalt_capture]

theorem stopHits_allOff (s : State) : AllOff (stopHits s) := by
  unfold stopHits
  exact endTest_keeps allOff_units.toKeepsTests (presentQuietly_keeps allOff_units.toKeepsWork) _ _ _ (allOff_established _)

theorem stopRun_fold (s : State) :
    haltGroups (stopHits s) =
      let sealed := (List.finRange 32).foldl (fun u c => sealChannel c u) s
      let off := (List.finRange 32).foldl (fun u c => detectorOff presentQuietly .halt c u) sealed
      let ended := endTest presentQuietly .withheld .aborted off
      ended.grouping.groups.foldl (fun u g => closeGroup .halted g u) ended := by
  unfold haltGroups stopHits forEach allChannels
  rfl

/-- The part in IDLE after STOP, from the state in which its hits and groups have ended. -/
def stopped (r : RunControl) (s : State) : State :=
  ((s.setTracker { s.tracker with armed := false, satList := Vector.replicate 32 none }).setCells
    { s.cells with boundary := none }).setRun { r with state := .idle }

theorem stopRun_stopped (s : State) : stopRun s = stopped s.run (haltGroups (stopHits s)) := by
  rw [stopRun_eq]
  have hrun := (stopHalted_steady s).run
  generalize haltGroups (stopHits s) = u at hrun
  rw [← hrun]
  rfl

theorem stopped_settings {s t : State} (r : RunControl) (h : SameSettings s t) : SameSettings s (stopped r t) := { h with }

/-- Settles O35: a STOP seals, halts and ends in the order of R162, and only then changes the tracker, the slot timer and the run
state. -/
theorem stopLeavesRun : Obligations.StopLeavesRun := by
  intro s e rest hs hk
  refine ⟨fun hc => ?refuse, fun hb hrun => ?stop⟩
  case refuse => rw [exec_stop_eq hs hk, orderEnd_state, if_pos hc]
  case stop =>
    have hexec := exec_stop_eq hs hk
    rw [orderEnd_state, if_neg (by simp [hb, hrun]), stopRun_stopped] at hexec
    have hsteady := stopHalted_steady (s.headTaken rest)
    have hoff := haltGroups_allOff (stopHits_allOff (s.headTaken rest))
    have hgroups := haltGroups_groups (stopHits (s.headTaken rest))
    have htest := stopRun_test (s.headTaken rest)
    have hcapture := (haltGroups_capture _).trans (stopHits_capture (s.headTaken rest))
    have hfold := stopRun_fold (s.headTaken rest)
    generalize haltGroups (stopHits (s.headTaken rest)) = u at hexec hsteady hoff hgroups htest hcapture hfold
    have hsettle := settleCapture_steady (stopped s.run u)
    refine ⟨settleCapture (stopped s.run u), hexec, hsettle.run, ?off, ?groups, ?test, hsettle.armed, hsettle.boundary,
      fun hone i g hg hf => ?sealed, ?order, hsettle.lanes.trans hsteady.lanes, ?settings⟩
    case off => exact settleCapture_keeps allOff_units.toKeepsBlocks (stopped s.run u) hoff
    case groups => rw [settleCapture_grouping]; exact hgroups
    case test => rw [settleCapture_pulse]; exact htest
    case sealed =>
      have hu : u.capture.segments[i] = some g := settleCapture_filling (s := stopped s.run u) hg hf
      rw [hcapture] at hu
      exact allSealed (s := s.headTaken rest) hone i g hu hf
    case order =>
      unfold stopped
      rw [hfold]
    case settings => exact { (stopped_settings s.run hsteady.toSameSettings).trans hsettle.toSameSettings with }

end Sys2Proof.Machine
end

section
/-! The orders that make detectors live: PULSE, and what wakes (R17, R54, R55, R148, R149). -/

namespace Sys2Proof.Machine

/-! ## Waking every detector that may be live (R54, R55) -/

theorem allLive_units (s : State) (c : Fin 32) :
    (forEach allChannels makeLive s).units[c] = wakeIf (s.mayLive c) s.units[c] := by
  unfold allChannels
  have hall := forEach_all (g := State.units) (k := State.mayLive) (h := fun c m p => wakeIf (m c) p)
    (fun c t => funext fun d => makeLive_mayLive c d t) (fun c t d => makeLive_units c d t) s c
  exact hall

theorem allLive_only (s : State) : OnlyUnits s (forEach allChannels makeLive s) :=
  forEach_onlyUnits makeLive_onlyUnits allChannels s

theorem wakeIf_state (b : Bool) (p : Detector × Channel) :
    (wakeIf b p).1.state = if b = true ∧ p.1.state = .off then .quiet else p.1.state := by
  unfold wakeIf
  split <;> rfl

theorem allLive_state (s : State) (c : Fin 32) : ((forEach allChannels makeLive s).detectors[c]).state =
    if s.mayLive c = true ∧ s.detectors[c].state = .off then .quiet else s.detectors[c].state := by
  have hunits := allLive_units s c
  generalize forEach allChannels makeLive s = t at hunits ⊢
  rw [units_get, units_get] at hunits
  exact (congrArg (fun p : Detector × Channel => p.1.state) hunits).trans (wakeIf_state _ _)

/-! ## PULSE (R148, R149) -/

section
variable {s : State} {e : IntakeEntry} {rest : List IntakeEntry}

theorem exec_pulse_eq (h : Serves s e rest) (hk : TakenAs pulseKind e) :
    exec .pulse s = .next (orderEnd s e rest
      (firstReason [(s.run.bypass, .state), (s.run.state == .tailing || s.run.state == .frozen, .state), (s.testing, .busy),
        (pulseOutOfRange e s, .range), (pulseLaneDown e s, .lane), (!s.timebase.set, .time)])
      (startTest e (s.headTaken rest))) :=
  congrArg Host.Outcome.next (executeOrder_eq h ((taken_iff _ _).2 hk))

end

theorem departed_iff (s : State) : (s.run.state == .tailing || s.run.state == .frozen) = true ↔
    s.run.state = .tailing ∨ s.run.state = .frozen := by
  rw [Bool.or_eq_true, beq_iff_eq, beq_iff_eq]

theorem notDeparted {s : State} (h : s.run.state = .idle ∨ s.run.state = .run) :
    (s.run.state == .tailing || s.run.state == .frozen) = false := by
  rcases h with h | h <;> rw [h] <;> rfl

theorem pulseOutOfRange_iff (e : IntakeEntry) (s : State) : pulseOutOfRange e s = true ↔
    e.order.args.length < 4 ∨ fieldAt e.order.args 2 2 = 0 ∨ pulseSource e s = none := by
  have hbound := fieldAt_lt e.order.args 2 2
  simp only [pulseOutOfRange, Bool.or_eq_true, Order.short_iff, not_within_iff, Option.isNone_iff_eq_none, or_assoc]
  refine or_congr Iff.rfl ?_
  rw [← or_assoc]
  exact or_congr (by omega) Iff.rfl

theorem pulseLaneDown_eq {e : IntakeEntry} {s : State} {n c : Fin 32} (h : pulseSource e s = some (n, c)) :
    pulseLaneDown e s = !(s.podUp (laneOf c)) := by
  simp only [pulseLaneDown, h]

/-- The test that a PULSE starts on the source channel `c` of sensor `n`. -/
def testStarted (e : IntakeEntry) (n c : Fin 32) (s : State) : State :=
  (sendFireMark c s).setPulse { Pulse.reset with
    test := .waiting { tag := e.order.tag.toNat, source := n, channel := c, window := fieldAt e.order.args 2 2,
                       sendTick := s.timebase.counter } 0 }

theorem startTest_eq {e : IntakeEntry} {s : State} {n c : Fin 32} (h : pulseSource e s = some (n, c)) :
    startTest e s = if s.run.state = .idle then forEach allChannels makeLive (testStarted e n c s) else testStarted e n c s := by
  have hlisten : (testStarted e n c s).listening = true ↔ s.run.state = .idle := by
    rw [listening_iff]
    exact ⟨fun h => h.2, fun h => ⟨nofun, h⟩⟩
  simp only [startTest, h]
  exact if_congr hlisten rfl rfl

theorem startTest_only {e : IntakeEntry} {s : State} {n c : Fin 32} (h : pulseSource e s = some (n, c)) :
    OnlyUnits (testStarted e n c s) (startTest e s) := by
  rw [startTest_eq h]
  split
  · exact allLive_only _
  · exact .refl _

theorem startTest_state {e : IntakeEntry} {s : State} {n c : Fin 32} (h : pulseSource e s = some (n, c)) (d : Fin 32) :
    (startTest e s).detectors[d].state =
      if s.run.state = .idle ∧ s.detectors[d].state = .off ∧ s.podUp (laneOf d) = true ∧ s.sensorMap[d] ≠ none then .quiet
      else s.detectors[d].state := by
  rw [startTest_eq h]
  by_cases hidle : s.run.state = .idle
  · have hlive : (testStarted e n c s).mayLive d = true ↔ s.podUp (laneOf d) = true ∧ s.sensorMap[d] ≠ none := by
      rw [mayLive_iff]
      exact ⟨fun h => h.2, fun h => ⟨.inr (.inr ⟨hidle, nofun⟩), h⟩⟩
    rw [if_pos hidle, allLive_state]
    refine if_congr ?_ rfl rfl
    rw [hlive]
    exact ⟨fun h => ⟨hidle, h.2, h.1⟩, fun h => ⟨h.2.2, h.2.1⟩⟩
  · rw [if_neg hidle, if_neg fun h => hidle h.1]
    rfl

/-- Settles O39: the refusals in their order; a taken PULSE starts the test and, in IDLE, wakes the detectors that may listen. -/
theorem pulseStartsTest : Obligations.PulseStartsTest := by
  intro s e rest hs hk window
  rw [exec_pulse_eq hs hk]
  refine ⟨fun hc => ?state, fun hb hrun => ⟨fun ht => ?busy, fun ht => ⟨fun hr => ?range, fun hlen hw n c hsource => ?placed⟩⟩⟩
  case state =>
    simp only [orderEnd_cons]
    rcases hc with hb | hc
    · rw [if_pos hb]
    · rw [if_pos ((departed_iff s).2 hc), ite_self]
  all_goals simp only [orderEnd_cons, hb, notDeparted hrun, Bool.false_eq_true, if_false]
  case busy => rw [if_pos ((testing_iff s).2 ((inFlight_iff _).2 ht))]
  all_goals
    have hquiet : ¬ s.testing = true := fun h => (inFlight_iff _).1 h ht
    rw [if_neg hquiet]
  case range => rw [if_pos ((pulseOutOfRange_iff e s).2 hr)]
  case placed =>
    have hin : ¬ pulseOutOfRange e s = true := fun h => by
      rcases (pulseOutOfRange_iff e s).1 h with h | h | h
      · omega
      · exact hw h
      · exact nomatch hsource.symm.trans h
    rw [if_neg hin, pulseLaneDown_eq hsource]
    refine ⟨fun hdown => by rw [hdown]; rfl, fun hup hset => by rw [hup, hset]; rfl, fun hup hset => ?_⟩
    have hsource' : pulseSource e (s.headTaken rest) = some (n, c) := hsource
    have honly := startTest_only hsource'
    refine ⟨startTest e (s.headTaken rest), by rw [hup, hset]; rfl, honly.same (g := fun t => t.pulse.test) fun _ _ _ => rfl,
      honly.same (g := fun t => t.pulse.hold) fun _ _ _ => rfl, fun m => ?_,
      honly.same (g := State.fireMark) fun _ _ _ => rfl, startTest_state hsource',
      honly.same (g := State.link) fun _ _ _ => rfl, honly.same (g := State.lanes) fun _ _ _ => rfl,
      honly.same (g := State.capture) fun _ _ _ => rfl, honly.same (g := State.run) fun _ _ _ => rfl,
      honly.same (g := State.tracker) fun _ _ _ => rfl, honly.same (g := State.grouping) fun _ _ _ => rfl,
      honly.same (g := State.cells) fun _ _ _ => rfl, ?_⟩
    · have hresults : (startTest e (s.headTaken rest)).pulse.results = Pulse.reset.results :=
        honly.same (g := fun t => t.pulse.results) fun _ _ _ => rfl
      rw [hresults]
      exact Vector.getElem_replicate _
    · exact ⟨honly.same (g := State.power) fun _ _ _ => rfl, honly.same (g := State.timebase) fun _ _ _ => rfl,
        honly.same (g := State.phaseMap) fun _ _ _ => rfl, honly.same (g := State.sensorMap) fun _ _ _ => rfl,
        honly.same (g := State.pairs) fun _ _ _ => rfl, honly.same (g := State.pending) fun _ _ _ => rfl⟩

end Sys2Proof.Machine
end

section
/-! START: its refusals, the segments left over, and the entry into RUN (R124, R143, R160, R161). -/

namespace Sys2Proof.Machine

/-! ## The segments left over (R143) -/

/-- What START leaves of a segment: a FILLING one alone. -/
def Segment.leftover (g : Segment) : Option Segment := if g.stage = .filling then some g else none

theorem endSegment_segment (i : Fin 64) (g : Segment) (l d : Bool) (s : State) (j : Fin 64) :
    (endSegment i g l d s).capture.segments[j] = if j = i then none else s.capture.segments[j] := by
  rw [endSegment_segments]
  exact put_get _ _ _ _

theorem endSegment_link (i : Fin 64) (g : Segment) (l d : Bool) (s : State) : (endSegment i g l d s).link =
    (offer (.trace (closingTrace s.run.address i g l d)) false s).link := rfl

theorem endSegment_memory (i : Fin 64) (g : Segment) (l d : Bool) (s : State) :
    (endSegment i g l d s).capture.memory = s.capture.memory :=
  offer_same (g := fun t => t.capture.memory) ⟨fun _ _ => rfl⟩ (.trace (closingTrace s.run.address i g l d)) false s

/-- A segment that START ends, as its closing record shows it. -/
def Segment.dropped (g : Segment) : Segment := { g with lost := g.lost ++ g.unread }

theorem dropLeftover_ended {i : Fin 64} {g : Segment} {s : State} (hg : s.capture.segments[i] = some g)
    (hf : g.stage ≠ .filling) : dropLeftover i s = endSegment i g.dropped true g.damaged s := by
  unfold dropLeftover
  rw [hg]
  exact if_neg hf

theorem dropLeftover_kept {i : Fin 64} {s : State} (h : ∀ g, s.capture.segments[i] = some g → g.stage = .filling) :
    dropLeftover i s = s := by
  unfold dropLeftover
  cases hg : s.capture.segments[i] with
  | none => rfl
  | some g => exact if_pos (h g hg)

theorem dropLeftover_cases (i : Fin 64) (s : State) :
    (∃ g, s.capture.segments[i] = some g ∧ g.stage ≠ .filling ∧ dropLeftover i s = endSegment i g.dropped true g.damaged s) ∨
      (∀ g, s.capture.segments[i] = some g → g.stage = .filling) ∧ dropLeftover i s = s := by
  by_cases h : ∀ g, s.capture.segments[i] = some g → g.stage = .filling
  · exact .inr ⟨h, dropLeftover_kept h⟩
  · obtain ⟨g, hg⟩ := not_forall.1 h
    obtain ⟨hg, hf⟩ := Classical.not_imp.1 hg
    exact .inl ⟨g, hg, hf, dropLeftover_ended hg hf⟩

theorem dropLeftover_segment (i : Fin 64) (s : State) (j : Fin 64) :
    (dropLeftover i s).capture.segments[j] =
      if j = i then s.capture.segments[i].bind Segment.leftover else s.capture.segments[j] := by
  rcases dropLeftover_cases i s with ⟨g, hg, hf, hdrop⟩ | ⟨h, hdrop⟩
  · rw [hdrop, endSegment_segment, hg, Option.bind_some, Segment.leftover, if_neg hf]
  · rw [hdrop]
    refine put_id _ i j _ ?_
    cases hg : s.capture.segments[i] with
    | none => rfl
    | some g => rw [Option.bind_some, Segment.leftover, if_pos (h g hg)]

theorem dropLeftovers_segment (s : State) (i : Fin 64) :
    (forEach allSegments dropLeftover s).capture.segments[i] = s.capture.segments[i].bind Segment.leftover := by
  unfold allSegments
  have hall := forEach_all (g := fun t => t.capture.segments) (k := fun _ => ()) (h := fun _ _ x => x.bind Segment.leftover)
    (fun _ _ => rfl) (fun i t j => dropLeftover_segment i t j) s i
  exact hall

theorem dropLeftover_writer (i : Fin 64) (s : State) : (dropLeftover i s).writer = s.writer := by
  rcases dropLeftover_cases i s with ⟨g, _, _, hdrop⟩ | ⟨_, hdrop⟩
  · rw [hdrop, endSegment_writer]
  · rw [hdrop]

theorem dropLeftover_memory (i : Fin 64) (s : State) : (dropLeftover i s).capture.memory = s.capture.memory := by
  rcases dropLeftover_cases i s with ⟨g, _, _, hdrop⟩ | ⟨_, hdrop⟩
  · rw [hdrop, endSegment_memory]
  · rw [hdrop]

/-! ## The closing records of the segments left over -/

theorem trace_admitted {f : Nat} {r : TraceRecord} (h : f + 3 ≤ 3584) : admitted f (.trace r) false = true :=
  (admitted_iff f _ false (.inr rfl)).2 ⟨by show f + 3 ≤ 4096; omega, .inr (.inl ⟨by omega, rfl⟩)⟩

theorem offer_trace_link {r : TraceRecord} {s : State} (hb : s.run.bypass = false) (h : s.link.fill + 3 ≤ 3584) :
    (offer (.trace r) false s).link.own = s.link.own ++ [.trace r] ∧ (offer (.trace r) false s).link.fill = s.link.fill + 3 := by
  rw [offer_admitted hb (trace_admitted h), State.setLink_link]
  refine ⟨rfl, ?_⟩
  show ((s.link.own ++ [Record.trace r]).map Record.units).sum = _
  rw [List.map_append, List.sum_append]
  rfl

theorem dropLeftover_steady (i : Fin 64) (s : State) : Steady s (dropLeftover i s) := by
  rcases dropLeftover_cases i s with ⟨g, _, _, hdrop⟩ | ⟨_, hdrop⟩
  · rw [hdrop]
    exact endSegment_keeps (steady_tests s).toKeepsBlocks _ _ _ _ _ (.refl s)
  · rw [hdrop]
    exact .refl s

theorem dropLeftover_fill {i : Fin 64} {s : State} (hb : s.run.bypass = false) (h : s.link.fill + 3 ≤ 3584) :
    (dropLeftover i s).link.fill ≤ s.link.fill + 3 := by
  rcases dropLeftover_cases i s with ⟨g, _, _, hdrop⟩ | ⟨_, hdrop⟩
  · rw [hdrop, endSegment_link, (offer_trace_link hb h).2]
  · rw [hdrop]
    omega

/-- While the own record queue has room for them all, each segment left over has its closing record in it. -/
theorem dropLeftovers_own {l : List (Fin 64)} {s : State} {i : Fin 64} {g : Segment} (hi : i ∈ l)
    (hb : s.run.bypass = false) (hfill : s.link.fill + 3 * l.length ≤ 3584) (hg : s.capture.segments[i] = some g)
    (hf : g.stage ≠ .filling) :
    Record.trace (closingTrace s.run.address i g.dropped true g.damaged) ∈ (forEach l dropLeftover s).link.own := by
  induction l generalizing s with
  | nil => exact nomatch hi
  | cons b l ih =>
    rw [List.length_cons] at hfill
    rw [forEach_cons]
    have hstep := dropLeftover_steady b s
    by_cases hib : i = b
    · subst hib
      have hrest := forEach_keeps (Steady (dropLeftover i s)) l dropLeftover
        (fun c _ t ht => ht.trans (dropLeftover_steady c t)) (dropLeftover i s) (.refl _)
      refine hrest.own.subset ?_
      rw [dropLeftover_ended hg hf, endSegment_link, (offer_trace_link hb (by omega)).1]
      exact List.mem_append_right _ List.mem_cons_self
    · have hkept : (dropLeftover b s).capture.segments[i] = some g := by
        rw [dropLeftover_segment, if_neg hib, hg]
      have hsmall := dropLeftover_fill (i := b) hb (by omega)
      have hnext := ih ((List.mem_cons.1 hi).resolve_left hib) (by rw [hstep.run]; exact hb) (by omega) hkept
      rw [hstep.run] at hnext
      exact hnext

/-! ## START at the capture unit and the cells (R124, R143) -/

/-- The state in which START examines the segments: the ring writes are void and the rings reset. -/
def ringsReset (s : State) : State :=
  s.setCapture
    { s.capture with
      queue := []
      access := s.capture.access.map (Access.mapWrite (fun w => { w with voided := true }))
      rings := resetRings s.capture.ringLines }

theorem startCapture_eq (s : State) : startCapture s = forEach allSegments dropLeftover (ringsReset s) := rfl

theorem startCapture_writer (s : State) : (startCapture s).writer = (ringsReset s).writer := by
  rw [startCapture_eq, forEach_same State.writer _ _ dropLeftover_writer]

theorem startCapture_memory (s : State) : (startCapture s).capture.memory = s.capture.memory := by
  have hkept := forEach_same (fun t => t.capture.memory) allSegments dropLeftover dropLeftover_memory (ringsReset s)
  rw [startCapture_eq]
  exact hkept

theorem startCapture_segment (s : State) (i : Fin 64) :
    (startCapture s).capture.segments[i] = s.capture.segments[i].bind Segment.leftover := by
  rw [startCapture_eq, dropLeftovers_segment]
  rfl

theorem startCapture_own {s : State} {i : Fin 64} {g : Segment} (hb : s.run.bypass = false)
    (hfill : s.link.fill + 3 * 64 ≤ 3584) (hg : s.capture.segments[i] = some g) (hf : g.stage ≠ .filling) :
    Record.trace (closingTrace s.run.address i g.dropped true g.damaged) ∈ (startCapture s).link.own := by
  rw [startCapture_eq]
  exact dropLeftovers_own (s := ringsReset s) (List.mem_finRange i) hb hfill hg hf

theorem startCells_cell (s : State) (n : Fin 1024) :
    (startCells s).cells.cells[n] = { s.cells.cells[n].zeroed with alarm := .quiet } := by
  have hall := forEach_cells (k := fun _ => ()) (h := fun _ c => { c.zeroed with alarm := .quiet }) (f := startCell)
    (fun _ _ => rfl) (fun n s m => changeAlarm_get n m _ _ _ s) s n
  unfold startCells
  exact hall

/-- What START has done when it comes to run control. -/
structure Started (s t : State) : Prop extends Steady s t where
  writer : t.writer = (ringsReset s).writer
  memory : t.capture.memory = s.capture.memory
  segment : ∀ i : Fin 64, t.capture.segments[i] = s.capture.segments[i].bind Segment.leftover
  cell : ∀ n : Fin 1024, t.cells.cells[n] = { s.cells.cells[n].zeroed with alarm := .quiet }
  grouping : t.grouping = s.grouping
  detectors : t.detectors = s.detectors
  pulse : t.pulse = s.pulse
  slotLength : t.cells.slotLength = s.cells.slotLength
  record : ∀ (i : Fin 64) (g : Segment), s.run.bypass = false → s.link.fill + 3 * 64 ≤ 3584 →
    s.capture.segments[i] = some g → g.stage ≠ .filling →
    Record.trace (closingTrace s.run.address i g.dropped true g.damaged) ∈ t.link.own

theorem startCells_started (s : State) : Started s (startCells (startCapture s)) where
  toSteady := startCells_keeps (steady_tests s).toKeepsBlocks _ (startCapture_keeps (steady_tests s).toKeepsBlocks s (.refl s))
  writer := (startCells_same (g := State.writer) ⟨⟨fun _ _ => rfl⟩, fun _ _ => rfl⟩ _).trans (startCapture_writer s)
  memory := (startCells_same (g := fun t => t.capture.memory) ⟨⟨fun _ _ => rfl⟩, fun _ _ => rfl⟩ _).trans (startCapture_memory s)
  segment i := (startCells_same (g := fun t => t.capture.segments[i]) ⟨⟨fun _ _ => rfl⟩, fun _ _ => rfl⟩ _).trans
    (startCapture_segment s i)
  cell n := by
    rw [startCells_cell, startCapture_same (g := State.cells) ⟨⟨fun _ _ => rfl⟩, fun _ _ => rfl⟩]
  grouping := (startCells_same ⟨⟨fun _ _ => rfl⟩, fun _ _ => rfl⟩ _).trans (startCapture_same ⟨⟨fun _ _ => rfl⟩, fun _ _ => rfl⟩ s)
  detectors := (startCells_same ⟨⟨fun _ _ => rfl⟩, fun _ _ => rfl⟩ _).trans (startCapture_same ⟨⟨fun _ _ => rfl⟩, fun _ _ => rfl⟩ s)
  pulse := (startCells_same ⟨⟨fun _ _ => rfl⟩, fun _ _ => rfl⟩ _).trans (startCapture_same ⟨⟨fun _ _ => rfl⟩, fun _ _ => rfl⟩ s)
  slotLength := slotLength_of_slotTimer ((startCells_slotTimer _).trans
    (startCapture_same (g := State.slotTimer) ⟨⟨fun _ _ => rfl⟩, fun _ _ => rfl⟩ s))
  record i g hb hfill hg hf :=
    (startCells_keeps (steady_tests (startCapture s)).toKeepsBlocks _ (.refl _)).own.subset (startCapture_own hb hfill hg hf)

/-! ## START (R160, R161) -/

section
variable {s : State} {e : IntakeEntry} {rest : List IntakeEntry}

theorem exec_start_eq (h : Serves s e rest) (hk : TakenAs startKind e) :
    exec .start s = .next (orderEnd s e rest
      (firstReason [(s.run.bypass, .state), (s.notIdle, .state), (!s.timebase.set, .time), (s.unmapped, .nosensor),
        (s.pulse.test.isWaiting, .busy)])
      (startRun (s.headTaken rest))) :=
  congrArg Host.Outcome.next (executeOrder_eq h ((taken_iff _ _).2 hk))

end

theorem unmapped_iff (s : State) : s.unmapped = true ↔ ∀ c : Fin 32, s.sensorMap[c] = none := by
  simp [State.unmapped, allChannels]

theorem isWaiting_iff (t : TestState) : t.isWaiting = true ↔ ∃ i n, t = .waiting i n := by
  cases t <;> simp [TestState.isWaiting]

theorem exec_start_taken {s : State} {e : IntakeEntry} {rest : List IntakeEntry} (hs : Serves s e rest)
    (hk : TakenAs startKind e) (hb : s.run.bypass = false) (hidle : s.run.state = .idle) (hset : s.timebase.set = true)
    (hmapped : ∃ c : Fin 32, s.sensorMap[c] ≠ none) (hwait : ∀ i n, s.pulse.test ≠ .waiting i n) :
    exec .start s = .next (doneState e (startRun (s.headTaken rest))) := by
  have hbypass : ¬ s.run.bypass = true := by simp [hb]
  have hrun : ¬ s.run.state ≠ .idle := not_not.2 hidle
  have hsome : ¬ ∀ c : Fin 32, s.sensorMap[c] = none := not_forall.2 hmapped
  have hwaits : ¬ s.pulse.test.isWaiting = true := fun hw => by
    obtain ⟨i, n, h⟩ := (isWaiting_iff _).1 hw
    exact hwait i n h
  simp only [exec_start_eq hs hk, orderEnd_cons, orderEnd_nil, notIdle_iff, unmapped_iff]
  rw [if_neg hbypass, if_neg hrun, hset, if_neg hsome, if_neg hwaits]
  rfl

/-- What START wakes when it has entered RUN. -/
theorem startBlocks_state {s u : State} (h : Started s u) (c : Fin 32) :
    (forEach allChannels makeLive (startBlocks u)).detectors[c].state =
    if s.detectors[c].state = .off ∧ s.lanes[laneOf c].role = .pod ∧ s.lanes[laneOf c].state = .up ∧ s.sensorMap[c] ≠ none
    then .quiet else s.detectors[c].state := by
  have hdet : (startBlocks u).detectors = s.detectors := h.detectors
  have hlanes : (startBlocks u).lanes = s.lanes := h.lanes
  have hsensors : (startBlocks u).sensorMap = s.sensorMap := h.sensorMap
  have hlive : (startBlocks u).mayLive c = true ↔
      s.lanes[laneOf c].role = .pod ∧ s.lanes[laneOf c].state = .up ∧ s.sensorMap[c] ≠ none := by
    rw [mayLive_iff, podUp_iff, hlanes, hsensors]
    exact ⟨fun h => ⟨h.2.1.1, h.2.1.2, h.2.2⟩, fun h => ⟨.inl rfl, ⟨h.1, h.2.1⟩, h.2.2⟩⟩
  rw [allLive_state, hdet]
  exact if_congr (by rw [hlive, and_comm]) rfl rfl

/-- A taken START: a state in which the capture unit and the cells are started, and after it the detectors that wake. -/
theorem exec_start_started {s : State} {e : IntakeEntry} {rest : List IntakeEntry} (hs : Serves s e rest)
    (hk : TakenAs startKind e) (hb : s.run.bypass = false) (hidle : s.run.state = .idle) (hset : s.timebase.set = true)
    (hmapped : ∃ c : Fin 32, s.sensorMap[c] ≠ none) (hwait : ∀ i n, s.pulse.test ≠ .waiting i n) :
    ∃ u t, Started (s.headTaken rest) u ∧ OnlyUnits (startBlocks u) t ∧
      (∀ c : Fin 32, t.detectors[c].state =
        if s.detectors[c].state = .off ∧ s.lanes[laneOf c].role = .pod ∧ s.lanes[laneOf c].state = .up ∧
          s.sensorMap[c] ≠ none then .quiet else s.detectors[c].state) ∧
      exec .start s = .next (doneState e t) :=
  ⟨_, _, startCells_started _, allLive_only _,
    fun c => startBlocks_state (s := s.headTaken rest) (startCells_started _) c,
    exec_start_taken hs hk hb hidle hset hmapped hwait⟩

/-- Settles O34: the refusals in their order; a taken START clears the capture unit and the cells, enters RUN, and wakes the
detectors that may measure. -/
theorem startEntersRun : Obligations.StartEntersRun := by
  refine ⟨fun s e rest hs hk => ?refuses, fun s e rest hs hk hb hidle hset hmapped hwait => ?enters⟩
  case refuses =>
    simp only [exec_start_eq hs hk, orderEnd_cons, notIdle_iff, unmapped_iff]
    refine ⟨fun hc => ?_, fun hb hidle => ?_⟩
    · rcases hc with hb | hc
      · rw [if_pos hb]
      · rw [if_pos hc, ite_self]
    · have hbypass : ¬ s.run.bypass = true := by simp [hb]
      have hrun : ¬ s.run.state ≠ .idle := not_not.2 hidle
      rw [if_neg hbypass, if_neg hrun]
      refine ⟨fun hset => ?_, fun hset => ⟨fun hno => ?_, fun hmapped i n ht => ?_⟩⟩
      · rw [hset]
        rfl
      · rw [hset, if_pos hno]
        rfl
      · have hsome : ¬ ∀ c : Fin 32, s.sensorMap[c] = none := not_forall.2 hmapped
        have hwaits : s.pulse.test.isWaiting = true := (isWaiting_iff _).2 ⟨i, n, ht⟩
        rw [hset, if_neg hsome, if_pos hwaits]
        rfl
  case enters =>
    obtain ⟨u, t, hstarted, honly, hstate, hexec⟩ := exec_start_started hs hk hb hidle hset hmapped hwait
    have hsame {β : Type} (g : State → β) (hg : ∀ s x y, g ((s.setDetectors x).setChannels y) = g s) :
        g t = g (startBlocks u) := honly.same hg
    have htwriter : t.writer = (ringsReset (s.headTaken rest)).writer :=
      (hsame State.writer fun _ _ _ => rfl).trans hstarted.writer
    have htsegment (i : Fin 64) : t.capture.segments[i] = s.capture.segments[i].bind Segment.leftover :=
      (hsame (fun t => t.capture.segments[i]) fun _ _ _ => rfl).trans (hstarted.segment i)
    have httracker : t.tracker = u.tracker.start := hsame State.tracker fun _ _ _ => rfl
    have hutracker := hstarted.tracker
    refine ⟨t, hexec, ?run, ?grouping, ?armed, ?pmax, fun n => ?sat, ?phase, ?boundary, fun n => ?cells, fun c => ?rings, ?queue,
      ?memory, fun i => ⟨fun hnone => ?free, fun g hg => ⟨fun hf => ?filling, fun hf => ⟨?ended, fun hfill => ?record⟩⟩⟩,
      hstate, ?lanes, ?pulse, ?settings⟩
    case run =>
      rw [hsame State.run fun _ _ _ => rfl]
      show { u.run with cause := none, burstTick := none, state := .run } = _
      rw [hstarted.run]
      rfl
    case grouping =>
      rw [hsame State.grouping fun _ _ _ => rfl]
      show { u.grouping with counter := 0, lastClosed := none } = _
      rw [hstarted.grouping]
      rfl
    case armed => rw [httracker]; rfl
    case pmax => rw [httracker, hutracker]; rfl
    case sat =>
      rw [httracker]
      exact Vector.getElem_replicate _
    case phase => rw [httracker, hutracker]; rfl
    case boundary =>
      rw [hsame (fun t => t.cells.boundary) fun _ _ _ => rfl]
      show some (tickAdd u.timebase.counter u.cells.slotLength) = _
      rw [hstarted.timebase, hstarted.slotLength]
      rfl
    case cells =>
      rw [hsame State.cells fun _ _ _ => rfl]
      exact hstarted.cell n
    case rings =>
      have hring : t.writer.rings[c] = Ring.reset s.capture.ringLines := by
        rw [htwriter]
        exact Vector.getElem_replicate _
      exact ⟨congrArg Ring.writePos hring, congrArg Ring.ringTick hring, congrArg Ring.marks hring⟩
    case queue => exact congrArg Writer.queue htwriter
    case memory => exact (hsame (fun t => t.capture.memory) fun _ _ _ => rfl).trans hstarted.memory
    case free => rw [htsegment, hnone]; rfl
    case filling =>
      rw [htsegment, hg]
      exact if_pos hf
    case ended =>
      rw [htsegment, hg]
      exact if_neg hf
    case record =>
      refine ⟨closingTrace s.run.address i g.dropped true g.damaged, ?_, rfl, rfl, rfl, rfl, rfl, rfl, rfl, ?_⟩
      · rw [hsame State.link fun _ _ _ => rfl]
        exact hstarted.record i g hb hfill hg hf
      · show (g.lost ++ g.unread).length - g.lostReported = _
        rw [List.length_append]
    case lanes => exact (hsame State.lanes fun _ _ _ => rfl).trans hstarted.lanes
    case pulse => exact (hsame State.pulse fun _ _ _ => rfl).trans hstarted.pulse
    case settings =>
      exact ⟨(hsame State.power fun _ _ _ => rfl).trans hstarted.power, (hsame State.timebase fun _ _ _ => rfl).trans hstarted.timebase,
        (hsame State.phaseMap fun _ _ _ => rfl).trans hstarted.phaseMap,
        (hsame State.sensorMap fun _ _ _ => rfl).trans hstarted.sensorMap,
        (hsame State.pairs fun _ _ _ => rfl).trans hstarted.pairs, (hsame State.pending fun _ _ _ => rfl).trans hstarted.pending⟩

end Sys2Proof.Machine
end

section
/-! RESTART: every block afresh, and the lanes that align again (R2, R6, R171). -/

namespace Sys2Proof.Machine

/-! ## The lanes that align again, on the record link -/

/-- The notice of a lane's entry into ALIGNING by its signal. -/
def alignNotice (s : State) (l : Fin 4) : Record :=
  .notice { part := s.run.address, tick := s.timebase.counter, body := .lane l .down .aligning .signal }

/-- The lane enters ALIGNING when it is asked to. -/
def aligns (s : State) (l : Fin 4) : Bool := decide (s.lanes[l].state = .down) && s.lanes[l].signal

theorem notify_link {body : NoticeBody} {s : State} (hb : s.run.bypass = false) (h : s.link.fill + 2 ≤ 4096) :
    (notify body s).link = s.link.enqueue
      (.notice { part := s.run.address, tick := s.timebase.counter, body := body }) := by
  rw [notify, offer_admitted hb (notice_admitted h), State.setLink_link]

theorem tryAlign_link {l : Fin 4} {s : State} (hb : s.run.bypass = false) (h : s.link.fill + 2 ≤ 4096) :
    (tryAlign l s).link = if aligns s l then s.link.enqueue (alignNotice s l) else s.link := by
  have hiff : aligns s l = true ↔ s.lanes[l].state = .down ∧ s.lanes[l].signal = true := by
    rw [aligns, Bool.and_eq_true, decide_eq_true_eq]
  unfold tryAlign
  dsimp only
  by_cases ha : s.lanes[l].state = .down ∧ s.lanes[l].signal = true
  · rw [if_pos ha, if_pos (hiff.2 ha)]
    exact notify_link (s := s.setLane l _) hb h
  · rw [if_neg ha, if_neg fun h => ha (hiff.1 h)]

theorem tryAlign_same_blocks {β : Type} {g : State → β} (hg : ∀ s x y, g ((s.setLanes x).setLink y) = g s) (l : Fin 4)
    (s : State) : g (tryAlign l s) = g s := by
  rw [tryAlign_only, hg]

theorem enqueue_fill (k : Link) (r : Record) : (k.enqueue r).fill = k.fill + r.units := by
  show ((k.own ++ [r]).map Record.units).sum = _
  rw [List.map_append, List.sum_append]
  rfl

theorem aligns_other {l k : Fin 4} {s : State} (h : k ≠ l) : aligns (tryAlign l s) k = aligns s k := by
  unfold aligns
  rw [tryAlign_lanes, if_neg h]

theorem alignAll_link {l : List (Fin 4)} (hl : l.Nodup) {s : State} (hb : s.run.bypass = false)
    (hfill : s.link.fill + 2 * l.length ≤ 4096) :
    (forEach l tryAlign s).link = ((l.filter (aligns s)).map (alignNotice s)).foldl Link.enqueue s.link := by
  induction l generalizing s with
  | nil => rfl
  | cons k l ih =>
    obtain ⟨hk, hl⟩ := List.nodup_cons.1 hl
    rw [List.length_cons] at hfill
    have hlink := tryAlign_link (l := k) hb (by omega)
    have hrun : (tryAlign k s).run = s.run := tryAlign_same_blocks (g := State.run) (fun _ _ _ => rfl) k s
    have htime : (tryAlign k s).timebase = s.timebase := tryAlign_same_blocks (g := State.timebase) (fun _ _ _ => rfl) k s
    have hsmall : (tryAlign k s).link.fill ≤ s.link.fill + 2 := by
      rw [hlink]
      split
      · exact (enqueue_fill _ _).le
      · omega
    have hrest : (l.filter (aligns (tryAlign k s))).map (alignNotice (tryAlign k s)) = (l.filter (aligns s)).map (alignNotice s) := by
      have hnotice : alignNotice (tryAlign k s) = alignNotice s := funext fun j => by
        unfold alignNotice
        rw [hrun, htime]
      rw [hnotice, List.filter_congr fun j hj => aligns_other (l := k) (k := j) fun h => hk (h ▸ hj)]
    rw [forEach_cons, ih hl (by rw [hrun]; exact hb) (by omega), hrest, hlink]
    cases ha : aligns s k with
    | true => rw [List.filter_cons_of_pos ha, List.map_cons, List.foldl_cons, if_pos rfl]
    | false => rw [List.filter_cons_of_neg (by simp [ha]), if_neg Bool.false_ne_true]

theorem foldl_enqueue (k : Link) (l : List Record) : l.foldl Link.enqueue k =
    { k with own := k.own ++ l, highWater := (l.foldl Link.enqueue k).highWater } := by
  induction l generalizing k with
  | nil => rw [List.foldl_nil, List.append_nil]
  | cons r l ih =>
    rw [List.foldl_cons, ih]
    show ({ k with own := (k.own ++ [r]) ++ l, highWater := _ } : Link) = _
    rw [List.append_assoc]
    rfl

/-- A high-water that is the fill is the fill after any records have joined. -/
theorem foldl_enqueue_highWater {k : Link} (h : k.highWater = k.fill) (l : List Record) :
    (l.foldl Link.enqueue k).highWater = (l.foldl Link.enqueue k).fill := by
  induction l generalizing k with
  | nil => exact h
  | cons r l ih =>
    refine ih ?_
    rw [enqueue_fill]
    show max k.highWater (k.fill + r.units) = _
    rw [h]
    exact max_eq_right (Nat.le_add_right _ _)

/-! ## RESTART (R171) -/

theorem restart_aligns (s : State) (l : Fin 4) :
    aligns (restartPart s) l = (decide (s.lanes[l].role ≠ .off) && s.lanes[l].signal) := by
  have hlane : (restartPart s).lanes[l] = s.lanes[l].restart := mapTable_get Lane.restart s.lanes l
  have hstate : s.lanes[l].restart.state = if s.lanes[l].role = .off then .off else .down := rfl
  have hsignal : s.lanes[l].restart.signal = s.lanes[l].signal := rfl
  unfold aligns
  rw [hlane, hstate, hsignal]
  by_cases h : s.lanes[l].role = .off
  · rw [if_pos h, decide_eq_false (not_not.2 h)]
    rfl
  · rw [if_neg h, decide_eq_true h]
    rfl

theorem abandoned_read {u : Capture} {a : Nat} (h : ∀ (w : RingWrite) (n : Nat),
    u.access = some { op := .write w, started := n } → a ≠ w.channel.val * u.ringLines + w.index) :
    Memory.read u.abandoned a = Memory.read u.memory a := by
  unfold Capture.abandoned
  split
  · next w n ha => exact Memory.read_forget_other _ _ _ (h w n ha)
  · rfl

theorem restart_lane (x : Lane) :
    let y := if x.restart.state = .down ∧ x.restart.signal = true then
      { x.restart with state := .aligning, alignCount := 0, prevSeq := none } else x.restart
    y.role = x.role ∧ y.latency = x.latency ∧ y.signal = x.signal ∧ y.alignCount = 0 ∧ y.prevSeq = none ∧
    y.expSeq = none ∧ y.expTick = none ∧ y.failures = 0 ∧ y.checkTally = 0 ∧ y.skipTally = 0 ∧
    y.state = (if x.role = .off then .off else if x.signal then .aligning else .down) := by
  have hstate : x.restart.state = if x.role = .off then .off else .down := rfl
  have hsignal : x.restart.signal = x.signal := rfl
  intro y
  by_cases hrole : x.role = .off
  · have hy : y = x.restart := if_neg fun h => by simp [hstate, hrole] at h
    rw [hy, if_pos hrole]
    exact ⟨rfl, rfl, rfl, rfl, rfl, rfl, rfl, rfl, rfl, rfl, if_pos hrole⟩
  · cases hs : x.signal with
    | false =>
      have hy : y = x.restart := if_neg fun h => by simp [hsignal, hs] at h
      rw [hy, if_neg hrole]
      exact ⟨rfl, rfl, hs, rfl, rfl, rfl, rfl, rfl, rfl, rfl, if_neg hrole⟩
    | true =>
      have hy : y = { x.restart with state := .aligning, alignCount := 0, prevSeq := none } :=
        if_pos ⟨by rw [hstate, if_neg hrole], hs⟩
      rw [hy, if_neg hrole]
      exact ⟨rfl, rfl, hs, rfl, rfl, rfl, rfl, rfl, rfl, rfl, rfl⟩

/-- The notices of the lanes that a RESTART aligns. -/
def restartNotices (s : State) : List Record :=
  ((List.finRange 4).filter (fun l : Fin 4 => decide (s.lanes[l].role ≠ .off) && s.lanes[l].signal)).map (alignNotice s)

theorem restart_link (s : State) :
    (forEach allLanes tryAlign (restartPart s)).link = (restartNotices s).foldl Link.enqueue s.link.restart := by
  have hempty : (restartPart s).link.fill + 2 * (List.finRange 4).length ≤ 4096 := by
    rw [List.length_finRange]
    exact (by decide : 0 + 2 * 4 ≤ 4096)
  rw [allLanes, alignAll_link (List.nodup_finRange 4) (s := restartPart s) rfl hempty]
  have hfilter : List.filter (aligns (restartPart s)) (List.finRange 4) =
      (List.finRange 4).filter (fun l : Fin 4 => decide (s.lanes[l].role ≠ .off) && s.lanes[l].signal) :=
    List.filter_congr fun l _ => restart_aligns s l
  rw [hfilter]
  rfl

theorem restart_same {β : Type} {g : State → β} (hg : ∀ s x y, g ((s.setLanes x).setLink y) = g s) (s : State) :
    g (forEach allLanes tryAlign (restartPart s)) = g (restartPart s) :=
  forEach_same g allLanes tryAlign (tryAlign_same_blocks hg) (restartPart s)

theorem restart_nearSending {k : Link} {x : Sending NearSource} (h : k.nearSending = some x) :
    ∃ y, k.restart.nearSending = some y ∧ y.frame = x.frame ∧ y.source = x.source ∧
      (x.source = .own ∨ x.source = .answer → y.queued = false) := by
  have hsending : k.restart.nearSending = some
      (match x.source with
        | .own => { x with queued := false }
        | .answer => { x with queued := false }
        | .pass => x
        | .idle => x) := congrArg (Option.map _) h
  refine ⟨_, hsending, ?_⟩
  cases hx : x.source with
  | own => exact ⟨rfl, rfl, fun _ => rfl⟩
  | answer => exact ⟨rfl, rfl, fun _ => rfl⟩
  | pass => exact ⟨rfl, hx, nofun⟩
  | idle => exact ⟨rfl, hx, nofun⟩

/-- Settles O37: the blocks are read off the restart; the notices are those of the lanes that align again. -/
theorem restartReturnsToIdle : Obligations.RestartReturnsToIdle := by
  intro s e rest hs hk
  have hexec := exec_restart_eq hs hk
  have hlink := restart_link (s.headTaken rest)
  have hlanes := allAlign_lanes (restartPart (s.headTaken rest))
  have hsame {β : Type} (g : State → β) (hg : ∀ s x y, g ((s.setLanes x).setLink y) = g s) := restart_same hg (s.headTaken rest)
  generalize forEach allLanes tryAlign (restartPart (s.headTaken rest)) = t at hexec hlink hlanes hsame
  have hfields := foldl_enqueue (s.headTaken rest).link.restart (restartNotices (s.headTaken rest))
  rw [← hlink] at hfields
  refine ⟨t, hexec, hsame State.run fun _ _ _ => rfl, hsame State.timebase fun _ _ _ => rfl,
    hsame State.tracker fun _ _ _ => rfl, fun c => ?_, hsame State.grouping fun _ _ _ => rfl,
    hsame (fun t => t.pulse.test) fun _ _ _ => rfl, hsame (fun t => t.pulse.hold) fun _ _ _ => rfl, fun n => ?_,
    hsame (fun t => t.capture.access) fun _ _ _ => rfl, hsame (fun t => t.capture.queue) fun _ _ _ => rfl,
    hsame (fun t => t.capture.memoryLines) fun _ _ _ => rfl, hsame (fun t => t.capture.ringLines) fun _ _ _ => rfl,
    hsame (fun t => t.capture.dumpDepth) fun _ _ _ => rfl, fun a ha => ?_,
    hsame (fun t => t.capture.port) fun _ _ _ => rfl, hsame (fun t => t.capture.failures) fun _ _ _ => rfl,
    hsame (fun t => t.capture.dump) fun _ _ _ => rfl, fun i => ?_,
    hsame (fun t => t.cells.classes) fun _ _ _ => rfl, hsame (fun t => t.cells.boundary) fun _ _ _ => rfl,
    hsame (fun t => t.cells.slotLength) fun _ _ _ => rfl, fun n => ?_, fun l => ?_, ?_⟩
  · have hdet : t.detectors[c] = Detector.reset := by
      rw [hsame State.detectors fun _ _ _ => rfl]
      exact Vector.getElem_replicate _
    have hring : t.capture.rings[c] = Ring.reset s.capture.ringLines := by
      rw [hsame (fun t => t.capture.rings) fun _ _ _ => rfl]
      exact Vector.getElem_replicate _
    have hchannel : t.channels[c] = { s.channels[c] with pending := s.channels[c].active } := by
      rw [hsame State.channels fun _ _ _ => rfl]
      exact mapTable_get _ _ _
    exact ⟨congrArg Detector.state hdet, congrArg Detector.horizon hdet, hchannel, hring⟩
  · rw [hsame (fun t => t.pulse.results) fun _ _ _ => rfl]
    exact Vector.getElem_replicate _
  · rw [hsame (fun t => t.capture.memory) fun _ _ _ => rfl]
    exact abandoned_read (u := s.capture) ha
  · rw [hsame (fun t => t.capture.segments) fun _ _ _ => rfl]
    exact Vector.getElem_replicate _
  · rw [hsame (fun t => t.cells.cells) fun _ _ _ => rfl]
    exact mapTable_get _ _ _
  · have hlane : (restartPart (s.headTaken rest)).lanes[l] = s.lanes[l].restart := mapTable_get Lane.restart s.lanes l
    rw [hlanes, hlane]
    exact restart_lane s.lanes[l]
  · have hwater : t.link.highWater = t.link.fill := by
      rw [hlink]
      exact foldl_enqueue_highWater rfl _
    have hfield {β : Type} (f : Link → β) : f t.link = f _ := congrArg f hfields
    refine ⟨hfield Link.own, hfield Link.near, hfield Link.far, hfield Link.nearPause, hfield Link.farPause, hfield Link.answers,
      hfield Link.intake, hfield Link.pass, hfield Link.forward, hfield Link.marks, hfield Link.turn, hfield Link.counts, hwater,
      hfield Link.farSending, fun x hx => ?_, hfield Link.tallyExpiry, hfield Link.tallyInterval,
      hsame State.sensorMap fun _ _ _ => rfl, hsame State.phaseMap fun _ _ _ => rfl, hsame State.pairs fun _ _ _ => rfl,
      hsame State.power fun _ _ _ => rfl⟩
    rw [hfield Link.nearSending]
    exact restart_nearSending hx

end Sys2Proof.Machine
end

section
/-! A sample taken by a detector: a hit opened with its segment, its measures, and its close (R59, R61 to R70, R137). -/

namespace Sys2Proof.Machine

/-! ## Selecting leaves FILLING segments alone (R140) -/

theorem betterSealed_sound {s : State} {best : Option (Fin 64 × Segment)} {i : Fin 64}
    (hbest : ∀ p, best = some p → s.capture.segments[p.1] = some p.2 ∧ p.2.stage = .sealed) :
    ∀ p, betterSealed s best i = some p → s.capture.segments[p.1] = some p.2 ∧ p.2.stage = .sealed := by
  intro p hp
  unfold betterSealed at hp
  split at hp
  · exact hbest p hp
  · next g hg =>
    split at hp
    · next hs =>
      split at hp
      · obtain rfl := Option.some.inj hp
        exact ⟨hg, hs⟩
      · split at hp
        · obtain rfl := Option.some.inj hp
          exact ⟨hg, hs⟩
        · exact hbest p hp
    · exact hbest p hp

theorem selected_sealed {s : State} {l : List (Fin 64)} {best : Option (Fin 64 × Segment)}
    (hbest : ∀ p, best = some p → s.capture.segments[p.1] = some p.2 ∧ p.2.stage = .sealed) :
    ∀ p, l.foldl (betterSealed s) best = some p → s.capture.segments[p.1] = some p.2 ∧ p.2.stage = .sealed := by
  induction l generalizing best with
  | nil => exact hbest
  | cons i l ih => exact ih (betterSealed_sound hbest)

/-- The readout's selection leaves a segment as it is, or makes a SEALED one READING. -/
theorem selectReadout_segment (s : State) (i : Fin 64) :
    (selectReadout s).capture.segments[i] = s.capture.segments[i] ∨
      ∃ g, s.capture.segments[i] = some g ∧ g.stage = .sealed ∧
        (selectReadout s).capture.segments[i] = some { g with stage := .reading } := by
  unfold selectReadout
  split
  · exact .inl rfl
  · split
    · exact .inl rfl
    · next j g hj =>
      obtain ⟨hg, hs⟩ := selected_sealed (l := allSegments) (best := none) nofun (j, g) hj
      have hget := State.setSegment_get s j i (some { g with stage := .reading })
      by_cases hij : i = j
      · subst hij
        exact .inr ⟨g, hg, hs, hget.trans (if_pos rfl)⟩
      · exact .inl (hget.trans (if_neg hij))

theorem settleCapture_segment (s : State) (i : Fin 64) :
    (settleCapture s).capture.segments[i] = s.capture.segments[i] ∨
      ∃ g, s.capture.segments[i] = some g ∧ g.stage = .sealed ∧
        (settleCapture s).capture.segments[i] = some { g with stage := .reading } := by
  unfold settleCapture
  rw [beginWrite_segments]
  exact selectReadout_segment s i

/-! ## One sample taken from the feed (R59) -/

/-- The state in which the detector has taken a sample and has the samples `xs` left. -/
def State.taking (s : State) (c : Fin 32) (stamp : Tick) (xs : List FeedSample) : State :=
  s.setDetector c { s.detectors[c] with feed := some { stamp := stamp, samples := xs } }

/-- What follows a processed sample: the frame is dealt with when no sample of it is left. -/
def feedEnd (c : Fin 32) (left : Feed) (t : State) : State :=
  if left.samples = [] ∧ t.detectors[c].feed = some left then frameDealt c left.stamp t else t

section
variable {c : Fin 32} {stamp : Tick} {x : FeedSample} {xs : List FeedSample} {s : State}

theorem feedStep_eq (hf : s.detectors[c].feed = some { stamp := stamp, samples := x :: xs }) :
    feedStep c s = feedEnd c { stamp := stamp, samples := xs } (processSample c stamp x (s.taking c stamp xs)) := by
  simp only [feedStep, hf]
  rfl

theorem exec_sampleProcessed_eq (hr : s.running = true) (hf : s.detectors[c].feed = some { stamp := stamp, samples := x :: xs }) :
    exec (.sampleProcessed c) s = .next (settleCapture (feedEnd c { stamp := stamp, samples := xs }
      (processSample c stamp x (s.taking c stamp xs)))) := by
  have hfed : s.fed c = true := by
    unfold State.fed
    rw [hf]
    rfl
  rw [← feedStep_eq hf]
  exact congrArg Host.Outcome.next ((whileRunning_of_running hr _).trans (if_pos hfed))

theorem taking_detector : (s.taking c stamp xs).detectors[c] =
    { s.detectors[c] with feed := some { stamp := stamp, samples := xs } } :=
  (State.setDetector_get _ _ _ _).trans (if_pos rfl)

/-- A processed sample leaves the lanes and what the recorder has configured alone. -/
theorem sampleProcessed_settings (hf : s.detectors[c].feed = some { stamp := stamp, samples := x :: xs }) :
    let t := settleCapture (feedEnd c { stamp := stamp, samples := xs } (processSample c stamp x (s.taking c stamp xs)))
    t.lanes = s.lanes ∧ SameSettings s t := by
  intro t
  have hsteady := settleCapture_steady (feedStep c s)
  have ht : settleCapture (feedStep c s) = t := congrArg settleCapture (feedStep_eq hf)
  rw [ht] at hsteady
  refine ⟨hsteady.lanes.trans (feedStep_same blindLanes_hits c s), SameSettings.trans ?_ hsteady.toSameSettings⟩
  constructor <;> exact feedStep_same ⟨fun _ _ => rfl, fun _ _ => rfl, fun _ _ => rfl, fun _ _ => rfl, fun _ _ => rfl,
    fun _ _ => rfl, fun _ _ => rfl, fun _ _ => rfl, fun _ _ => rfl⟩ c s

/-- With samples left or no test in flight, the end of a frame leaves alone what the closing of groups and the detector's horizon
and feed do not change. -/
theorem feedEnd_same {β : Type} {g : State → β} (h : BlindGroup g)
    (hd : ∀ (s : State) (x : Detector), x.state = s.detectors[c].state → g (s.setDetector c x) = g s)
    {t : State} (ht : xs ≠ [] ∨ t.pulse.test = .none) : g (feedEnd c { stamp := stamp, samples := xs } t) = g t := by
  unfold feedEnd
  split
  · next hend =>
    have htest := ht.resolve_left (not_not.2 hend.1)
    unfold frameDealt
    rw [unitTests_untested (by exact htest), closeTest_same h]
    exact hd t _ rfl
  · rfl

end

/-! ## A hit opens (R61, R62, R137) -/

/-- What the capture unit answers a hit that opens now, with the state after it. -/
def openAnswer (c n : Fin 32) (x : FeedSample) (t : Tick) (s : State) : State × CaptureAnswer :=
  if s.channels[c].captureOn then captureAnswer c n x.tick t s else (s, .nothing)

theorem captureAnswer_capture (c n : Fin 32) (a t : Tick) (s : State) :
    (captureAnswer c n a t s).1 = s.setCapture (captureAnswer c n a t s).1.capture := by
  unfold captureAnswer
  repeat' split
  all_goals rfl

theorem openAnswer_capture (c n : Fin 32) (x : FeedSample) (t : Tick) (s : State) :
    (openAnswer c n x t s).1 = s.setCapture (openAnswer c n x t s).1.capture := by
  unfold openAnswer
  split
  · exact captureAnswer_capture c n x.tick t s
  · rfl

section
variable {c n : Fin 32} {t : Tick} {x : FeedSample} {s : State}

theorem quietSample_below (hn : s.sensorMap[c] = some n) (h : magnitude x.value < (s.activeBank c).threshold) :
    quietSample c t x s = s := by
  unfold quietSample
  rw [hn]
  exact if_neg (Nat.not_le.2 h)

theorem quietSample_opens (hn : s.sensorMap[c] = some n) (h : (s.activeBank c).threshold ≤ magnitude x.value) :
    quietSample c t x s = (s.setCapture (openAnswer c n x t s).1.capture).setDetector c
      { s.detectors[c] with state := .opened (openHit s c n x (openAnswer c n x t s).2) } := by
  unfold quietSample
  rw [hn]
  dsimp only
  rw [if_pos h, ← openAnswer_capture]
  have hdet : (openAnswer c n x t s).1.detectors = s.detectors := by
    rw [openAnswer_capture]
    rfl
  show (openAnswer c n x t s).1.setDetector c { (openAnswer c n x t s).1.detectors[c] with state := _ } = _
  rw [hdet]
  rfl

end

/-! ## The segment that a hit reserves or shares (R132, R137, R138) -/

theorem find?_finRange {m : Nat} {p : Fin m → Bool} {i : Fin m} (hi : p i = true) (hlt : ∀ j : Fin m, j < i → p j = false) :
    (List.finRange m).find? p = some i := by
  rw [List.find?_eq_some_iff_getElem]
  refine ⟨hi, i.val, by simp, by simp, fun j hj => ?_⟩
  have hjm : j < m := hj.trans i.isLt
  have hget : (List.finRange m)[j]'(by simpa using hjm) = ⟨j, hjm⟩ := by simp
  rw [hget, hlt ⟨j, hjm⟩ hj]
  rfl

/-- Where the line with tick T of a ring goes, and whether it is already there (R132). -/
theorem linePlace_eq (s : State) (c : Fin 32) (t : Tick) :
    let q := s.capture.rings[c]
    let r := s.capture.ringLines
    linePlace s c t =
      (if q.ringTick = some (t + 16) then (q.writePos + r - 1) % r
        else match q.ringTick with
          | none => q.writePos
          | some k =>
            if k ≠ t ∧ (t - k).toNat % 16 = 0 ∧ (t - k).toNat / 16 ≤ r - 1 then (q.writePos + (t - k).toNat / 16) % r
            else q.writePos,
       decide (q.ringTick = some (t + 16))) := by
  intro q r
  unfold linePlace
  dsimp only
  by_cases hp : q.ringTick = some (t + 16)
  · rw [if_pos hp, decide_eq_true hp]
    exact if_pos hp
  · rw [if_neg hp, decide_eq_false hp]
    refine (if_neg hp).trans ?_
    unfold Ring.step
    cases hk : q.ringTick with
    | none => rfl
    | some k =>
      dsimp only
      by_cases hkt : k = t
      · rw [if_pos hkt, if_neg fun h => h.1 hkt]
      · rw [if_neg hkt]
        by_cases hgap : ticksFrom k t % 16 = 0 ∧ ticksFrom k t / 16 ≤ s.capture.ringLines - 1
        · rw [if_pos hgap]
          exact congrArg (fun v => (v, false)) (if_pos ⟨hkt, hgap⟩).symm
        · rw [if_neg hgap]
          exact congrArg (fun v => (v, false)) (if_neg fun h => hgap h.2).symm

section
variable {c n : Fin 32} {a t : Tick} {s : State}

theorem captureAnswer_outside (h : s.run.state ≠ .run) : captureAnswer c n a t s = (s, .nothing) := if_pos h

theorem captureAnswer_failed (h : s.run.state = .run) (hp : s.capture.port ≠ .ready) : captureAnswer c n a t s = (s, .nocap) := by
  unfold captureAnswer
  rw [if_neg (not_not.2 h), if_pos hp]

theorem captureAnswer_shared {i : Fin 64} (h : s.run.state = .run) (hp : s.capture.port = .ready)
    (hi : fillingOf s c = some i) : captureAnswer c n a t s = (s, .shared i) := by
  unfold captureAnswer
  rw [if_neg (not_not.2 h), if_neg (not_not.2 hp), hi]

theorem captureAnswer_full (h : s.run.state = .run) (hp : s.capture.port = .ready) (hi : fillingOf s c = none)
    (hall : ∀ i : Fin 64, s.capture.segments[i] ≠ none) : captureAnswer c n a t s = (s, .nocap) := by
  have hfind : allSegments.find? (fun i => s.capture.segments[i].isNone) = none :=
    List.find?_eq_none.2 fun i _ hn => hall i (Option.isNone_iff_eq_none.1 hn)
  unfold captureAnswer
  rw [if_neg (not_not.2 h), if_neg (not_not.2 hp), hi]
  dsimp only
  rw [hfind]

theorem captureAnswer_reserved {i : Fin 64} (h : s.run.state = .run) (hp : s.capture.port = .ready)
    (hi : fillingOf s c = none) (hfree : s.capture.segments[i] = none)
    (hlow : ∀ j : Fin 64, j < i → s.capture.segments[j] ≠ none) :
    captureAnswer c n a t s = (reserveAt i (newSegment s c n a t) s, .segment i) := by
  have hfind : allSegments.find? (fun i => s.capture.segments[i].isNone) = some i :=
    find?_finRange (by rw [hfree]; rfl) fun j hj => Bool.eq_false_iff.2 fun hn => hlow j hj (Option.isNone_iff_eq_none.1 hn)
  unfold captureAnswer
  rw [if_neg (not_not.2 h), if_neg (not_not.2 hp), hi]
  dsimp only
  rw [hfind]

theorem reserveAt_segment (i : Fin 64) (g : Segment) (s : State) : (reserveAt i g s).capture.segments[i] =
    some { g with stage := if g.written = g.post + 1 then .sealed else g.stage } := by
  refine ((State.setSegment_get _ _ _ _).trans (if_pos rfl)).trans (congrArg some ?_)
  split <;> rfl

end

/-- A segment just reserved is FILLING after the command, unless its trigger line is its only line and is placed (R138). -/
theorem settleCapture_reserved {i : Fin 64} {g : Segment} {u : State} (hg : g.stage = .filling)
    (hu : u.capture.segments[i] = some { g with stage := if g.written = g.post + 1 then .sealed else g.stage }) :
    ∃ stage, (g.written = g.post + 1 ∨ stage = .filling) ∧
      (settleCapture u).capture.segments[i] = some { g with stage := stage } := by
  rcases settleCapture_segment u i with hkept | ⟨g', hg', hsealed, hreading⟩
  · refine ⟨_, ?_, hkept.trans hu⟩
    split
    · next hw => exact .inl hw
    · exact .inr hg
  · obtain rfl := Option.some.inj (hu.symm.trans hg')
    refine ⟨.reading, ?_, hreading⟩
    by_cases hw : g.written = g.post + 1
    · exact .inl hw
    · have hfilling : (if g.written = g.post + 1 then SegStage.sealed else g.stage) = .sealed := hsealed
      rw [if_neg hw, hg] at hfilling
      exact nomatch hfilling

/-! ## SAMPLE_PROCESSED in QUIET -/

section
variable {c : Fin 32} {stamp : Tick} {x : FeedSample} {xs : List FeedSample}

theorem settled_detector {u : State} (hu : xs ≠ [] ∨ u.pulse.test = .none) :
    ((settleCapture (feedEnd c { stamp := stamp, samples := xs } u)).detectors[c]).state = u.detectors[c].state := by
  rw [settleCapture_detectors]
  exact feedEnd_same (g := fun t => t.detectors[c].state) ⟨⟨⟨fun _ _ => rfl⟩, fun _ _ => rfl⟩, fun _ _ => rfl⟩
    (fun s y hy => (congrArg Detector.state ((State.setDetector_get s c c y).trans (if_pos rfl))).trans hy) hu

theorem settled_segments {u : State} (hu : xs ≠ [] ∨ u.pulse.test = .none) :
    (feedEnd c { stamp := stamp, samples := xs } u).capture.segments = u.capture.segments :=
  feedEnd_same (g := fun t => t.capture.segments) ⟨⟨⟨fun _ _ => rfl⟩, fun _ _ => rfl⟩, fun _ _ => rfl⟩ (fun _ _ _ => rfl) hu

end

/-- Settles O12: below the threshold nothing is changed; at it a hit opens, with the capture unit's answer. -/
theorem sampleOpensHit : Obligations.SampleOpensHit := by
  intro c n stamp x xs s hr hquiet hf hn hlast
  obtain ⟨hlanes, hsettings⟩ := sampleProcessed_settings hf
  have hprocess : processSample c stamp x (s.taking c stamp xs) = quietSample c stamp x (s.taking c stamp xs) := by
    have hstate : (s.taking c stamp xs).detectors[c].state = .quiet := (congrArg Detector.state taking_detector).trans hquiet
    simp only [processSample, hstate]
  rw [hprocess] at hlanes hsettings
  refine ⟨_, (exec_sampleProcessed_eq hr hf).trans (by rw [hprocess]), fun hbelow => ?below, fun habove => ?above, hlanes, hsettings⟩
  case below =>
    rw [quietSample_below (s := s.taking c stamp xs) hn hbelow, settled_detector (by exact hlast), taking_detector]
    exact hquiet
  case above =>
    have hopen := quietSample_opens (t := stamp) (s := s.taking c stamp xs) hn habove
    have htest : xs ≠ [] ∨ (quietSample c stamp x (s.taking c stamp xs)).pulse.test = .none := by
      rw [hopen]
      exact hlast
    have hsegments : (feedEnd c { stamp := stamp, samples := xs } (quietSample c stamp x (s.taking c stamp xs))).capture.segments =
        (openAnswer c n x stamp (s.taking c stamp xs)).1.capture.segments := by
      rw [settled_segments htest, hopen]
      rfl
    refine ⟨(openAnswer c n x stamp (s.taking c stamp xs)).2, ?opened, fun hoff => ?nothing, fun hon hrun hport => ?failed,
      fun hon hrun hport => ?ready⟩
    case opened =>
      rw [settled_detector htest, hopen]
      exact congrArg Detector.state ((State.setDetector_get _ _ _ _).trans (if_pos rfl))
    case nothing =>
      unfold openAnswer
      split
      · next hon =>
        have hoff' : (s.taking c stamp xs).run.state ≠ .run := hoff.resolve_left (Bool.not_eq_false _ ▸ hon)
        rw [captureAnswer_outside hoff']
      · rfl
    all_goals
      have hanswer : openAnswer c n x stamp (s.taking c stamp xs) = captureAnswer c n x.tick stamp (s.taking c stamp xs) :=
        if_pos hon
    case failed =>
      have hfail : (s.taking c stamp xs).capture.port ≠ .ready := by
        show s.capture.port ≠ .ready
        rw [hport]
        exact nofun
      rw [hanswer, captureAnswer_failed (s := s.taking c stamp xs) hrun hfail]
    case ready =>
      intro mine q r placed place
      refine ⟨fun i hi hone => ?shared, fun hno hall => ?full, fun hno i hfree hlow => ?reserved⟩
      case shared =>
        have hfilling := fillingOf_eq_some (s := s.taking c stamp xs) hi hone
        have hshared := hanswer.trans (captureAnswer_shared (s := s.taking c stamp xs) hrun hport hfilling)
        refine ⟨congrArg Prod.snd hshared, ?_⟩
        obtain ⟨g, hg, -, hstage⟩ := hi
        rcases settleCapture_segment (feedEnd c { stamp := stamp, samples := xs }
          (quietSample c stamp x (s.taking c stamp xs))) i with hkept | ⟨g', hg', hsealed, -⟩
        · rw [hkept, hsegments, hshared]
          rfl
        · rw [hsegments, hshared] at hg'
          obtain rfl := Option.some.inj (hg.symm.trans hg')
          exact nomatch hstage.symm.trans hsealed
      case full => exact congrArg Prod.snd (hanswer.trans (captureAnswer_full (s := s.taking c stamp xs) hrun hport (fillingOf_eq_none hno) hall))
      case reserved =>
        have hreserved := hanswer.trans (captureAnswer_reserved (s := s.taking c stamp xs) (a := x.tick) (n := n) (t := stamp) hrun hport
          (fillingOf_eq_none hno) hfree hlow)
        refine ⟨congrArg Prod.snd hreserved, ?_⟩
        have hsegment := ((congrArg (fun v : Vector (Option Segment) 64 => v[i]) hsegments).trans
          (congrArg (fun p : State × CaptureAnswer => p.1.capture.segments[i]) hreserved)).trans (reserveAt_segment _ _ _)
        obtain ⟨stage, hstage, hsettled⟩ := settleCapture_reserved rfl hsegment
        have hplace := linePlace_eq (s.taking c stamp xs) c stamp
        have htrigger : (newSegment (s.taking c stamp xs) c n x.tick stamp).trigger = place := congrArg Prod.fst hplace
        have hwritten : (newSegment (s.taking c stamp xs) c n x.tick stamp).written = if placed then 1 else 0 :=
          (congrArg (fun p : Nat × Bool => if p.2 then 1 else 0) hplace).trans (if_congr decide_eq_true_iff rfl rfl)
        refine ⟨stage, hstage.imp_left fun hfull => ?_, hsettled.trans (congrArg₂ (fun k w => some
          (Segment.mk stage c n x.tick k s.channels[c].preLines s.channels[c].postLines w 0 [] 0 false)) htrigger hwritten)⟩
        have hone : (if placed then 1 else 0) = s.channels[c].postLines + 1 := hwritten.symm.trans hfull
        by_cases hp : placed
        · rw [if_pos hp] at hone
          exact ⟨hp, (Nat.succ.inj hone).symm⟩
        · rw [if_neg hp] at hone
          exact nomatch hone

end Sys2Proof.Machine
end

section
/-! A sample taken with a hit open: its measures, and the hit's close at a sample (R63 to R70, R73, R74, R76). -/

namespace Sys2Proof.Machine

/-! ## The measures of a hit (R63 to R66) -/

theorem ticksFrom_self (t : Tick) : ticksFrom t t = 0 := by
  unfold ticksFrom
  rw [BitVec.sub_self]
  rfl

theorem OpenHit.measure_eq (h : OpenHit) (b : Bank) (x : FeedSample) :
    h.measure b x =
      { h with
        energy := min (2 ^ 32 - 1) (h.energy + x.value.toInt.natAbs * x.value.toInt.natAbs / 256)
        crossings := if b.threshold ≤ magnitude x.value ∧ h.prevAbove = false then min 65535 (h.crossings + 1) else h.crossings
        lastAbove := if b.threshold ≤ magnitude x.value then x.tick else h.lastAbove
        prevAbove := decide (b.threshold ≤ magnitude x.value)
        peak := if ticksFrom h.arrival x.tick < b.riseWindow ∧ h.peak < magnitude x.value then magnitude x.value else h.peak
        peakTick := if ticksFrom h.arrival x.tick < b.riseWindow ∧ h.peak < magnitude x.value then x.tick else h.peakTick
        sat := h.sat || x.saturated } := by
  simp only [OpenHit.measure, satAdd, sampleEnergy, Bool.and_eq_true, decide_eq_true_eq, Bool.not_eq_true']

theorem OpenHit.closedBy_eq_none {h : OpenHit} {b : Bank} {t : Tick} (hq : ticksFrom h.lastAbove t < b.quietSpan)
    (hl : ticksFrom h.arrival t + 1 < b.durationLimit) : h.closedBy b t = none :=
  (if_neg (Nat.not_le.2 hq)).trans (if_neg (Nat.not_le.2 hl))

section
variable {c : Fin 32} {h : OpenHit} {stamp : Tick} {x : FeedSample} {xs : List FeedSample} {s : State}

theorem processSample_opened (ho : s.detectors[c].state = .opened h) :
    processSample c stamp x (s.taking c stamp xs) = openSample c h x (s.taking c stamp xs) := by
  have hstate : (s.taking c stamp xs).detectors[c].state = .opened h := (congrArg Detector.state taking_detector).trans ho
  simp only [processSample, hstate]

/-- A sample that closes nothing leaves the hit open with its new measures. -/
theorem openSample_open {b : Bank} (hb : s.channels[c].banks[h.bank] = b) (hc : (h.measure b x).closedBy b x.tick = none) :
    openSample c h x s = s.setDetector c { s.detectors[c] with state := .opened (h.measure b x) } := by
  subst hb
  unfold openSample
  dsimp only
  rw [hc]

end

/-- Settles O13: neither close test holds, so that the detector keeps the hit with the measures of steps 1 to 4. -/
theorem sampleMeasured : Obligations.SampleMeasured := by
  intro c h stamp x xs s hr ho hf hlast hquiet hspan hlimit
  have hclose : (h.measure s.channels[c].banks[h.bank] x).closedBy s.channels[c].banks[h.bank] x.tick = none := by
    refine OpenHit.closedBy_eq_none ?_ (by rw [OpenHit.measure_eq]; exact hlimit)
    rw [OpenHit.measure_eq]
    dsimp only
    split
    · rw [ticksFrom_self]
      exact hspan
    · next hbelow => exact hquiet hbelow
  have hopen := (processSample_opened (stamp := stamp) (x := x) (xs := xs) ho).trans
    (openSample_open (s := s.taking c stamp xs) rfl hclose)
  obtain ⟨hlanes, hsettings⟩ := sampleProcessed_settings hf
  refine ⟨_, exec_sampleProcessed_eq hr hf, ?_, hlanes, hsettings⟩
  rw [hopen, settled_detector (by exact hlast)]
  exact (congrArg Detector.state ((State.setDetector_get _ _ _ _).trans (if_pos rfl))).trans
    (congrArg DetState.opened (OpenHit.measure_eq _ _ _))

/-! ## A presentation with no test in flight -/

theorem declareFirst_first {α : Type} {g : State → α} (h : BlindFirst g) (k : BurstCause) (s : State) :
    g (declareFirst k s) = g s := (h.run _ _).symm.trans (declaredFrom_same h k s)

theorem endTest_untested {pres : Presenter} {m : Tests} {k : EndCause} {s : State} (h : s.pulse.test = .none) :
    endTest pres m k s = s := by
  unfold endTest
  rw [h]
  rfl

theorem declareBurst_tailing {s : State} {e : EndCause} {k : BurstCause} (hr : s.run.state = .run) (ht : s.pulse.test = .none)
    (hspan : s.run.tailSpan ≠ 0) : declareBurst e k s = declaredFrom k s := by
  have htest : (declareFirst k s).pulse = s.pulse :=
    declareFirst_first ⟨fun _ _ => rfl, fun _ _ => rfl, fun _ _ => rfl, fun _ _ => rfl⟩ k s
  have hrun := declareFirst_run k s
  rw [declareBurst_run hr, endTest_untested (by rw [htest, ht]), startTail, if_neg (by rw [hrun]; exact hspan), hrun]
  unfold declaredFrom State.declaredRun
  rw [if_neg hspan, if_neg hspan]
  rfl

section
variable {α : Type} {g : State → α} {h : HitRecord} {s : State}

/-- Unless it brings the tail end at once, a presentation leaves alone what neither the grouping nor the first steps of a
declaration change. -/
theorem present_same_unended (hg : BlindGroup g) (hf : BlindFirst g) (ht : s.pulse.test = .none)
    (hend : h.sat = false ∨ s.tracker.armed = false ∨ s.run.tailSpan ≠ 0) : g (present h s) = g s := by
  have hplace : ∀ {β : Type} {f : State → β}, BlindGroup f → (∀ s x, f (s.setTracker x) = f s) → f (presentQuietly h s) = f s :=
    fun hb htr => (reportSaturation_same htr _ _).trans (placeHit_same hb _ _)
  unfold present presentWith
  dsimp only
  split
  · next hw =>
    obtain ⟨hsat, harmed, -⟩ := (watches_iff _ _).1 hw.1
    have hspan : s.run.tailSpan ≠ 0 := by simpa [hsat, harmed] using hend
    by_cases hr : (presentQuietly h s).run.state = .run
    · have hkept : (presentQuietly h s).run = s.run :=
        hplace (f := State.run) ⟨⟨⟨fun _ _ => rfl⟩, fun _ _ => rfl⟩, fun _ _ => rfl⟩ fun _ _ => rfl
      have htest : (presentQuietly h s).pulse = s.pulse :=
        hplace (f := State.pulse) ⟨⟨⟨fun _ _ => rfl⟩, fun _ _ => rfl⟩, fun _ _ => rfl⟩ fun _ _ => rfl
      rw [declareBurst_tailing hr (by rw [htest, ht]) (by rw [hkept]; exact hspan), declaredFrom_same hf]
      exact hplace hg hf.tracker
    · rw [declareBurst, if_neg hr]
      exact hplace hg hf.tracker
  · exact hplace hg hf.tracker

end

/-! ## The close of a hit at a sample (R67 to R69, R73, R74) -/

theorem CaptureAnswer.isNocap_eq (a : CaptureAnswer) : a.isNocap = decide (a = .nocap) := by cases a <;> rfl

theorem CaptureAnswer.isShared_eq (a : CaptureAnswer) : a.isShared = decide (∃ i, a = .shared i) := by
  cases a <;> simp [CaptureAnswer.isShared]

theorem OpenHit.closedBy_eq_some {h : OpenHit} {b : Bank} {t : Tick}
    (hc : b.quietSpan ≤ ticksFrom h.lastAbove t ∨ b.durationLimit ≤ ticksFrom h.arrival t + 1) :
    h.closedBy b t = some (if b.quietSpan ≤ ticksFrom h.lastAbove t then .quiet else .limit) := by
  unfold OpenHit.closedBy
  split
  · rfl
  · next hq => exact if_pos (hc.resolve_left hq)

section
variable {c : Fin 32} {h : OpenHit} {stamp : Tick} {x : FeedSample} {xs : List FeedSample} {s : State}

theorem openSample_closed {b : Bank} {k : CloseCause} (hb : s.channels[c].banks[h.bank] = b)
    (hc : (h.measure b x).closedBy b x.tick = some k) :
    openSample c h x s =
      unitTests (handOff present c (hitRecord s c (h.measure b x) k) (enterState c (afterSampleClose b x.tick) s)) := by
  subst hb
  unfold openSample
  dsimp only
  rw [hc]

theorem setChannel_self (c : Fin 32) (s : State) : s.setChannel c s.channels[c] = s := congrArg s.setChannels (put_self _ _)

/-- The detector's next state with the bank switch that it brings (R41, R69). -/
theorem enterState_sampled (c : Fin 32) (b : Bank) (t : Tick) (s : State) :
    enterState c (afterSampleClose b t) (s.taking c stamp xs) =
      (s.setDetector c { s.detectors[c] with
        state := if b.rearmSpan = 0 then .quiet else .rearm (t + BitVec.ofNat 48 b.rearmSpan)
        feed := some { stamp := stamp, samples := xs } }).setChannel c
      { s.channels[c] with active := if b.rearmSpan = 0 then s.channels[c].pending else s.channels[c].active } := by
  have hset : ∀ y, (s.taking c stamp xs).setDetector c { (s.taking c stamp xs).detectors[c] with state := y } =
      s.setDetector c { s.detectors[c] with state := y, feed := some { stamp := stamp, samples := xs } } := fun y => by
    rw [taking_detector]
    exact congrArg s.setDetectors (put_put _ _ _ _)
  unfold afterSampleClose
  by_cases hz : b.rearmSpan = 0
  · rw [if_pos hz, if_pos hz, if_pos hz, enterState_switches rfl, hset]
    rfl
  · rw [if_neg hz, if_neg hz, if_neg hz, enterState, hset, applyPending, State.setDetector_get, if_pos rfl]
    exact (setChannel_self c _).symm

/-- A hit that closes QUIET or LIMIT with no test in flight is presented, or discarded outside RUN and TAILING. -/
theorem handOff_sampled {r : HitRecord} {u : State} (hk : r.cause = .quiet ∨ r.cause = .limit) (ht : u.pulse.test = .none) :
    handOff present c r u = if u.run.state = .run ∨ u.run.state = .tailing then present r u else u := by
  have hseal : sealed c r u = u := if_neg (by rcases hk with hk | hk <;> rw [hk] <;> simp)
  rw [handOff_untested _ _ _ ht, hseal, releaseHit_eq]

end

/-! ## A sample in REARM (R70) -/

section
variable {c n : Fin 32} {e stamp : Tick} {x : FeedSample} {xs : List FeedSample} {s : State}

theorem processSample_rearm (hd : s.detectors[c].state = .rearm e) :
    processSample c stamp x (s.taking c stamp xs) =
      if atOrAfter x.tick e then quietSample c stamp x (enterState c .quiet (s.taking c stamp xs)) else s.taking c stamp xs := by
  have hstate : (s.taking c stamp xs).detectors[c].state = .rearm e := (congrArg Detector.state taking_detector).trans hd
  simp only [processSample, hstate]

theorem quietSample_channels (hn : s.sensorMap[c] = some n) : (quietSample c stamp x s).channels = s.channels := by
  rcases Nat.lt_or_ge (magnitude x.value) (s.activeBank c).threshold with hbelow | habove
  · rw [quietSample_below hn hbelow]
  · rw [quietSample_opens hn habove]
    rfl

theorem quietSample_test (hn : s.sensorMap[c] = some n) : (quietSample c stamp x s).pulse = s.pulse := by
  rcases Nat.lt_or_ge (magnitude x.value) (s.activeBank c).threshold with hbelow | habove
  · rw [quietSample_below hn hbelow]
  · rw [quietSample_opens hn habove]
    rfl

theorem settled_channels {u : State} (hu : xs ≠ [] ∨ u.pulse.test = .none) :
    (settleCapture (feedEnd c { stamp := stamp, samples := xs } u)).channels = u.channels :=
  (settleCapture_same (g := State.channels) ⟨⟨fun _ _ => rfl⟩, fun _ _ => rfl⟩ _).trans
    (feedEnd_same ⟨⟨⟨fun _ _ => rfl⟩, fun _ _ => rfl⟩, fun _ _ => rfl⟩ (fun _ _ _ => rfl) hu)

/-- A sample before the rearm end is passed. -/
theorem sampleRearms (hr : s.running = true) (hd : s.detectors[c].state = .rearm e)
    (hf : s.detectors[c].feed = some { stamp := stamp, samples := x :: xs }) (hlast : xs ≠ [] ∨ s.pulse.test = .none)
    (hbefore : atOrAfter x.tick e = false) :
    ∃ t, exec (.sampleProcessed c) s = .next t ∧ t.detectors[c].state = .rearm e ∧ t.channels = s.channels := by
  have hprocess := (processSample_rearm (stamp := stamp) (x := x) (xs := xs) hd).trans (if_neg (by simp [hbefore]))
  refine ⟨_, exec_sampleProcessed_eq hr hf, ?_, ?_⟩
  · rw [hprocess, settled_detector (by exact hlast), taking_detector]
    exact hd
  · rw [hprocess, settled_channels (by exact hlast)]
    rfl

/-- A sample at or after the rearm end is tested in QUIET under the pending bank. -/
theorem sampleReturns (hr : s.running = true) (hd : s.detectors[c].state = .rearm e)
    (hf : s.detectors[c].feed = some { stamp := stamp, samples := x :: xs }) (hn : s.sensorMap[c] = some n)
    (hlast : xs ≠ [] ∨ s.pulse.test = .none) (hafter : atOrAfter x.tick e = true) :
    let b := s.channels[c].banks[s.channels[c].pending]
    ∃ t, exec (.sampleProcessed c) s = .next t ∧
      t.channels[c] = { s.channels[c] with active := s.channels[c].pending } ∧
      (magnitude x.value < b.threshold → t.detectors[c].state = .quiet) ∧
      (b.threshold ≤ magnitude x.value → ∃ o, t.detectors[c].state = .opened o ∧ o.arrival = x.tick ∧
        o.peak = magnitude x.value ∧ o.bank = s.channels[c].pending ∧ o.sensor = n) := by
  intro b
  have hprocess := (processSample_rearm (stamp := stamp) (x := x) (xs := xs) hd).trans (if_pos hafter)
  have henter := enterState_switches (c := c) (x := .quiet) rfl (s.taking c stamp xs)
  generalize hu : enterState c .quiet (s.taking c stamp xs) = u at hprocess henter
  have hchannel : u.channels[c] = { s.channels[c] with active := s.channels[c].pending } := by
    rw [henter]
    exact (State.setChannel_get _ _ _ _).trans (if_pos rfl)
  have hbank : u.activeBank c = b := congrArg (fun k : Channel => k.banks[k.active]) hchannel
  have hmap : u.sensorMap[c] = some n := by
    rw [henter]
    exact hn
  have hstate : u.detectors[c].state = .quiet := by
    rw [henter]
    exact congrArg Detector.state ((State.setDetector_get _ _ _ _).trans (if_pos rfl))
  have htest : xs ≠ [] ∨ (quietSample c stamp x u).pulse.test = .none := by
    rw [quietSample_test hmap, henter]
    exact hlast
  refine ⟨_, exec_sampleProcessed_eq hr hf, ?_, fun hbelow => ?_, fun habove => ?_⟩
  · rw [hprocess, settled_channels htest, quietSample_channels hmap]
    exact hchannel
  · rw [hprocess, settled_detector htest, quietSample_below hmap (by rw [hbank]; exact hbelow)]
    exact hstate
  · refine ⟨openHit u c n x (openAnswer c n x stamp u).2, ?_, rfl, rfl, congrArg Channel.active hchannel, rfl⟩
    rw [hprocess, settled_detector htest, quietSample_opens hmap (by rw [hbank]; exact habove)]
    exact congrArg Detector.state ((State.setDetector_get _ _ _ _).trans (if_pos rfl))

end

/-- Settles O14: a sample at which a hit closes, and a sample in REARM. -/
theorem sampleClosesHit : Obligations.SampleClosesHit := by
  refine ⟨?closed, fun c n e stamp x xs s hr hd hf hn hlast => ⟨sampleRearms hr hd hf hlast, sampleReturns hr hd hf hn hlast⟩⟩
  intro c h stamp x xs s hr ho hf b m byQuiet hclose left r next u v
  have hsample := (processSample_opened (stamp := stamp) (x := x) (xs := xs) ho).trans
    (openSample_closed (s := s.taking c stamp xs) rfl (OpenHit.closedBy_eq_some hclose))
  have hrecord : hitRecord (s.taking c stamp xs) c m (if byQuiet then .quiet else .limit) = r := by
    have hduration : m.duration b (if byQuiet then .quiet else .limit) =
        if byQuiet then ticksFrom h.arrival m.lastAbove + 1 else b.durationLimit := by
      split <;> rfl
    have hsegment : h.capture.segment? = r.segment := by
      cases hcap : h.capture <;> simp [CaptureAnswer.segment?, r, hcap]
    calc hitRecord (s.taking c stamp xs) c m (if byQuiet then .quiet else .limit)
      _ = { r with
            duration := m.duration b (if byQuiet then .quiet else .limit), nocap := h.capture.isNocap
            shared := h.capture.isShared, segment := h.capture.segment? } := rfl
      _ = r := by
        rw [hduration, CaptureAnswer.isNocap_eq, CaptureAnswer.isShared_eq, hsegment]
  have hstep : processSample c stamp x (s.taking c stamp xs) = v := by
    refine hsample.trans (congrArg unitTests ?_)
    exact (congrArg (fun k => handOff present c k _) hrecord).trans
      (congrArg (handOff present c r) (enterState_sampled c b x.tick s))
  have hstate : u.detectors[c].state = next := congrArg Detector.state ((State.setDetector_get _ _ _ _).trans (if_pos rfl))
  have hcause : r.cause = .quiet ∨ r.cause = .limit := by
    show (if byQuiet then CloseCause.quiet else .limit) = .quiet ∨ (if byQuiet then CloseCause.quiet else .limit) = .limit
    split
    · exact .inl rfl
    · exact .inr rfl
  refine ⟨_, (exec_sampleProcessed_eq hr hf).trans (congrArg (fun w => Host.Outcome.next (settleCapture (feedEnd c left w))) hstep), rfl, fun ht => ?_⟩
  have hhand := handOff_sampled (c := c) hcause (u := u) ht
  refine ⟨hhand, fun hend => ?_⟩
  have hkept : ∀ {β : Type} {g : State → β}, BlindGroup g → BlindFirst g → g (handOff present c r u) = g u := by
    intro β g hg hf
    rw [hhand]
    split
    · exact present_same_unended hg hf ht hend
    · rfl
  have htest : (handOff present c r u).pulse.test = .none :=
    (hkept (g := fun t => t.pulse.test) ⟨⟨⟨fun _ _ => rfl⟩, fun _ _ => rfl⟩, fun _ _ => rfl⟩
      ⟨fun _ _ => rfl, fun _ _ => rfl, fun _ _ => rfl, fun _ _ => rfl⟩).trans ht
  have hdetectors : v.detectors = u.detectors := by
    refine (congrArg State.detectors (unitTests_untested htest)).trans ?_
    refine (closeTest_same (g := State.detectors) ⟨⟨⟨fun _ _ => rfl⟩, fun _ _ => rfl⟩, fun _ _ => rfl⟩ _).trans ?_
    exact hkept ⟨⟨⟨fun _ _ => rfl⟩, fun _ _ => rfl⟩, fun _ _ => rfl⟩
      ⟨fun _ _ => rfl, fun _ _ => rfl, fun _ _ => rfl, fun _ _ => rfl⟩
  have hquiet : v.pulse.test = .none := by
    refine (congrArg (fun t => t.pulse.test) (unitTests_untested htest)).trans ?_
    exact (closeTest_same (g := fun t => t.pulse.test) ⟨⟨⟨fun _ _ => rfl⟩, fun _ _ => rfl⟩, fun _ _ => rfl⟩ _).trans htest
  refine (settled_detector (.inr hquiet)).trans ?_
  rw [hdetectors]
  exact hstate

end Sys2Proof.Machine
end

section
/-! What the capture unit does whenever it can: the readout's selection and the next ring write (R134, R140). -/

namespace Sys2Proof.Machine

/-! ## Ticks within a window -/

theorem earlier_asymm_window {a b k : Tick} (ha : (a - k).toNat < 2 ^ 47) (hb : (b - k).toNat < 2 ^ 47)
    (h : earlier a b = true) : earlier b a = false := by
  unfold earlier atOrAfter at h ⊢
  simp only [Bool.not_eq_true', decide_eq_false_iff_not, Bool.not_eq_false', decide_eq_true_eq] at h ⊢
  bv_omega

/-! ## The earliest SEALED segment (R140) -/

section
variable {s : State} {i : Fin 64} {g : Segment}

theorem readingSegment_none (h : ∀ (j : Fin 64) (k : Segment), ¬ (s.capture.segments[j] = some k ∧ k.stage = SegStage.reading)) :
    readingSegment s = none := by
  cases hr : readingSegment s with
  | none => rfl
  | some p =>
    obtain ⟨j, -, hj⟩ := List.exists_of_findSome?_eq_some hr
    obtain ⟨k, hk, hp⟩ := Option.bind_eq_some_iff.1 hj
    by_cases hstage : k.stage = .reading
    · exact absurd ⟨hk, hstage⟩ (h j k)
    · exact nomatch (if_neg hstage).symm.trans hp

theorem readingSegment_some {p : Fin 64 × Segment} (h : readingSegment s = some p) :
    s.capture.segments[p.1] = some p.2 ∧ p.2.stage = .reading := by
  obtain ⟨j, -, hj⟩ := List.exists_of_findSome?_eq_some h
  obtain ⟨k, hk, hp⟩ := Option.bind_eq_some_iff.1 hj
  by_cases hstage : k.stage = .reading
  · obtain rfl := Option.some.inj ((if_pos hstage).symm.trans hp)
    exact ⟨hk, hstage⟩
  · exact nomatch (if_neg hstage).symm.trans hp

theorem readingSegment_isSome (hg : s.capture.segments[i] = some g) (hr : g.stage = .reading) :
    ∃ p, readingSegment s = some p := by
  cases h : readingSegment s with
  | some p => exact ⟨p, rfl⟩
  | none =>
    have hi := List.findSome?_eq_none_iff.1 h i (List.mem_finRange i)
    rw [hg, Option.bind_some, if_pos hr] at hi
    exact nomatch hi

theorem betterSealed_unsealed (best : Option (Fin 64 × Segment)) (h : ∀ k, ¬ (s.capture.segments[i] = some k ∧ k.stage = .sealed)) :
    betterSealed s best i = best := by
  unfold betterSealed
  split
  · rfl
  · next k hk => exact if_neg fun hs => h k ⟨hk, hs⟩

theorem betterSealed_sealed (hg : s.capture.segments[i] = some g) (hs : g.stage = .sealed) (best : Option (Fin 64 × Segment)) :
    betterSealed s best i =
      match best with
      | none => some (i, g)
      | some (j, b) => if earlier g.arrival b.arrival then some (i, g) else some (j, b) := by
  unfold betterSealed
  rw [hg]
  exact if_pos hs

theorem no_sealed_selected (h : ∀ (j : Fin 64) (k : Segment), ¬ (s.capture.segments[j] = some k ∧ k.stage = SegStage.sealed)) (l : List (Fin 64)) :
    l.foldl (betterSealed s) none = none := by
  induction l with
  | nil => rfl
  | cons j l ih => exact (congrArg (fun b => l.foldl (betterSealed s) b) (betterSealed_unsealed none (h j))).trans ih

/-- What the selection keeps of a list is one of its members. -/
theorem selected_mem {l : List (Fin 64)} {best : Option (Fin 64 × Segment)} {p : Fin 64 × Segment}
    (h : l.foldl (betterSealed s) best = some p) : best = some p ∨ p.1 ∈ l := by
  induction l generalizing best with
  | nil => exact .inl h
  | cons j l ih =>
    rcases ih h with hbest | hmem
    · unfold betterSealed at hbest
      split at hbest
      · exact .inl hbest
      · split at hbest
        · split at hbest
          · exact .inr (by rw [← Option.some.inj hbest]; exact List.mem_cons_self)
          · split at hbest
            · exact .inr (by rw [← Option.some.inj hbest]; exact List.mem_cons_self)
            · exact .inl hbest
        · exact .inl hbest
    · exact .inr (List.mem_cons_of_mem _ hmem)

/-- A selected segment that no later one of the list precedes stays selected. -/
theorem selected_stays {l : List (Fin 64)} (h : ∀ j ∈ l, ∀ k, s.capture.segments[j] = some k ∧ k.stage = .sealed →
    earlier k.arrival g.arrival = false) : l.foldl (betterSealed s) (some (i, g)) = some (i, g) := by
  induction l with
  | nil => rfl
  | cons j l ih =>
    have hj : betterSealed s (some (i, g)) j = some (i, g) := by
      by_cases hs : ∃ k, s.capture.segments[j] = some k ∧ k.stage = .sealed
      · obtain ⟨k, hk, hstage⟩ := hs
        rw [betterSealed_sealed hk hstage]
        exact if_neg (Bool.eq_false_iff.1 (h j List.mem_cons_self k ⟨hk, hstage⟩))
      · exact betterSealed_unsealed _ (not_exists.1 hs)
    exact (congrArg (fun b => l.foldl (betterSealed s) b) hj).trans (ih fun x hx => h x (List.mem_cons_of_mem _ hx))

/-- The selection finds the SEALED segment with the earliest arrival, and of equal arrivals the lowest-numbered. -/
theorem selected_earliest {k : Tick} (hg : s.capture.segments[i] = some g ∧ g.stage = .sealed)
    (hwindow : ∀ (j : Fin 64) (h : Segment), s.capture.segments[j] = some h ∧ h.stage = SegStage.sealed → (h.arrival - k).toNat < 2 ^ 47)
    (hbest : ∀ (j : Fin 64) (h : Segment), s.capture.segments[j] = some h ∧ h.stage = SegStage.sealed → j ≠ i →
      earlier g.arrival h.arrival = true ∨ (g.arrival = h.arrival ∧ i < j)) :
    allSegments.foldl (betterSealed s) none = some (i, g) := by
  obtain ⟨l₁, l₂, hsplit⟩ := List.append_of_mem (List.mem_finRange i)
  have hsorted : (l₁ ++ i :: l₂).Pairwise (· < ·) := hsplit ▸ List.pairwise_lt_finRange 64
  obtain ⟨-, hright, hacross⟩ := List.pairwise_append.1 hsorted
  have hbefore : betterSealed s (l₁.foldl (betterSealed s) none) i = some (i, g) := by
    rw [betterSealed_sealed hg.1 hg.2]
    cases hleft : l₁.foldl (betterSealed s) none with
    | none => rfl
    | some p =>
      obtain ⟨j, b⟩ := p
      have hsealed := selected_sealed (l := l₁) (best := none) nofun (j, b) hleft
      have hlt : j < i := hacross j ((selected_mem hleft).resolve_left nofun) i List.mem_cons_self
      exact if_pos ((hbest j b hsealed hlt.ne).resolve_right fun h => absurd h.2 (not_lt.2 hlt.le))
  have hstay : l₂.foldl (betterSealed s) (some (i, g)) = some (i, g) := by
    refine selected_stays fun j hj h hsealed => ?_
    rcases hbest j h hsealed ((List.pairwise_cons.1 hright).1 j hj).ne' with hearlier | ⟨heq, -⟩
    · exact earlier_asymm_window (hwindow i g hg) (hwindow j h hsealed) hearlier
    · rw [heq]
      exact earlier_self _
  show (List.finRange 64).foldl (betterSealed s) none = _
  rw [hsplit, List.foldl_append, List.foldl_cons, hbefore, hstay]

/-- With a segment READING or none SEALED, nothing is selected. -/
theorem selectReadout_idle
    (h : (∃ (i : Fin 64) (g : Segment), s.capture.segments[i] = some g ∧ g.stage = SegStage.reading) ∨
      ∀ (i : Fin 64) (g : Segment), ¬ (s.capture.segments[i] = some g ∧ g.stage = SegStage.sealed)) : selectReadout s = s := by
  unfold selectReadout
  rcases h with ⟨i, g, hg, hr⟩ | hnone
  · obtain ⟨p, hp⟩ := readingSegment_isSome hg hr
    rw [hp]
  · split
    · rfl
    · rw [show allSegments.foldl (betterSealed s) none = none from no_sealed_selected hnone _]

theorem selectReadout_selects (hr : ∀ (j : Fin 64) (k : Segment), ¬ (s.capture.segments[j] = some k ∧ k.stage = SegStage.reading))
    (h : allSegments.foldl (betterSealed s) none = some (i, g)) :
    selectReadout s = s.setSegment i (some { g with stage := .reading }) := by
  unfold selectReadout
  rw [readingSegment_none hr, h]

end

/-! ## The next ring write (R134) -/

theorem beginWrite_begins {s : State} {w : RingWrite} {ws : List RingWrite} (ha : s.capture.access = none)
    (hp : s.capture.port = .ready) (hq : s.capture.queue = w :: ws) : beginWrite s = s.setCapture
      { s.capture with access := some { op := .write w, started := s.timebase.uptime }, queue := ws } := by
  unfold beginWrite
  rw [ha, hp, hq]

theorem beginWrite_waits {s : State} (h : s.capture.access ≠ none ∨ s.capture.port = .failed ∨ s.capture.queue = []) :
    beginWrite s = s := by
  unfold beginWrite
  split
  · next w ws ha hp hq => simp [ha, hp, hq] at h
  · rfl

/-- Settles O53. -/
theorem readoutSelectsEarliest : Obligations.ReadoutSelectsEarliest := by
  refine ⟨fun s => ⟨selectReadout_idle, fun i g k hr hg hwindow hbest => ?selects, fun i g hg hall => ?reading⟩,
    fun s => ⟨rfl, fun w ws => beginWrite_begins, beginWrite_waits⟩⟩
  case selects => exact selectReadout_selects hr (selected_earliest hg hwindow hbest)
  case reading =>
    obtain ⟨p, hp⟩ := readingSegment_isSome hg.1 hg.2
    obtain ⟨hseg, hstage⟩ := readingSegment_some hp
    obtain rfl := hall p.1 p.2 ⟨hseg, hstage⟩
    obtain rfl := Option.some.inj (hg.1.symm.trans hseg)
    exact hp

end Sys2Proof.Machine
end

section
/-! A readout or dump read completes (R133, R140, R141, R144, R145). -/

namespace Sys2Proof.Machine

/-! ## The capture unit alone -/

theorem settings_of_blindCapture {s t : State} (h : ∀ {β : Type} (g : State → β), BlindCapture g → g t = g s) :
    t.lanes = s.lanes ∧ SameMeasuring s t ∧ SameSettings s t := by
  refine ⟨h _ ⟨⟨fun _ _ => rfl⟩, fun _ _ => rfl⟩, ?_, ?_⟩ <;> constructor <;> exact h _ ⟨⟨fun _ _ => rfl⟩, fun _ _ => rfl⟩

theorem offer_capture (r : Record) (b : Bool) (s : State) : (offer r b s).capture = s.capture :=
  offer_same (g := State.capture) ⟨fun _ _ => rfl⟩ r b s

theorem endSegment_capture (i : Fin 64) (g : Segment) (l d : Bool) (s : State) : (endSegment i g l d s).capture =
    { s.capture with segments := put s.capture.segments i none, access := s.capture.access.map (Access.dropSegment i) } := by
  have hoffer := offer_capture (.trace (closingTrace s.run.address i g l d)) false s
  unfold endSegment
  generalize offer (.trace (closingTrace s.run.address i g l d)) false s = u at hoffer ⊢
  rw [← hoffer]
  rfl

/-! ## A trace record for a line of a segment (R140, R141) -/

/-- The segment once a trace record of it has been made. -/
def Segment.reported (g : Segment) (bad : Bool) : Segment :=
  { g with lostReported := g.lost.length, damaged := g.damaged || bad }

/-- The trace record of a line of a segment. -/
def lineTrace (part : Nat) (i : Fin 64) (g : Segment) (o : Int) (samples : Option Line) (gap bad : Bool) : TraceRecord :=
  { part := part, segment := some i, sensor := g.sensor, tick := g.arrival, offset := some o, cut := g.lost.length - g.lostReported,
    samples := samples, gap := gap, damaged := bad, lost := false, isEnd := false, dump := false }

section
variable {i : Fin 64} {g : Segment} {o : Int} {samples : Option Line} {gap bad : Bool} {s : State}

theorem Segment.lastLost_eq (g : Segment) : g.lastLost = g.order.getLast?.any (fun y => decide (y ∈ g.lost)) := by
  unfold Segment.lastLost
  cases g.order.getLast? with
  | none => rfl
  | some o => exact List.elem_eq_mem o g.lost

theorem offerLine_eq (hb : s.run.bypass = false) : offerLine i g o samples gap bad s =
    offer (.trace (lineTrace s.run.address i g o samples gap bad)) false (s.setSegment i (some (g.reported bad))) := by
  unfold offerLine
  simp only [hb]
  rfl

theorem offerLine_capture (hb : s.run.bypass = false) : (offerLine i g o samples gap bad s).capture =
    { s.capture with segments := put s.capture.segments i (some (g.reported bad)) } := by
  rw [offerLine_eq hb, offer_capture]
  rfl

theorem offerLine_own (hb : s.run.bypass = false) (hfill : s.link.fill + 3 ≤ 3584) :
    (offerLine i g o samples gap bad s).link.own = s.link.own ++ [.trace (lineTrace s.run.address i g o samples gap bad)] ∧
      (offerLine i g o samples gap bad s).link.fill = s.link.fill + 3 := by
  rw [offerLine_eq hb]
  exact offer_trace_link (s := s.setSegment i (some (g.reported bad))) hb hfill

theorem endIfRead_ends (hg : s.capture.segments[i] = some g) (h : g.stage = .reading ∧ g.unread = []) :
    endIfRead i s = endSegment i g g.lastLost g.damaged s := by
  unfold endIfRead
  rw [hg]
  exact if_pos h

theorem endIfRead_stays (hg : s.capture.segments[i] = some g) (h : ¬ (g.stage = .reading ∧ g.unread = [])) :
    endIfRead i s = s := by
  unfold endIfRead
  rw [hg]
  exact if_neg h

end

theorem closingTrace_reported (part : Nat) (i : Fin 64) (g : Segment) (bad l d : Bool) :
    closingTrace part i (g.reported bad) l d =
      { part := part, segment := some i, sensor := g.sensor, tick := g.arrival, offset := none, cut := 0, samples := none,
        gap := false, damaged := d, lost := l, isEnd := true, dump := false } := by
  unfold closingTrace
  rw [show (g.reported bad).cut = 0 from Nat.sub_self g.lost.length]
  rfl

/-- A trace record for a line is made, and the segment's closing record when no line is left to read. -/
theorem offerLine_end {i : Fin 64} {g : Segment} {o : Int} {samples : Option Line} {gap bad : Bool} {s : State}
    (hb : s.run.bypass = false) (hfill : s.link.fill + 6 ≤ 3584) :
    let ends := g.stage = .reading ∧ g.unread = []
    let t := endIfRead i (offerLine i g o samples gap bad s)
    t.link.own = s.link.own ++ .trace (lineTrace s.run.address i g o samples gap bad) ::
        (if ends then [.trace (closingTrace s.run.address i (g.reported bad) g.lastLost (g.damaged || bad))] else []) ∧
      t.capture = { s.capture with
        segments := put s.capture.segments i (if ends then none else some (g.reported bad))
        access := if ends then s.capture.access.map (Access.dropSegment i) else s.capture.access } := by
  intro ends t
  have hcapture := offerLine_capture (i := i) (g := g) (o := o) (samples := samples) (gap := gap) (bad := bad) hb
  obtain ⟨hown, hfilled⟩ := offerLine_own (i := i) (g := g) (o := o) (samples := samples) (gap := gap) (bad := bad) hb
    (Nat.le_trans (by omega) hfill)
  have hrun : (offerLine i g o samples gap bad s).run = s.run := offerLine_same ⟨⟨fun _ _ => rfl⟩, fun _ _ => rfl⟩ _ _ _ _ _ _ _
  have hseg : (offerLine i g o samples gap bad s).capture.segments[i] = some (g.reported bad) := by
    rw [hcapture]
    exact put_get_self _ _ _
  by_cases he : ends
  · have ht : t = endSegment i (g.reported bad) g.lastLost (g.damaged || bad) (offerLine i g o samples gap bad s) :=
      endIfRead_ends hseg he
    rw [ht, if_pos he, if_pos he, if_pos he]
    constructor
    · rw [endSegment_link, (offer_trace_link (by rw [hrun]; exact hb) (by omega)).1, hown, hrun, List.append_assoc]
      rfl
    · rw [endSegment_capture, hcapture]
      exact congrArg (fun v => { s.capture with segments := v, access := s.capture.access.map (Access.dropSegment i) })
        (put_put _ _ _ _)
  · have ht : t = offerLine i g o samples gap bad s := endIfRead_stays hseg he
    rw [ht, if_neg he, if_neg he, if_neg he]
    exact ⟨hown, hcapture⟩

/-! ## A dump trace record (R144, R145) -/

/-- The DUMP notice that a dump ends with. -/
def dumpNotice (s : State) (d : Dump) (stopped : Bool) : Record :=
  .notice { part := s.run.address, tick := s.timebase.counter, body := .dump d.sent d.damaged stopped }

theorem Dump.advance_eq {d : Dump} {c : Fin 32} {cs : List (Fin 32)} (hc : d.channels = c :: cs) (depth : Nat) (bad : Bool) :
    d.advance depth bad =
      { channels := if d.line + 1 < depth then c :: cs else cs
        line := if d.line + 1 < depth then d.line + 1 else 0
        sent := d.sent + 1, damaged := d.damaged + if bad then 1 else 0 } := by
  unfold Dump.advance
  dsimp only
  rw [hc]
  split <;> cases bad <;> rfl

section
variable {c : Fin 32} {d : Dump} {samples : Option Line} {gap bad : Bool} {s : State}

theorem endDump_eq (hd : s.capture.dump = some d) (stopped : Bool) :
    endDump stopped s = notify (.dump d.sent d.damaged stopped) (s.setCapture { s.capture with dump := none }) := by
  unfold endDump
  rw [hd]

theorem endDump_own (hd : s.capture.dump = some d) (hb : s.run.bypass = false) (hfill : s.link.fill + 2 ≤ 4096) (stopped : Bool) :
    (endDump stopped s).link.own = s.link.own ++ [dumpNotice s d stopped] := by
  rw [endDump_eq hd]
  exact notify_own (s := s.setCapture { s.capture with dump := none }) hb hfill

theorem endDump_capture (hd : s.capture.dump = some d) (stopped : Bool) :
    (endDump stopped s).capture = { s.capture with dump := none } := by
  rw [endDump_eq hd]
  exact notify_capture _ _

theorem offerDumpLine_capture : (offerDumpLine d c samples gap bad s).capture =
    { s.capture with dump := some (d.advance s.capture.dumpDepth bad) } := by
  unfold offerDumpLine
  dsimp only
  rw [offer_capture]
  rfl

/-- A dump trace record is made, and the DUMP notice when it was the last. -/
theorem offerDumpLine_end (hb : s.run.bypass = false) (hfill : s.link.fill + 5 ≤ 3584) :
    let next := d.advance s.capture.dumpDepth bad
    let t := endDumpIfDone (offerDumpLine d c samples gap bad s)
    t.link.own = s.link.own ++ .trace (dumpTrace s c d.line samples gap bad) ::
        (if next.channels = [] then [dumpNotice s next false] else []) ∧
      t.capture = { s.capture with dump := if next.channels = [] then none else some next } := by
  intro next t
  have hlink : (offerDumpLine d c samples gap bad s).link =
      (offer (.trace (dumpTrace s c d.line samples gap bad)) false s).link := rfl
  have hcapture : (offerDumpLine d c samples gap bad s).capture = { s.capture with dump := some next } := offerDumpLine_capture
  have hkept : ∀ {β : Type} (g : State → β), BlindCapture g → g (offerDumpLine d c samples gap bad s) = g s :=
    fun g hg => offerDumpLine_same hg _ _ _ _ _ _
  have hrun := hkept State.run ⟨⟨fun _ _ => rfl⟩, fun _ _ => rfl⟩
  have htime := hkept State.timebase ⟨⟨fun _ _ => rfl⟩, fun _ _ => rfl⟩
  obtain ⟨hown, hfilled⟩ := offer_trace_link (r := dumpTrace s c d.line samples gap bad) hb (Nat.le_trans (by omega) hfill)
  rw [← hlink] at hown hfilled
  have hdump : (offerDumpLine d c samples gap bad s).capture.dump = some next := by rw [hcapture]
  have ht : t = if next.channels = [] then endDump false (offerDumpLine d c samples gap bad s)
      else offerDumpLine d c samples gap bad s := by
    show endDumpIfDone _ = _
    unfold endDumpIfDone
    rw [hdump]
  by_cases he : next.channels = []
  · rw [ht, if_pos he, if_pos he, if_pos he]
    constructor
    · rw [endDump_own hdump (by rw [hrun]; exact hb) (by omega), hown, List.append_assoc, dumpNotice, hrun, htime]
      rfl
    · rw [endDump_capture hdump, hcapture]
  · rw [ht, if_neg he, if_neg he, if_neg he]
    exact ⟨hown, hcapture⟩

end

/-! ## The end of an access (R133) -/

theorem outcomeOf_good (a : Answered) : (outcomeOf a).good = !decide (a = .fault) := by cases a <;> rfl

section
variable {o : AccessOutcome} {s : State}

theorem countOutcome_capture (o : AccessOutcome) (s : State) : (countOutcome o s).capture =
    { s.capture with access := none, failures := if o.good then 0 else s.capture.failures + 1 } := by
  unfold countOutcome
  cases o <;> rfl

theorem countOutcome_own (o : AccessOutcome) (s : State) : (countOutcome o s).link.own = s.link.own := by
  unfold countOutcome
  cases o <;> rfl

theorem countOutcome_run (o : AccessOutcome) (s : State) : (countOutcome o s).run = s.run :=
  countOutcome_same ⟨⟨fun _ _ => rfl⟩, fun _ _ => rfl⟩ o s

theorem countOutcome_fill (o : AccessOutcome) (s : State) : (countOutcome o s).link.fill = s.link.fill :=
  congrArg (fun l : List Record => (l.map Record.units).sum) (countOutcome_own o s)

theorem countOutcome_dumpTrace (o : AccessOutcome) (s : State) : dumpTrace (countOutcome o s) = dumpTrace s := by
  unfold countOutcome
  cases o <;> rfl

theorem countOutcome_dumpNotice (o : AccessOutcome) (s : State) : dumpNotice (countOutcome o s) = dumpNotice s := by
  unfold countOutcome
  cases o <;> rfl

theorem finishReadout_live {i : Fin 64} {g : Segment} (off : Int) (line : Nat) (hg : s.capture.segments[i] = some g) :
    finishReadout i off line true o s = offerLine i g off
      (if o.good then some (Memory.fetch s.capture.memory line) else none) false (!o.good) (countOutcome o s) := by
  have hseg : (countOutcome o s).capture.segments[i] = some g := by
    rw [countOutcome_capture]
    exact hg
  have hmem : (countOutcome o s).capture.memory = s.capture.memory := by rw [countOutcome_capture]
  unfold finishReadout
  dsimp only
  rw [hseg, hmem]
  cases o.good <;> rfl

theorem finishDump_live {d : Dump} {c : Fin 32} {cs : List (Fin 32)} (line : Nat) (hd : s.capture.dump = some d)
    (hc : d.channels = c :: cs) : finishDump line true o s = offerDumpLine d c
      (if o.good then some (Memory.fetch s.capture.memory line) else none) false (!o.good) (countOutcome o s) := by
  have hdump : (countOutcome o s).capture.dump = some d := by rw [countOutcome_capture, hd]
  have hmem : (countOutcome o s).capture.memory = s.capture.memory := by rw [countOutcome_capture]
  unfold finishDump
  dsimp only
  rw [hdump, hmem]
  dsimp only
  rw [hc]
  cases o.good <;> rfl

/-- An access that ends without a fourth failure in a row. -/
theorem endAccess_unfailed {x : Access} (h : (finishOp x.op o s).capture.failures < 4) :
    endAccess o x s = beginWrite (selectReadout (endsAfter x.op (finishOp x.op o s))) := by
  unfold endAccess
  dsimp only
  rw [if_neg fun hf => absurd hf.2 (Nat.not_le.2 h)]

theorem accessEnds_eq {x : Access} (hx : s.capture.access = some x) (o : AccessOutcome) :
    accessEnds x.op.kind o s = endAccess o x s := by
  unfold accessEnds
  rw [hx]
  exact if_pos rfl

end

/-! ## READOUT_READ_COMPLETE and DUMP_READ_COMPLETE -/

theorem selectReadout_capture (s : State) : (selectReadout s).capture =
    { s.capture with segments := (selectReadout s).capture.segments } := by
  unfold selectReadout
  repeat' split
  all_goals rfl

/-- With no ring write queued, the readout's selection is all that the end of a command brings. -/
theorem settleCapture_unqueued {s : State} (h : s.capture.queue = []) : settleCapture s = selectReadout s :=
  beginWrite_waits (.inr (.inr (by rw [selectReadout_capture]; exact h)))

section
variable {a : Answered} {s : State} {x : Access}

theorem exec_readoutReadComplete_eq (hr : s.running = true) (hx : s.capture.access = some x) (hk : x.op.kind = .readout) :
    exec (.readoutReadComplete a) s = .next (endAccess (outcomeOf a) x s) :=
  congrArg Host.Outcome.next ((whileRunning_of_running hr _).trans (hk ▸ accessEnds_eq hx _))

theorem exec_dumpReadComplete_eq (hr : s.running = true) (hx : s.capture.access = some x) (hk : x.op.kind = .dump) :
    exec (.dumpReadComplete a) s = .next (endAccess (outcomeOf a) x s) :=
  congrArg Host.Outcome.next ((whileRunning_of_running hr _).trans (hk ▸ accessEnds_eq hx _))

theorem countOutcome_failures_lt (o : AccessOutcome) (hf : s.capture.failures < 3) :
    (countOutcome o s).capture.failures < 4 := by
  rw [countOutcome_capture]
  dsimp only
  split <;> omega

theorem samples_answered {α : Type} (a : Answered) (v : α) :
    (if (outcomeOf a).good then some v else none) = if a = .fault then none else some v := by cases a <;> rfl

theorem damage_answered (a : Answered) : (!(outcomeOf a).good) = decide (a = .fault) := by cases a <;> rfl

/-- A read of a line ends, and leaves everything to the readout's selection. -/
theorem endAccess_read {o : AccessOutcome} (hq : s.capture.queue = [])
    (hfailed : (finishOp x.op o s).capture.failures < 4)
    (hkept : (endsAfter x.op (finishOp x.op o s)).capture.queue = s.capture.queue) :
    endAccess o x s = selectReadout (endsAfter x.op (finishOp x.op o s)) := by
  rw [endAccess_unfailed hfailed]
  exact settleCapture_unqueued (hkept.trans hq)

end

section
variable {a : Answered} {n line : Nat} {s : State}

theorem endAccess_kept (op : AccessOp) (o : AccessOutcome) (s : State) {β : Type} (g : State → β) (hg : BlindCapture g) :
    g (endsAfter op (finishOp op o s)) = g s := (endsAfter_same hg _ _).trans (finishOp_same hg _ _ _)

/-- A readout read ends: the segment's record, its closing record when that was its last, and the next selection. -/
theorem readout_ends {i : Fin 64} {o : Int} {g : Segment} (hg : s.capture.segments[i] = some g)
    (hfail : s.capture.failures < 3) (hb : s.run.bypass = false) (hfill : s.link.fill + 6 ≤ 3584) (hq : s.capture.queue = []) :
    let op : AccessOp := .readout i o line true
    let ends := g.stage = .reading ∧ g.unread = []
    let bad := decide (a = .fault)
    let t := endsAfter op (finishOp op (outcomeOf a) s)
    endAccess (outcomeOf a) { op := op, started := n } s = selectReadout t ∧
      t.link.own = s.link.own ++ .trace (lineTrace s.run.address i g o
        (if a = .fault then none else some (Memory.fetch s.capture.memory line)) false bad) ::
        (if ends then [.trace (closingTrace s.run.address i (g.reported bad) g.lastLost (g.damaged || bad))] else []) ∧
      t.capture = { s.capture with
        access := none, failures := if (outcomeOf a).good then 0 else s.capture.failures + 1
        segments := put s.capture.segments i (if ends then none else some (g.reported bad)) } := by
  intro op ends bad t
  have hfinish : finishOp op (outcomeOf a) s = offerLine i g o
      (if a = .fault then none else some (Memory.fetch s.capture.memory line)) false bad (countOutcome (outcomeOf a) s) := by
    refine (finishReadout_live o line hg).trans ?_
    rw [samples_answered, damage_answered]
  have hb' : (countOutcome (outcomeOf a) s).run.bypass = false := by rw [countOutcome_run, hb]
  obtain ⟨hown, hcapture⟩ := offerLine_end (i := i) (g := g) (o := o) (gap := false) (bad := bad)
    (samples := if a = .fault then none else some (Memory.fetch s.capture.memory line)) hb' (by rw [countOutcome_fill]; exact hfill)
  have ht : t = endIfRead i (offerLine i g o
      (if a = .fault then none else some (Memory.fetch s.capture.memory line)) false bad (countOutcome (outcomeOf a) s)) :=
    congrArg (endIfRead i) hfinish
  rw [← ht, countOutcome_capture] at hcapture
  rw [← ht, countOutcome_own, countOutcome_run] at hown
  refine ⟨endAccess_read (x := { op := op, started := n }) hq ?_ (by rw [hcapture]), hown, hcapture.trans ?_⟩
  · rw [hfinish, offerLine_capture hb']
    exact countOutcome_failures_lt _ hfail
  · exact congrArg (fun v => { s.capture with
      access := v, failures := if (outcomeOf a).good then 0 else s.capture.failures + 1
      segments := put s.capture.segments i (if ends then none else some (g.reported bad)) }) (ite_self none)

/-- A dump read ends: the dump trace record, and the DUMP notice when that was the last. -/
theorem dump_ends {d : Dump} {c : Fin 32} {cs : List (Fin 32)} (hd : s.capture.dump = some d) (hc : d.channels = c :: cs)
    (hfail : s.capture.failures < 3) (hb : s.run.bypass = false) (hfill : s.link.fill + 5 ≤ 3584) (hq : s.capture.queue = []) :
    let op : AccessOp := .dump line true
    let bad := decide (a = .fault)
    let next := d.advance s.capture.dumpDepth bad
    let t := endsAfter op (finishOp op (outcomeOf a) s)
    endAccess (outcomeOf a) { op := op, started := n } s = selectReadout t ∧
      t.link.own = s.link.own ++ .trace (dumpTrace s c d.line
        (if a = .fault then none else some (Memory.fetch s.capture.memory line)) false bad) ::
        (if next.channels = [] then [dumpNotice s next false] else []) ∧
      t.capture = { s.capture with
        access := none, failures := if (outcomeOf a).good then 0 else s.capture.failures + 1
        dump := if next.channels = [] then none else some next } := by
  intro op bad next t
  have hfinish : finishOp op (outcomeOf a) s = offerDumpLine d c
      (if a = .fault then none else some (Memory.fetch s.capture.memory line)) false bad (countOutcome (outcomeOf a) s) := by
    refine (finishDump_live line hd hc).trans ?_
    rw [samples_answered, damage_answered]
  have hb' : (countOutcome (outcomeOf a) s).run.bypass = false := by rw [countOutcome_run, hb]
  obtain ⟨hown, hcapture⟩ := offerDumpLine_end (d := d) (c := c) (gap := false) (bad := bad)
    (samples := if a = .fault then none else some (Memory.fetch s.capture.memory line)) hb' (by rw [countOutcome_fill]; exact hfill)
  have ht : t = endDumpIfDone (offerDumpLine d c
      (if a = .fault then none else some (Memory.fetch s.capture.memory line)) false bad (countOutcome (outcomeOf a) s)) :=
    congrArg endDumpIfDone hfinish
  rw [← ht, countOutcome_dumpTrace, countOutcome_own, countOutcome_dumpNotice, countOutcome_capture] at hown
  rw [← ht, countOutcome_capture] at hcapture
  refine ⟨endAccess_read (x := { op := op, started := n }) hq ?_ (by rw [hcapture]), hown, hcapture⟩
  rw [hfinish, offerDumpLine_capture]
  exact countOutcome_failures_lt _ hfail

end

/-- Settles O51: the record of the line that was read, and what ends with it. -/
theorem readCompletes : Obligations.ReadCompletes := by
  intro n line a s hr hfail hb hfill hq
  refine ⟨?readout, ?dump⟩
  case readout =>
    intro i o g hx hg ends
    obtain ⟨hend, hown, hcapture⟩ := readout_ends (a := a) (n := n) (line := line) (o := o) hg hfail hb (by omega) hq
    obtain ⟨hlanes, hmeasuring, hsettings⟩ := settings_of_blindCapture (endAccess_kept (.readout i o line true) (outcomeOf a) s)
    refine ⟨_, (exec_readoutReadComplete_eq hr hx rfl).trans (congrArg Host.Outcome.next hend), ?_, hown.trans ?_, ?_, ?_, ?_, ?_,
      hlanes, hmeasuring, hsettings⟩
    · rw [hcapture]
    · rw [Segment.lastLost_eq, closingTrace_reported]
      rfl
    all_goals rw [hcapture]
    rfl
  case dump =>
    intro d c cs hx hd hc next
    obtain ⟨hend, hown, hcapture⟩ := dump_ends (a := a) (n := n) (line := line) hd hc hfail hb (by omega) hq
    obtain ⟨hlanes, hmeasuring, hsettings⟩ := settings_of_blindCapture (endAccess_kept (.dump line true) (outcomeOf a) s)
    have hnext : d.advance s.capture.dumpDepth (decide (a = .fault)) = next := by
      refine (Dump.advance_eq hc _ _).trans ?_
      simp only [decide_eq_true_eq]
      rfl
    rw [hnext] at hown hcapture
    refine ⟨_, (exec_dumpReadComplete_eq hr hx rfl).trans (congrArg Host.Outcome.next hend), ?_, hown, ?_, ?_, ?_, ?_,
      hlanes, hmeasuring, hsettings⟩
    all_goals rw [hcapture]

end Sys2Proof.Machine
end

section
/-! The readout or the dump takes its next line (R140 to R142, R144, R145). -/

namespace Sys2Proof.Machine

/-! ## Whether a line is taken -/

section
variable {s : State}

theorem exec_readoutLineStart_eq (hr : s.running = true) : exec .readoutLineStart s = .next (readoutLine s) :=
  congrArg Host.Outcome.next (whileRunning_of_running hr _)

theorem exec_dumpLineStart_eq (hr : s.running = true) : exec .dumpLineStart s = .next (dumpLine s) :=
  congrArg Host.Outcome.next (whileRunning_of_running hr _)

theorem readoutLine_waits (h : 2048 ≤ s.link.fill ∨ s.run.bypass = true) : readoutLine s = s :=
  if_neg (by rcases h with h | h <;> simp [State.readoutReady, h])

theorem dumpLine_waits (h : 2048 ≤ s.link.fill) : dumpLine s = s :=
  if_neg (by simp [State.dumpReady, h])

theorem readoutLine_takes {i : Fin 64} {g : Segment} (hfill : s.link.fill < 2048) (hb : s.run.bypass = false)
    (hidle : s.portIdle = true) (hg : readingSegment s = some (i, g)) : readoutLine s = settleCapture (readoutTake i g s) := by
  unfold readoutLine
  rw [if_pos (by simp [State.readoutReady, hfill, hb, hidle]), hg]

theorem dumpLine_takes {d : Dump} (hfill : s.link.fill < 2048) (hidle : s.portIdle = true) (hd : s.capture.dump = some d) :
    dumpLine s = dumpTake d s := by
  unfold dumpLine
  rw [if_pos (by simp [State.dumpReady, hfill, hidle]), hd]

end

/-! ## The next line of a segment (R140) -/

section
variable {g : Segment} {skipped left : List Int} {o : Int}

theorem takeWhile_lost {l : List Int} (h : ∀ y ∈ l, y ∈ g.lost) : l.takeWhile (fun y => g.lost.contains y) = l :=
  List.takeWhile_eq_self_iff.2 fun y hy => List.contains_iff_mem.2 (h y hy)

theorem Segment.nextUnlost_skipped (hdrop : g.order.drop g.nextPos = skipped ++ o :: left) (hskip : ∀ y ∈ skipped, y ∈ g.lost)
    (ho : o ∉ g.lost) : g.nextUnlost = g.nextPos + skipped.length := by
  have hstop : (o :: left).takeWhile (fun y => g.lost.contains y) = [] :=
    List.takeWhile_cons_of_neg (by rw [List.contains_iff_mem]; exact ho)
  unfold Segment.nextUnlost
  rw [hdrop, List.takeWhile_append_of_pos fun y hy => List.contains_iff_mem.2 (hskip y hy), hstop, List.append_nil]

theorem Segment.order_nextUnlost (hdrop : g.order.drop g.nextPos = skipped ++ o :: left) (hskip : ∀ y ∈ skipped, y ∈ g.lost)
    (ho : o ∉ g.lost) : g.order[g.nextUnlost]? = some o := by
  rw [Segment.nextUnlost_skipped hdrop hskip ho, ← List.getElem?_drop, hdrop,
    List.getElem?_append_right (Nat.le_refl _), Nat.sub_self]
  rfl

theorem Segment.order_nextUnlost_none (h : ∀ y ∈ g.order.drop g.nextPos, y ∈ g.lost) : g.order[g.nextUnlost]? = none := by
  unfold Segment.nextUnlost
  rw [takeWhile_lost h, List.length_drop, List.getElem?_eq_none_iff]
  omega

/-- The lines left unread behind the line that is taken. -/
theorem Segment.unread_moved (hdrop : g.order.drop g.nextPos = skipped ++ o :: left) :
    ({ g with nextPos := g.nextPos + skipped.length + 1 } : Segment).unread = [] ↔ ∀ y ∈ left, y ∈ g.lost := by
  have hrest : g.order.drop (g.nextPos + skipped.length + 1) = left := by
    rw [Nat.add_assoc, ← List.drop_drop, hdrop, ← List.drop_drop, List.drop_left]
    rfl
  show (g.order.drop (g.nextPos + skipped.length + 1)).filter _ = [] ↔ _
  rw [hrest, List.filter_eq_nil_iff]
  simp

theorem Segment.unread_passed (h : ∀ y ∈ g.order.drop g.nextPos, y ∈ g.lost) :
    ({ g with nextPos := g.nextUnlost } : Segment).unread = [] := by
  have hnone : g.order.drop g.nextUnlost = [] := List.drop_eq_nil_of_le (List.getElem?_eq_none_iff.1 (Segment.order_nextUnlost_none h))
  show (g.order.drop g.nextUnlost).filter _ = []
  rw [hnone]
  rfl

end

/-! ## READOUT_LINE_START -/

section
variable {i : Fin 64} {g : Segment} {o : Int} {skipped left : List Int} {s : State}

theorem readoutTake_takes (hdrop : g.order.drop g.nextPos = skipped ++ o :: left) (hskip : ∀ y ∈ skipped, y ∈ g.lost)
    (ho : o ∉ g.lost) : readoutTake i g s = takeLine i { g with nextPos := g.nextPos + skipped.length + 1 } o s := by
  unfold readoutTake
  rw [Segment.order_nextUnlost hdrop hskip ho, Segment.nextUnlost_skipped hdrop hskip ho]

theorem takeLine_held (h : markAt s g.channel (lineIndex s.capture.ringLines g.trigger o) = .held) :
    takeLine i g o s = s.setCapture { s.capture with
      segments := put s.capture.segments i (some g)
      access := some
        { op := .readout i o (g.channel.val * s.capture.ringLines + lineIndex s.capture.ringLines g.trigger o) true
          started := s.timebase.uptime } } := by
  unfold takeLine
  dsimp only
  rw [h]
  rfl

theorem takeLine_lost (h : markAt s g.channel (lineIndex s.capture.ringLines g.trigger o) ≠ .held) :
    let m := markAt s g.channel (lineIndex s.capture.ringLines g.trigger o)
    takeLine i g o s = endIfRead i (offerLine i g o none (decide (m = .void)) (decide (m = .bad)) s) := by
  intro m
  unfold takeLine
  dsimp only
  cases hm : markAt s g.channel (lineIndex s.capture.ringLines g.trigger o) with
  | held => exact absurd hm h
  | void =>
    show _ = endIfRead i (offerLine i g o none (decide (markAt s _ _ = _)) (decide (markAt s _ _ = _)) s)
    rw [hm]
    rfl
  | bad =>
    show _ = endIfRead i (offerLine i g o none (decide (markAt s _ _ = _)) (decide (markAt s _ _ = _)) s)
    rw [hm]
    rfl

theorem readoutTake_kept (i : Fin 64) (g : Segment) (s : State) {β : Type} (f : State → β) (hf : BlindCapture f) :
    f (readoutTake i g s) = f s := readoutTake_same hf i g s

/-- A segment with only lost lines left ends with its closing record (R141). -/
theorem readoutTake_passes (hr : g.stage = .reading) (h : ∀ y ∈ g.order.drop g.nextPos, y ∈ g.lost) :
    readoutTake i g s = endSegment i { g with nextPos := g.nextUnlost } g.lastLost g.damaged
      (s.setSegment i (some { g with nextPos := g.nextUnlost })) := by
  unfold readoutTake
  rw [Segment.order_nextUnlost_none h]
  exact endIfRead_ends ((State.setSegment_get _ _ _ _).trans (if_pos rfl)) ⟨hr, Segment.unread_passed h⟩

end

/-! ## DUMP_LINE_START -/

section
variable {c : Fin 32} {cs : List (Fin 32)} {d : Dump} {s : State}

theorem dumpTake_empty (hc : d.channels = []) : dumpTake d s = endDump false s := by
  unfold dumpTake
  rw [hc]

theorem dumpTake_held (hc : d.channels = c :: cs) (h : markAt s c (dumpIndex s c d.line) = .held) : dumpTake d s = s.setCapture
    { s.capture with
      access := some
        { op := .dump (c.val * s.capture.ringLines + dumpIndex s c d.line) true, started := s.timebase.uptime } } := by
  unfold dumpTake
  rw [hc]
  dsimp only
  rw [h]
  rfl

theorem dumpTake_lost (hc : d.channels = c :: cs) (h : markAt s c (dumpIndex s c d.line) ≠ .held) :
    let m := markAt s c (dumpIndex s c d.line)
    dumpTake d s = endDumpIfDone (offerDumpLine d c none (decide (m = .void)) (decide (m = .bad)) s) := by
  intro m
  unfold dumpTake
  rw [hc]
  dsimp only
  cases hm : markAt s c (dumpIndex s c d.line) with
  | held => exact absurd hm h
  | void =>
    show _ = endDumpIfDone (offerDumpLine d c none (decide (markAt s _ _ = _)) (decide (markAt s _ _ = _)) s)
    rw [hm]
    rfl
  | bad =>
    show _ = endDumpIfDone (offerDumpLine d c none (decide (markAt s _ _ = _)) (decide (markAt s _ _ = _)) s)
    rw [hm]
    rfl

end

/-- Settles O52. -/
theorem lineStarts : Obligations.LineStarts := by
  intro s hr
  refine ⟨fun hfill => ⟨?_, ?_⟩, fun hb => ?_, fun hfill ha hp hq => ⟨fun i g hb hg => ?readout, fun d hb hd => ?dump⟩⟩
  · rw [exec_readoutLineStart_eq hr, readoutLine_waits (.inl hfill)]
  · rw [exec_dumpLineStart_eq hr, dumpLine_waits hfill]
  · rw [exec_readoutLineStart_eq hr, readoutLine_waits (.inr hb)]
  case readout =>
    obtain ⟨hseg, hstage⟩ := readingSegment_some hg
    have hline := (exec_readoutLineStart_eq hr).trans
      (congrArg Host.Outcome.next (readoutLine_takes hfill hb ((portIdle_iff s).2 ⟨ha, hp, hq⟩) hg))
    obtain ⟨hlanes, hmeasuring, hsettings⟩ := settings_of_blindCapture (readoutTake_kept i g s)
    intro closing
    refine ⟨?line, fun hlost => ?passed⟩
    case line =>
      intro skipped o left hdrop hskip ho k bad ends moved
      have htake := readoutTake_takes (i := i) (s := s) hdrop hskip ho
      have hends : moved.stage = .reading ∧ moved.unread = [] ↔ ends :=
        (and_iff_right hstage).trans (Segment.unread_moved hdrop)
      by_cases hheld : markAt s g.channel k = .held
      · have htaken := htake.trans (takeLine_held hheld)
        refine ⟨_, hline.trans (congrArg Host.Outcome.next (settleCapture_unqueued (by rw [htaken]; exact hq))),
          fun _ => ?_, fun hno => absurd hheld hno, ?_, hlanes, hmeasuring, hsettings⟩
        · rw [htaken]
          exact ⟨rfl, rfl, rfl⟩
        · rw [htaken]
          rfl
      · have htaken := htake.trans (takeLine_lost (g := moved) hheld)
        obtain ⟨hown, hcapture⟩ := offerLine_end (i := i) (g := moved) (o := o) (samples := none)
          (gap := decide (markAt s g.channel k = .void)) (bad := bad) hb (by omega)
        rw [← htaken] at hown hcapture
        rw [if_congr hends rfl rfl, closingTrace_reported, Segment.lastLost_eq] at hown
        rw [if_congr hends rfl rfl, if_congr hends rfl rfl] at hcapture
        refine ⟨_, hline.trans (congrArg Host.Outcome.next (settleCapture_unqueued (by rw [hcapture]; exact hq))),
          fun hno => absurd hno hheld, fun _ => ⟨?_, hown, ?_⟩, ?_, hlanes, hmeasuring, hsettings⟩
        · rw [hcapture, ha]
          exact ite_self none
        · rw [hcapture]
          rfl
        · rw [hcapture]
    case passed =>
      have hpassed := readoutTake_passes (i := i) (s := s) hstage hlost
      have hcapture := congrArg State.capture hpassed
      rw [endSegment_capture] at hcapture
      refine ⟨_, hline.trans (congrArg Host.Outcome.next (settleCapture_unqueued (by rw [hcapture]; exact hq))), ?_, ?_, ?_,
        hlanes, hmeasuring, hsettings⟩
      · rw [hcapture]
        exact congrArg (Option.map _) ha
      · have hroom : s.link.fill + 3 ≤ 3584 := by omega
        rw [hpassed, endSegment_link,
          (offer_trace_link (s := s.setSegment i (some { g with nextPos := g.nextUnlost })) hb hroom).1, Segment.lastLost_eq]
        rfl
      · rw [hcapture]
        exact put_put _ _ _ _
  case dump =>
    have hline := (exec_dumpLineStart_eq hr).trans
      (congrArg Host.Outcome.next (dumpLine_takes hfill ((portIdle_iff s).2 ⟨ha, hp, hq⟩) hd))
    obtain ⟨hlanes, hmeasuring, hsettings⟩ := settings_of_blindCapture (s := s) (t := dumpTake d s) fun f hf => dumpTake_same hf d s
    refine ⟨?empty, ?line⟩
    case empty =>
      intro hc
      rw [dumpTake_empty hc] at hline
      refine ⟨_, hline, ?_, endDump_own hd hb (by omega) false⟩
      rw [endDump_capture hd]
    case line =>
      intro c cs hc k bad next
      by_cases hheld : markAt s c k = .held
      · exact ⟨_, hline, fun _ => dumpTake_held hc hheld, fun hno => absurd hheld hno, hlanes, hmeasuring, hsettings⟩
      · obtain ⟨hown, hcapture⟩ := offerDumpLine_end (d := d) (c := c) (samples := none)
          (gap := decide (markAt s c k = .void)) (bad := bad) hb (by omega)
        have hnext : d.advance s.capture.dumpDepth bad = next := Dump.advance_eq hc _ _
        rw [← dumpTake_lost hc hheld, hnext] at hown hcapture
        refine ⟨_, hline, fun hno => absurd hno hheld, fun _ => ⟨?_, hown, ?_, ?_⟩, hlanes, hmeasuring, hsettings⟩
        · rw [hcapture]
          exact ha
        · rw [hcapture]
        · rw [hcapture]

end Sys2Proof.Machine
end

section
/-! The end of a ring write and of an access without an answer, and the failure of the capture port (R133 to R135). -/

namespace Sys2Proof.Machine

/-! ## The capture unit apart from its segments -/

/-- The capture unit with its segments left out of view, and the record link. -/
def State.besidesSegments (s : State) : Capture × Link := ({ s.capture with segments := Vector.replicate 64 none }, s.link)

theorem setSegment_besides (i : Fin 64) (g : Option Segment) (s : State) :
    (s.setSegment i g).besidesSegments = s.besidesSegments := rfl

theorem selectReadout_besides (s : State) : (selectReadout s).besidesSegments = s.besidesSegments := by
  unfold selectReadout
  repeat' split
  all_goals rfl

theorem damageSegment_besides (c : Fin 32) (k : Nat) (i : Fin 64) (s : State) :
    (damageSegment c k i s).besidesSegments = s.besidesSegments := by
  unfold damageSegment
  repeat' split
  all_goals rfl

theorem damageSegments_besides (c : Fin 32) (k : Nat) (s : State) :
    (forEach allSegments (damageSegment c k) s).besidesSegments = s.besidesSegments :=
  forEach_same State.besidesSegments _ _ (damageSegment_besides c k) s

/-! ## A ring write ends (R133) -/

section
variable {o : AccessOutcome} {w : RingWrite} {s : State}

/-- The marks of the rings once a write of a line has ended. -/
def Capture.written (u : Capture) (w : RingWrite) (good : Bool) : Vector Ring 32 :=
  if w.voided then u.rings
  else put u.rings w.channel
    { u.rings[w.channel] with marks := (u.rings[w.channel]).marks.set w.index (if good then .held else .bad) }

theorem markWritten_besides (w : RingWrite) (good : Bool) (s : State) :
    (markWritten w good s).besidesSegments = ({ s.besidesSegments.1 with rings := s.capture.written w good }, s.link) := by
  unfold markWritten Capture.written
  split
  · rfl
  · cases good
    · exact damageSegments_besides _ _ _
    · rfl

theorem finishWrite_besides (w : RingWrite) (o : AccessOutcome) (s : State) : (finishWrite w o s).besidesSegments =
    ({ s.besidesSegments.1 with
        access := none, failures := if o.good then 0 else s.capture.failures + 1, rings := s.capture.written w o.good
        memory := if o.good then Memory.write s.capture.memory (memoryLine s w.channel w.index) w.data
          else Memory.forget s.capture.memory (memoryLine s w.channel w.index) },
      (countOutcome o s).link) := by
  unfold finishWrite
  rw [markWritten_besides]
  unfold writeMemory countOutcome
  cases o <;> rfl

theorem memory_ended (m : Memory) (a : Nat) (x : Line) (good : Bool) :
    Memory.read (if good then Memory.write m a x else Memory.forget m a) a = (if good then some x else none) ∧
      ∀ k, k ≠ a → Memory.read (if good then Memory.write m a x else Memory.forget m a) k = Memory.read m k := by
  cases good
  · exact ⟨Memory.read_forget_same m a, fun k hk => Memory.read_forget_other m a k hk⟩
  · exact ⟨Memory.read_write_same m a x, fun k hk => Memory.read_write_other m a k x hk⟩

theorem settleCapture_memory (s : State) : (settleCapture s).capture.memory = s.capture.memory := by
  unfold settleCapture
  rw [beginWrite_capture, selectReadout_capture]

theorem settleCapture_failures (s : State) : (settleCapture s).capture.failures = s.capture.failures := by
  unfold settleCapture
  rw [beginWrite_capture, selectReadout_capture]

end

/-! ## RING_WRITE_COMPLETE -/

theorem exec_ringWriteComplete_eq {a : Answered} {x : Access} {s : State} (hr : s.running = true)
    (hx : s.capture.access = some x) (hk : x.op.kind = .ringWrite) :
    exec (.ringWriteComplete a) s = .next (endAccess (outcomeOf a) x s) :=
  congrArg Host.Outcome.next ((whileRunning_of_running hr _).trans (hk ▸ accessEnds_eq hx _))

theorem settleCapture_rings_eq (s : State) : (settleCapture s).capture.rings = s.capture.rings := by
  unfold settleCapture
  rw [beginWrite_capture, selectReadout_capture]

/-- A ring write that its answer ends without a fourth failure in a row. -/
theorem ringWriteEnds {w : RingWrite} {n : Nat} {a : Answered} {s : State} (hr : s.running = true)
    (hx : s.capture.access = some { op := .write w, started := n }) (hfail : s.capture.failures < 3) :
    exec (.ringWriteComplete a) s = .next (settleCapture (finishWrite w (outcomeOf a) s)) := by
  have hfailures : (finishWrite w (outcomeOf a) s).capture.failures < 4 := by
    have h := congrArg (fun p : Capture × Link => p.1.failures) (finishWrite_besides w (outcomeOf a) s)
    refine Nat.lt_of_le_of_lt (le_of_eq h) ?_
    dsimp only
    split <;> omega
  exact (exec_ringWriteComplete_eq hr hx rfl).trans (congrArg Host.Outcome.next (endAccess_unfailed hfailures))

theorem endAccess_settings (o : AccessOutcome) (x : Access) (s : State) :
    (endAccess o x s).lanes = s.lanes ∧ SameMeasuring s (endAccess o x s) ∧ SameSettings s (endAccess o x s) :=
  settings_of_blindCapture fun _ hg => endAccess_same hg o x s

/-- What a completed ring write leaves (R133). -/
theorem writeEnds {w : RingWrite} {n : Nat} {a : Answered} {s : State} (hr : s.running = true)
    (hx : s.capture.access = some { op := .write w, started := n }) (hfail : s.capture.failures < 3) :
    ∃ t, exec (.ringWriteComplete a) s = .next t ∧
      (let line := w.channel.val * s.capture.ringLines + w.index
       Memory.read t.capture.memory line = (if a = .fault then none else some w.data) ∧
       ∀ k, k ≠ line → Memory.read t.capture.memory k = Memory.read s.capture.memory k) ∧
      t.capture.rings =
        (if w.voided then s.capture.rings
         else put s.capture.rings w.channel
          { s.capture.rings[w.channel] with
            marks := (s.capture.rings[w.channel]).marks.set w.index (if a = .fault then .bad else .held) }) ∧
      t.capture.failures = (if a = .fault then s.capture.failures + 1 else 0) ∧
      t.link.counts =
        (match a with
         | .done => s.link.counts
         | .split => { s.link.counts with split := min 65535 (s.link.counts.split + 1) }
         | .fault => { s.link.counts with fault := min 65535 (s.link.counts.fault + 1) }) ∧
      t.lanes = s.lanes ∧ SameMeasuring s t ∧ SameSettings s t := by
  have hbesides := finishWrite_besides w (outcomeOf a) s
  have hmemory := congrArg (fun p : Capture × Link => p.1.memory) hbesides
  have hrings := congrArg (fun p : Capture × Link => p.1.rings) hbesides
  have hfailures := congrArg (fun p : Capture × Link => p.1.failures) hbesides
  have hlink := congrArg Prod.snd hbesides
  have hread := memory_ended s.capture.memory (memoryLine s w.channel w.index) w.data (outcomeOf a).good
  have hkept := settings_of_blindCapture (s := s) (t := settleCapture (finishWrite w (outcomeOf a) s)) fun g hg =>
    (settleCapture_same hg _).trans (finishOp_same hg (.write w) _ _)
  refine ⟨_, ringWriteEnds hr hx hfail, ⟨?_, fun k hk => ?_⟩, ?_, ?_, ?_, hkept⟩
  · rw [settleCapture_memory]
    refine (congrArg (fun m => Memory.read m _) hmemory).trans (hread.1.trans ?_)
    cases a <;> rfl
  · rw [settleCapture_memory]
    exact (congrArg (fun m => Memory.read m k) hmemory).trans (hread.2 k hk)
  · rw [settleCapture_rings_eq]
    refine hrings.trans ?_
    cases a <;> rfl
  · rw [settleCapture_failures]
    refine hfailures.trans ?_
    cases a <;> rfl
  · rw [settleCapture_link]
    refine (congrArg Link.counts hlink).trans ?_
    cases a <;> rfl

end Sys2Proof.Machine
end

section
/-! The failure of the capture port: what the access in progress and the segments leave, and the notices (R133, R135). -/

namespace Sys2Proof.Machine

/-! ## The FAULT count (R133) -/

/-- The number of accesses that ended FAULT or without an answer. -/
def State.faults (s : State) : Nat := s.link.counts.fault

theorem offer_faults (r : Record) (b : Bool) (s : State) : (offer r b s).faults = s.faults := by
  unfold offer Link.offer Link.shed Link.enqueue State.faults
  repeat' split
  · rfl
  · rfl
  · cases r <;> rfl

theorem notify_faults (x : NoticeBody) (s : State) : (notify x s).faults = s.faults := offer_faults _ _ s

theorem endSegment_faults (i : Fin 64) (g : Segment) (l d : Bool) (s : State) : (endSegment i g l d s).faults = s.faults :=
  offer_faults (.trace (closingTrace s.run.address i g l d)) false s

theorem failSegment_faults (i : Fin 64) (s : State) : (failSegment i s).faults = s.faults := by
  unfold failSegment
  split
  · rfl
  · exact endSegment_faults _ _ _ _ _

theorem endDump_faults (stopped : Bool) (s : State) : (endDump stopped s).faults = s.faults := by
  unfold endDump
  split
  · rfl
  · exact notify_faults _ _

theorem failPort_faults (k : AccessKind) (o : AccessOutcome) (s : State) : (failPort k o s).faults = s.faults := by
  unfold failPort
  dsimp only
  rw [endDump_faults, forEach_same State.faults _ _ failSegment_faults, notify_faults]
  rfl

theorem offerLine_faults (i : Fin 64) (g : Segment) (off : Int) (x : Option Line) (a b : Bool) (s : State) :
    (offerLine i g off x a b s).faults = s.faults := offer_faults _ _ _

theorem endIfRead_faults (i : Fin 64) (s : State) : (endIfRead i s).faults = s.faults := by
  unfold endIfRead
  repeat' split
  · rfl
  · exact endSegment_faults _ _ _ _ _
  · rfl

theorem endDumpIfDone_faults (s : State) : (endDumpIfDone s).faults = s.faults := by
  unfold endDumpIfDone
  repeat' split
  · rfl
  · exact endDump_faults _ _
  · rfl

theorem endsAfter_faults (op : AccessOp) (s : State) : (endsAfter op s).faults = s.faults := by
  cases op with
  | write w => rfl
  | readout i off line live =>
    cases live
    · rfl
    · exact endIfRead_faults i s
  | dump line live =>
    cases live
    · rfl
    · exact endDumpIfDone_faults s

theorem settleCapture_faults (s : State) : (settleCapture s).faults = s.faults :=
  congrArg (fun k : Link => k.counts.fault) (settleCapture_link s)

/-! ## What the work of the access leaves (R133, R140, R144) -/

section
variable {o : AccessOutcome} {s : State}

theorem countOutcome_faults (ho : o.good = false) : (countOutcome o s).faults = min 65535 (s.faults + 1) := by
  cases o with
  | done => exact nomatch ho
  | split => exact nomatch ho
  | fault => rfl
  | timeout => rfl

theorem finishReadout_cases (i : Fin 64) (off : Int) (line : Nat) (live : Bool) (o : AccessOutcome) (s : State) :
    (finishReadout i off line live o s = countOutcome o s ∧ ∀ g, live = true → s.capture.segments[i] ≠ some g) ∨
      ∃ g, live = true ∧ s.capture.segments[i] = some g ∧ finishReadout i off line live o s = offerLine i g off
        (if o.good then some (Memory.fetch s.capture.memory line) else none) false (!o.good) (countOutcome o s) := by
  cases live with
  | false => exact .inl ⟨rfl, fun _ h => nomatch h⟩
  | true =>
    cases hg : s.capture.segments[i] with
    | some g => exact .inr ⟨g, rfl, rfl, finishReadout_live off line hg⟩
    | none =>
      refine .inl ⟨?_, fun _ _ => nofun⟩
      have hseg : (countOutcome o s).capture.segments[i] = none := by
        rw [countOutcome_capture]
        exact hg
      unfold finishReadout
      dsimp only
      rw [hseg]
      rfl

theorem finishDump_cases (line : Nat) (live : Bool) (o : AccessOutcome) (s : State) :
    (finishDump line live o s = countOutcome o s ∧
        ∀ d c cs, live = true → s.capture.dump = some d → d.channels ≠ c :: cs) ∨
      ∃ d c cs, live = true ∧ s.capture.dump = some d ∧ d.channels = c :: cs ∧
        finishDump line live o s = offerDumpLine d c
          (if o.good then some (Memory.fetch s.capture.memory line) else none) false (!o.good) (countOutcome o s) := by
  cases live with
  | false => exact .inl ⟨rfl, fun _ _ _ h => nomatch h⟩
  | true =>
    have hdump : (countOutcome o s).capture.dump = s.capture.dump := by rw [countOutcome_capture]
    cases hd : s.capture.dump with
    | none =>
      refine .inl ⟨?_, fun _ _ _ _ => nofun⟩
      unfold finishDump
      dsimp only
      rw [hdump, hd]
      rfl
    | some d =>
      cases hc : d.channels with
      | cons c cs => exact .inr ⟨d, c, cs, rfl, rfl, hc, finishDump_live line hd hc⟩
      | nil =>
        refine .inl ⟨?_, fun d' c cs _ hd' => ?_⟩
        · unfold finishDump
          dsimp only
          rw [hdump, hd]
          dsimp only
          rw [hc]
          rfl
        · obtain rfl := Option.some.inj hd'
          rw [hc]
          exact nofun

theorem finishOp_faults (op : AccessOp) (ho : o.good = false) : (finishOp op o s).faults = min 65535 (s.faults + 1) := by
  rw [← countOutcome_faults ho]
  cases op with
  | write w => exact congrArg (fun p : Capture × Link => p.2.counts.fault) (finishWrite_besides w o s)
  | readout i off line live =>
    rcases finishReadout_cases i off line live o s with ⟨h, -⟩ | ⟨g, -, -, h⟩
    · exact congrArg State.faults h
    · exact (congrArg State.faults h).trans (offerLine_faults _ _ _ _ _ _ _)
  | dump line live =>
    rcases finishDump_cases line live o s with ⟨h, -⟩ | ⟨d, c, cs, -, -, -, h⟩
    · exact congrArg State.faults h
    · exact (congrArg State.faults h).trans (offer_faults (.trace (dumpTrace _ _ _ _ _ _)) false _)

theorem offerLine_besides (i : Fin 64) (g : Segment) (off : Int) (x : Option Line) (a b : Bool) (s : State) :
    (offerLine i g off x a b s).besidesSegments.1 = s.besidesSegments.1 :=
  congrArg (fun u : Capture => { u with segments := Vector.replicate 64 none }) (offer_capture _ _ _)

/-- The end of an access frees the port, counts the outcome, and does not itself fail the port. -/
theorem finishOp_port (op : AccessOp) (o : AccessOutcome) (s : State) :
    let t := finishOp op o s
    t.capture.access = none ∧ t.capture.failures = (if o.good then 0 else s.capture.failures + 1) ∧
      t.capture.port = s.capture.port := by
  intro t
  have hcount : ∀ u : State, u.besidesSegments.1 = (countOutcome o s).besidesSegments.1 →
      u.capture.access = none ∧ u.capture.failures = (if o.good then 0 else s.capture.failures + 1) ∧
        u.capture.port = s.capture.port := fun u hu => by
    have hc := countOutcome_capture o s
    refine ⟨?_, ?_, ?_⟩
    · exact (congrArg Capture.access hu :).trans (congrArg Capture.access hc :)
    · exact (congrArg Capture.failures hu :).trans (congrArg Capture.failures hc :)
    · exact (congrArg Capture.port hu :).trans (congrArg Capture.port hc :)
  cases op with
  | write w =>
    have h := congrArg Prod.fst (finishWrite_besides w o s)
    exact ⟨(congrArg Capture.access h :), (congrArg Capture.failures h :), (congrArg Capture.port h :)⟩
  | readout i off line live =>
    rcases finishReadout_cases i off line live o s with ⟨h, -⟩ | ⟨g, -, -, h⟩
    · exact hcount t (congrArg (fun u => u.besidesSegments.1) h)
    · exact hcount t ((congrArg (fun u => u.besidesSegments.1) h).trans (offerLine_besides _ _ _ _ _ _ _))
  | dump line live =>
    rcases finishDump_cases line live o s with ⟨h, -⟩ | ⟨d, c, cs, -, -, -, h⟩
    · exact hcount t (congrArg (fun u => u.besidesSegments.1) h)
    · have hc := (congrArg State.capture h).trans offerDumpLine_capture
      rw [countOutcome_capture] at hc
      exact ⟨(congrArg Capture.access hc :), (congrArg Capture.failures hc :), (congrArg Capture.port hc :)⟩

end

end Sys2Proof.Machine
end

section
/-! The notices and records of a failing port (R135, R141, R145). -/

namespace Sys2Proof.Machine

/-! ## The segments and the dump that the access leaves -/

section
variable {o : AccessOutcome} {s : State}

/-- A segment after the line at a ring index has been lost to a failed write (R133). -/
def Segment.damagedAt (g : Segment) (c : Fin 32) (r k : Nat) : Segment :=
  if g.channel = c ∧ g.holds r k = true then { g with damaged := true } else g

theorem damageSegment_segment (c : Fin 32) (k : Nat) (i : Fin 64) (s : State) (j : Fin 64) :
    (damageSegment c k i s).capture.segments[j] =
      if j = i then s.capture.segments[i].map (fun g => g.damagedAt c s.capture.ringLines k) else s.capture.segments[j] := by
  unfold damageSegment
  cases hg : s.capture.segments[i] with
  | none => exact put_id _ i j _ (hg.symm ▸ rfl)
  | some g =>
    by_cases hd : g.channel = c ∧ g.holds s.capture.ringLines k = true
    · simp only [if_pos hd, Option.map_some, Segment.damagedAt]
      exact State.setSegment_get _ _ _ _
    · simp only [if_neg hd, Option.map_some, Segment.damagedAt]
      exact put_id _ i j _ hg

theorem damageSegments_segment (c : Fin 32) (k : Nat) (s : State) (i : Fin 64) :
    (forEach allSegments (damageSegment c k) s).capture.segments[i] =
      s.capture.segments[i].map (fun g => g.damagedAt c s.capture.ringLines k) := by
  unfold allSegments
  have hall := forEach_all (g := fun t => t.capture.segments) (k := fun t => t.capture.ringLines)
    (h := fun _ r x => x.map (fun g => g.damagedAt c r k))
    (fun i s => congrArg (fun p : Capture × Link => p.1.ringLines) (damageSegment_besides c k i s))
    (fun i s j => damageSegment_segment c k i s j) s i
  exact hall

/-- What the work of an access may change of a segment that is in place. -/
structure Segment.Worked (op : AccessOp) (g g' : Segment) : Prop where
  sensor : g'.sensor = g.sensor
  arrival : g'.arrival = g.arrival
  cut : (∃ w, op = .write w) → g'.cut = g.cut

theorem Segment.damagedAt_worked (op : AccessOp) (g : Segment) (c : Fin 32) (r k : Nat) :
    Segment.Worked op g (g.damagedAt c r k) := by
  unfold Segment.damagedAt
  split <;> exact ⟨rfl, rfl, fun _ => rfl⟩

theorem finishWrite_segment (w : RingWrite) (o : AccessOutcome) (s : State) (i : Fin 64) :
    ∃ f : Segment → Segment, (∀ g, Segment.Worked (.write w) g (f g)) ∧
      (finishWrite w o s).capture.segments[i] = s.capture.segments[i].map f := by
  have hcount : (writeMemory w o.good (countOutcome o s)).capture.segments = s.capture.segments :=
    (congrArg Capture.segments (countOutcome_capture o s) :)
  have hkept : s.capture.segments[i] = s.capture.segments[i].map id := (congrFun Option.map_id _).symm
  unfold finishWrite markWritten
  rw [← hcount] at hkept ⊢
  generalize writeMemory w o.good (countOutcome o s) = u at hkept ⊢
  split
  · exact ⟨id, fun _ => ⟨rfl, rfl, fun _ => rfl⟩, hkept⟩
  · split
    · exact ⟨id, fun _ => ⟨rfl, rfl, fun _ => rfl⟩, hkept⟩
    · exact ⟨_, fun g => g.damagedAt_worked _ _ _ _, damageSegments_segment _ _ _ i⟩

/-- The work of an access keeps the segments in place. -/
theorem finishOp_segment (op : AccessOp) (o : AccessOutcome) (hb : s.run.bypass = false) (i : Fin 64) :
    ∃ f : Segment → Segment, (∀ g, Segment.Worked op g (f g)) ∧
      (finishOp op o s).capture.segments[i] = s.capture.segments[i].map f := by
  have hcount : (countOutcome o s).capture.segments = s.capture.segments :=
    (congrArg Capture.segments (countOutcome_capture o s) :)
  have hkept : ∀ u : State, u.capture.segments = s.capture.segments → u.capture.segments[i] = s.capture.segments[i].map id :=
    fun u hu => by rw [hu, Option.map_id]; rfl
  cases op with
  | write w => exact finishWrite_segment w o s i
  | readout j off line live =>
    rcases finishReadout_cases j off line live o s with ⟨h, -⟩ | ⟨g, -, hg, h⟩
    · exact ⟨id, fun _ => ⟨rfl, rfl, fun _ => rfl⟩, hkept _ ((congrArg (fun t => t.capture.segments) h).trans hcount)⟩
    · have hseg : (finishReadout j off line live o s).capture.segments =
          put s.capture.segments j (some (g.reported (!o.good))) := by
        rw [h, offerLine_capture (by rw [countOutcome_run, hb])]
        exact congrArg (fun v => put v j _) hcount
      refine ⟨fun k => if i = j then k.reported (!o.good) else k, fun k => ?_, ?_⟩
      · split <;> exact ⟨rfl, rfl, fun hw => nomatch hw⟩
      · refine (congrArg (fun v : Vector (Option Segment) 64 => v[i]) hseg).trans ((put_get _ _ _ _).trans ?_)
        by_cases hij : i = j
        · subst hij
          rw [if_pos rfl, hg, Option.map_some, if_pos rfl]
        · rw [if_neg hij]
          simp only [if_neg hij]
          exact (congrFun Option.map_id _).symm
  | dump line live =>
    rcases finishDump_cases line live o s with ⟨h, -⟩ | ⟨d, c, cs, -, -, -, h⟩
    · exact ⟨id, fun _ => ⟨rfl, rfl, fun _ => rfl⟩, hkept _ ((congrArg (fun t => t.capture.segments) h).trans hcount)⟩
    · refine ⟨id, fun _ => ⟨rfl, rfl, fun _ => rfl⟩, hkept _ ?_⟩
      refine (congrArg (fun t => t.capture.segments) h).trans ?_
      rw [offerDumpLine_capture]
      exact hcount

/-- The work of an access keeps a dump in progress. -/
theorem finishOp_dump (op : AccessOp) (o : AccessOutcome) (s : State) :
    ∃ f : Dump → Dump, ((∃ w, op = .write w) → f = id) ∧ (finishOp op o s).capture.dump = s.capture.dump.map f := by
  have hcount : (countOutcome o s).capture.dump = s.capture.dump := (congrArg Capture.dump (countOutcome_capture o s) :)
  have hid : s.capture.dump = s.capture.dump.map id := (congrFun Option.map_id _).symm
  cases op with
  | write w => exact ⟨id, fun _ => rfl, (congrArg (fun p : Capture × Link => p.1.dump) (finishWrite_besides w o s) :).trans hid⟩
  | readout j off line live =>
    rcases finishReadout_cases j off line live o s with ⟨h, -⟩ | ⟨g, -, hg, h⟩
    · exact ⟨id, fun _ => rfl, ((congrArg (fun t => t.capture.dump) h).trans hcount).trans hid⟩
    · refine ⟨id, fun _ => rfl, ((congrArg (fun t => t.capture.dump) h).trans ?_).trans hid⟩
      exact (congrArg Capture.dump (offerLine_besides _ _ _ _ _ _ _) :).trans hcount
  | dump line live =>
    rcases finishDump_cases line live o s with ⟨h, -⟩ | ⟨d, c, cs, -, hd, -, h⟩
    · exact ⟨id, fun _ => rfl, ((congrArg (fun t => t.capture.dump) h).trans hcount).trans hid⟩
    · refine ⟨fun _ => d.advance (countOutcome o s).capture.dumpDepth (!o.good), fun hw => (nomatch hw), ?_⟩
      refine (congrArg (fun t => t.capture.dump) h).trans ?_
      rw [offerDumpLine_capture, hd]
      rfl

/-- The record that the work of an access makes (R140, R144). -/
theorem finishOp_own (op : AccessOp) (ho : o.good = false) (hb : s.run.bypass = false) (hfill : s.link.fill + 3 ≤ 3584) :
    ∃ first, (finishOp op o s).link.own = s.link.own ++ first ∧ (finishOp op o s).link.fill ≤ s.link.fill + 3 ∧
      ((∃ w, op = .write w) → first = []) ∧
      (∀ (i : Fin 64) (off : Int) (line : Nat) (g : Segment), op = .readout i off line true → s.capture.segments[i] = some g →
        first = [.trace (lineTrace s.run.address i g off none false true)]) ∧
      (∀ (line : Nat) (d : Dump) (e : Fin 32) (es : List (Fin 32)), op = .dump line true → s.capture.dump = some d →
        d.channels = e :: es → first = [.trace (dumpTrace s e d.line none false true)]) := by
  have hcount : ∀ u : State, u.link = (countOutcome o s).link → u.link.own = s.link.own ++ [] ∧ u.link.fill ≤ s.link.fill + 3 :=
    fun u hu => by
      rw [hu, countOutcome_own, countOutcome_fill, List.append_nil]
      exact ⟨rfl, Nat.le_add_right _ _⟩
  have hb' : (countOutcome o s).run.bypass = false := by rw [countOutcome_run, hb]
  have hfill' : (countOutcome o s).link.fill + 3 ≤ 3584 := by rw [countOutcome_fill]; exact hfill
  cases op with
  | write w =>
    obtain ⟨hown, hroom⟩ := hcount _ (congrArg Prod.snd (finishWrite_besides w o s))
    exact ⟨[], hown, hroom, fun _ => rfl, nofun, nofun⟩
  | readout j off line live =>
    rcases finishReadout_cases j off line live o s with ⟨h, hno⟩ | ⟨g, hlive, hg, h⟩
    · obtain ⟨hown, hroom⟩ := hcount _ (congrArg State.link h)
      refine ⟨[], hown, hroom, fun _ => rfl, fun i off' line' g hop hg => ?_, nofun⟩
      cases hop
      exact absurd hg (hno g rfl)
    · obtain ⟨hown, hroom⟩ := offerLine_own (i := j) (g := g) (o := off)
        (samples := if o.good then some (Memory.fetch s.capture.memory line) else none) (gap := false) (bad := !o.good) hb' hfill'
      rw [countOutcome_own, countOutcome_run, ho] at hown
      rw [countOutcome_fill, ho] at hroom
      rw [ho] at h
      have h' : finishOp (.readout j off line live) o s = _ := h
      rw [h']
      refine ⟨_, hown, hroom.le, fun hw => (nomatch hw), fun i off' line' g' hop hg' => ?_, nofun⟩
      cases hop
      obtain rfl := Option.some.inj (hg.symm.trans hg')
      rfl
  | dump line live =>
    rcases finishDump_cases line live o s with ⟨h, hno⟩ | ⟨d, c, cs, hlive, hd, hc, h⟩
    · obtain ⟨hown, hroom⟩ := hcount _ (congrArg State.link h)
      refine ⟨[], hown, hroom, fun _ => rfl, nofun, fun line' d e es hop hd hc => ?_⟩
      cases hop
      exact absurd hc (hno d e es rfl hd)
    · obtain ⟨hown, hroom⟩ := offer_trace_link (r := dumpTrace (countOutcome o s) c d.line none false true) hb' hfill'
      rw [countOutcome_own, countOutcome_dumpTrace] at hown
      rw [countOutcome_fill, countOutcome_dumpTrace] at hroom
      rw [ho] at h
      have hlink : (finishOp (.dump line live) o s).link =
          (offer (.trace (dumpTrace s c d.line none false true)) false (countOutcome o s)).link := by
        refine (congrArg State.link h).trans ?_
        rw [← countOutcome_dumpTrace o s]
        rfl
      rw [hlink]
      refine ⟨_, hown, hroom.le, fun hw => (nomatch hw), nofun, fun line' d' e es hop hd' hc' => ?_⟩
      cases hop
      obtain rfl := Option.some.inj (hd.symm.trans hd')
      obtain ⟨rfl, -⟩ := List.cons.inj (hc.symm.trans hc')
      rfl

end

end Sys2Proof.Machine
end

section
/-! The port enters FAILED, and the ends of an access at the memory port and without an answer (R133, R135). -/

namespace Sys2Proof.Machine

/-! ## The segments that a failing port ends (R135, R141) -/

section
variable {s : State}

theorem failSegment_some {i : Fin 64} {g : Segment} (hg : s.capture.segments[i] = some g) :
    failSegment i s = endSegment i g false true s := by
  unfold failSegment
  rw [hg]

theorem failSegment_none {i : Fin 64} (hg : s.capture.segments[i] = none) : failSegment i s = s := by
  unfold failSegment
  rw [hg]

theorem failSegment_capture (i : Fin 64) (s : State) (ha : s.capture.access = none) :
    (failSegment i s).capture = { s.capture with segments := put s.capture.segments i none } := by
  cases hg : s.capture.segments[i] with
  | none =>
    rw [failSegment_none hg]
    exact congrArg (fun v => { s.capture with segments := v }) (hg ▸ (put_self s.capture.segments i).symm)
  | some g =>
    have hmap : s.capture.access.map (Access.dropSegment i) = s.capture.access := by
      rw [ha]
      rfl
    rw [failSegment_some hg, endSegment_capture, hmap]

theorem failSegment_segment (i : Fin 64) (s : State) (j : Fin 64) :
    (failSegment i s).capture.segments[j] = if j = i then none else s.capture.segments[j] := by
  cases hg : s.capture.segments[i] with
  | none =>
    rw [failSegment_none hg]
    exact put_id _ i j _ hg
  | some g =>
    rw [failSegment_some hg]
    exact endSegment_segment _ _ _ _ _ _

theorem failSegment_steady (i : Fin 64) (s : State) : Steady s (failSegment i s) := by
  cases hg : s.capture.segments[i] with
  | none =>
    rw [failSegment_none hg]
    exact .refl s
  | some g =>
    rw [failSegment_some hg]
    exact endSegment_keeps (steady_tests s).toKeepsBlocks _ _ _ _ _ (.refl s)

theorem failSegments_steady (l : List (Fin 64)) (s : State) : Steady s (forEach l failSegment s) :=
  forEach_keeps (Steady s) l failSegment (fun i _ t ht => ht.trans (failSegment_steady i t)) s (.refl s)

/-- The end of segments leaves the rest of the capture unit alone. -/
theorem failSegments_capture (l : List (Fin 64)) (s : State) (ha : s.capture.access = none) :
    (forEach l failSegment s).capture.access = none ∧
      (forEach l failSegment s).capture = { s.capture with segments := (forEach l failSegment s).capture.segments } := by
  refine forEach_keeps (fun t => t.capture.access = none ∧ t.capture = { s.capture with segments := t.capture.segments })
    l failSegment (fun i _ u hu => ?_) s ⟨ha, rfl⟩
  obtain ⟨hnone, hsame⟩ := hu
  rw [failSegment_capture i u hnone]
  exact ⟨hnone, congrArg (fun w : Capture => { w with segments := put u.capture.segments i none }) hsame⟩

theorem failSegments_none (s : State) (i : Fin 64) : (forEach allSegments failSegment s).capture.segments[i] = none := by
  unfold allSegments
  have hall := forEach_all (g := fun t => t.capture.segments) (k := fun _ => ()) (h := fun _ _ _ => none)
    (fun _ _ => rfl) (fun i u j => failSegment_segment i u j) s i
  exact hall

/-- While the own record queue has room for them all, each segment's closing record is made. -/
theorem failSegments_own (l : List (Fin 64)) {s : State} (hb : s.run.bypass = false) (hfill : s.link.fill + 3 * l.length ≤ 3584) :
    ∃ more, (forEach l failSegment s).link.own = s.link.own ++ more ∧
      (forEach l failSegment s).link.fill ≤ s.link.fill + 3 * l.length ∧
      ∀ i ∈ l, ∀ g, s.capture.segments[i] = some g → .trace (closingTrace s.run.address i g false true) ∈ more := by
  induction l generalizing s with
  | nil => exact ⟨[], (List.append_nil _).symm, Nat.le_refl _, nofun⟩
  | cons b l ih =>
    rw [List.length_cons] at hfill
    rw [forEach_cons]
    have hstep := failSegment_steady b s
    obtain ⟨one, hone, hsmall, hmem⟩ : ∃ one, (failSegment b s).link.own = s.link.own ++ one ∧
        (failSegment b s).link.fill ≤ s.link.fill + 3 ∧
        ∀ g, s.capture.segments[b] = some g → .trace (closingTrace s.run.address b g false true) ∈ one := by
      cases hg : s.capture.segments[b] with
      | none =>
        rw [failSegment_none hg]
        exact ⟨[], (List.append_nil _).symm, Nat.le_add_right _ _, nofun⟩
      | some g =>
        obtain ⟨hown, hroom⟩ := offer_trace_link (r := closingTrace s.run.address b g false true) hb (by omega)
        rw [failSegment_some hg, endSegment_link]
        exact ⟨_, hown, hroom.le, fun g' hg' => by rw [Option.some.inj hg']; exact List.mem_cons_self⟩
    obtain ⟨more, hown, hroom, hrest⟩ := ih (s := failSegment b s) (by rw [hstep.run]; exact hb) (by omega)
    rw [hstep.run] at hrest
    refine ⟨one ++ more, by rw [hown, hone, List.append_assoc], by rw [List.length_cons]; omega, fun i hi g hg => ?_⟩
    by_cases hib : i = b
    · subst hib
      exact List.mem_append_left _ (hmem g hg)
    · exact List.mem_append_right _ (hrest i ((List.mem_cons.1 hi).resolve_left hib) g
        (by rw [failSegment_segment, if_neg hib, hg]))

end

/-! ## The port fails (R135) -/

/-- The CAPTURE notice of a port that fails. -/
def captureNotice (s : State) (k : AccessKind) (o : AccessOutcome) : Record :=
  .notice { part := s.run.address, tick := s.timebase.counter, body := .capture k o s.held }

/-- The state in which a failing port has made its CAPTURE notice. -/
def failNoticed (k : AccessKind) (o : AccessOutcome) (s : State) : State :=
  notify (.capture k o s.held) (s.setCapture { s.capture with port := .failed, queue := [] })

section
variable {k : AccessKind} {o : AccessOutcome} {s : State}

theorem failPort_eq (k : AccessKind) (o : AccessOutcome) (s : State) :
    failPort k o s = endDump true (forEach allSegments failSegment (failNoticed k o s)) := by
  have hheld : 64 - (s.setCapture { s.capture with port := .failed, queue := [] }).capture.free = s.held := held_eq s
  unfold failPort failNoticed
  dsimp only
  rw [hheld]

theorem failNoticed_capture (k : AccessKind) (o : AccessOutcome) (s : State) :
    (failNoticed k o s).capture = { s.capture with port := .failed, queue := [] } := notify_capture _ _

theorem failNoticed_steady (k : AccessKind) (o : AccessOutcome) (s : State) : Steady s (failNoticed k o s) := by
  have hfailed : Steady s (s.setCapture { s.capture with port := .failed, queue := [] }) := { Steady.refl s with }
  exact hfailed.trans (notify_steady _ _)

theorem endDump_steady (stopped : Bool) (s : State) : Steady s (endDump stopped s) :=
  endDump_keeps (steady_tests s).toKeepsBlocks _ _ (.refl s)

theorem failNoticed_own (hb : s.run.bypass = false) (hfill : s.link.fill + 2 ≤ 4096) :
    (failNoticed k o s).link.own = s.link.own ++ [captureNotice s k o] ∧ (failNoticed k o s).link.fill = s.link.fill + 2 := by
  have hown : (failNoticed k o s).link.own = s.link.own ++ [captureNotice s k o] :=
    notify_own (s := s.setCapture { s.capture with port := .failed, queue := [] }) hb hfill
  refine ⟨hown, ?_⟩
  show ((failNoticed k o s).link.own.map Record.units).sum = _
  rw [hown, List.map_append, List.sum_append]
  rfl

/-- What a failed port leaves of the capture unit. -/
theorem failPort_capture (ha : s.capture.access = none) :
    let t := failPort k o s
    t.capture = { s.capture with port := .failed, queue := [], dump := none, segments := t.capture.segments } ∧
      ∀ i : Fin 64, t.capture.segments[i] = none := by
  intro t
  have hnoticed := failNoticed_capture k o s
  have ht : t = endDump true (forEach allSegments failSegment (failNoticed k o s)) := failPort_eq k o s
  obtain ⟨-, hsame⟩ := failSegments_capture allSegments (failNoticed k o s) (by rw [hnoticed]; exact ha)
  have hnone := failSegments_none (failNoticed k o s)
  generalize forEach allSegments failSegment (failNoticed k o s) = u at ht hsame hnone
  rw [hnoticed] at hsame
  have hdump : t.capture = { u.capture with dump := none } := by
    rw [ht]
    cases hd : u.capture.dump with
    | none =>
      unfold endDump
      rw [hd]
      exact congrArg (fun d => { u.capture with dump := d }) hd
    | some d => exact endDump_capture hd true
  have hsegments : t.capture.segments = u.capture.segments := (congrArg Capture.segments hdump :)
  refine ⟨?_, fun i => by rw [hsegments, hnone]⟩
  rw [hsegments, hdump]
  exact congrArg (fun w : Capture => { w with dump := none }) hsame

/-- The records that a failing port makes. -/
theorem failPort_own (ha : s.capture.access = none) (hb : s.run.bypass = false) (hfill : s.link.fill + 2 ≤ 3584) :
    ∃ more, (failPort k o s).link.own = s.link.own ++ captureNotice s k o :: more ∧
      (s.link.fill + 2 + 3 * 64 ≤ 3584 →
        (∀ i g, s.capture.segments[i] = some g → .trace (closingTrace s.run.address i g false true) ∈ more) ∧
        ∀ d, s.capture.dump = some d → more.getLast? = some (dumpNotice s d true)) := by
  have hsteady := failNoticed_steady k o s
  have hcapture := failNoticed_capture k o s
  obtain ⟨hown, hroom⟩ := failNoticed_own (k := k) (o := o) hb (by omega)
  rw [failPort_eq]
  generalize failNoticed k o s = u at hsteady hcapture hown hroom ⊢
  have hlen : allSegments.length = 64 := List.length_finRange
  have hall : ∀ i, i ∈ allSegments := List.mem_finRange
  generalize allSegments = l at hlen hall ⊢
  by_cases hspace : s.link.fill + 2 + 3 * 64 ≤ 3584
  · have hbu : u.run.bypass = false := by rw [hsteady.run]; exact hb
    obtain ⟨closings, hclosed, hsmall, hmem⟩ := failSegments_own l (s := u) hbu (by rw [hlen]; omega)
    have hkept := hsteady.trans (failSegments_steady l u)
    obtain ⟨-, hsame⟩ := failSegments_capture l u (by rw [hcapture]; exact ha)
    have hclosings : ∀ i g, s.capture.segments[i] = some g →
        .trace (closingTrace s.run.address i g false true) ∈ closings := fun i g hg => by
      rw [← hsteady.run]
      exact hmem i (hall i) g (by rw [hcapture]; exact hg)
    generalize forEach l failSegment u = v at hclosed hsmall hkept hsame ⊢
    have hdump : v.capture.dump = s.capture.dump := by rw [hsame, hcapture]
    have hv : v.link.own = s.link.own ++ captureNotice s k o :: closings := by
      rw [hclosed, hown, List.append_assoc]
      rfl
    cases hd : s.capture.dump with
    | none =>
      have hend : endDump true v = v := by
        unfold endDump
        rw [hdump, hd]
      rw [hend]
      exact ⟨closings, hv, fun _ => ⟨hclosings, nofun⟩⟩
    | some d =>
      have hnotice : dumpNotice v d true = dumpNotice s d true := by
        unfold dumpNotice
        rw [hkept.run, hkept.timebase]
      refine ⟨closings ++ [dumpNotice s d true], ?_, fun _ => ⟨fun i g hg => List.mem_append_left _ (hclosings i g hg), fun d' hd' => ?_⟩⟩
      · rw [endDump_own (hdump.trans hd) (by rw [hkept.run]; exact hb) (by omega), hv, hnotice, List.append_assoc]
        rfl
      · rw [← Option.some.inj hd', List.getLast?_concat]
  · obtain ⟨more, hmore⟩ := ((failSegments_steady l u).trans (endDump_steady true _)).own_more ⟨[], hown⟩
    exact ⟨more, hmore, fun h => absurd h hspace⟩

end

/-! ## An access that ends without the line (R133, R135) -/

theorem endIfRead_port (i : Fin 64) (s : State) :
    (endIfRead i s).capture.failures = s.capture.failures ∧ (endIfRead i s).capture.port = s.capture.port := by
  unfold endIfRead
  split
  · exact ⟨rfl, rfl⟩
  · split
    · rw [endSegment_capture]
      exact ⟨rfl, rfl⟩
    · exact ⟨rfl, rfl⟩

theorem endDumpIfDone_port (s : State) :
    (endDumpIfDone s).capture.failures = s.capture.failures ∧ (endDumpIfDone s).capture.port = s.capture.port := by
  unfold endDumpIfDone
  split
  · exact ⟨rfl, rfl⟩
  · next d hd =>
    split
    · rw [endDump_capture hd]
      exact ⟨rfl, rfl⟩
    · exact ⟨rfl, rfl⟩

theorem endsAfter_port (op : AccessOp) (s : State) :
    (endsAfter op s).capture.failures = s.capture.failures ∧ (endsAfter op s).capture.port = s.capture.port := by
  cases op with
  | write w => exact ⟨rfl, rfl⟩
  | readout i off line live =>
    cases live
    · exact ⟨rfl, rfl⟩
    · exact endIfRead_port i s
  | dump line live =>
    cases live
    · exact ⟨rfl, rfl⟩
    · exact endDumpIfDone_port s

section
variable {x : Access} {o : AccessOutcome} {s : State}

theorem settleCapture_port (s : State) : (settleCapture s).capture.port = s.capture.port := by
  unfold settleCapture
  rw [beginWrite_capture, selectReadout_capture]

/-- The fourth access in a row to end without its line fails the port. -/
theorem endAccess_fails (ho : o.good = false) (hp : s.capture.port = .ready) (hf : 3 ≤ s.capture.failures) :
    endAccess o x s = failPort x.op.kind o (finishOp x.op o s) := by
  obtain ⟨haccess, hfailures, hport⟩ := finishOp_port x.op o s
  obtain ⟨hcapture, hnone⟩ := failPort_capture (k := x.op.kind) (o := o) haccess
  have hfour : (finishOp x.op o s).capture.port = .ready ∧ 4 ≤ (finishOp x.op o s).capture.failures := by
    rw [hport, hfailures, ho]
    exact ⟨hp, Nat.succ_le_succ hf⟩
  have hwaits := beginWrite_waits (s := failPort x.op.kind o (finishOp x.op o s)) (.inr (.inl (by rw [hcapture])))
  unfold endAccess
  dsimp only
  rw [if_pos hfour, selectReadout_free hnone, hwaits]

/-- What a failed port leaves of the capture unit and the counts. -/
theorem endAccess_failed (ho : o.good = false) (hp : s.capture.port = .ready) (hf : 3 ≤ s.capture.failures) :
    let t := endAccess o x s
    t.capture.port = .failed ∧ t.capture.queue = [] ∧ t.capture.access = none ∧ t.capture.dump = none ∧
      (∀ i : Fin 64, t.capture.segments[i] = none) ∧ t.capture.failures = s.capture.failures + 1 ∧
      t.link.counts.fault = min 65535 (s.link.counts.fault + 1) := by
  intro t
  obtain ⟨haccess, hfailures, -⟩ := finishOp_port x.op o s
  rw [ho] at hfailures
  obtain ⟨hcapture, hnone⟩ := failPort_capture (k := x.op.kind) (o := o) haccess
  have hfaults : (failPort x.op.kind o (finishOp x.op o s)).faults = min 65535 (s.faults + 1) := by
    rw [failPort_faults, finishOp_faults _ ho]
  have ht : t = failPort x.op.kind o (finishOp x.op o s) := endAccess_fails ho hp hf
  rw [← ht] at hcapture hnone hfaults
  refine ⟨?_, ?_, ?_, ?_, hnone, ?_, hfaults⟩
  · rw [hcapture]
  · rw [hcapture]
  · rw [hcapture]
    exact haccess
  · rw [hcapture]
  · rw [hcapture]
    exact hfailures

/-- An access that ends without its line, but is not the fourth in a row to do so. -/
theorem endAccess_missed (ho : o.good = false) (hp : s.capture.port = .ready) (hf : s.capture.failures < 3) :
    let t := endAccess o x s
    t.capture.failures = s.capture.failures + 1 ∧ t.link.counts.fault = min 65535 (s.link.counts.fault + 1) ∧
      t.capture.port = .ready := by
  intro t
  obtain ⟨-, hfailures, hport⟩ := finishOp_port x.op o s
  rw [ho] at hfailures
  have ht : t = settleCapture (endsAfter x.op (finishOp x.op o s)) := endAccess_unfailed (by rw [hfailures]; exact Nat.succ_lt_succ hf)
  obtain ⟨hkept, hready⟩ := endsAfter_port x.op (finishOp x.op o s)
  rw [ht, settleCapture_failures, settleCapture_port, hkept, hready, hfailures, hport]
  refine ⟨rfl, ?_, hp⟩
  exact (settleCapture_faults _).trans ((endsAfter_faults _ _).trans (finishOp_faults _ ho))

theorem exec_timeout_eq (hr : s.running = true) (hx : s.capture.access = some x)
    (hlate : x.started + 16 ≤ s.timebase.uptime) : exec .timeout s = .next (endAccess .timeout x s) := by
  have hends : accessTimesOut s = endAccess .timeout x s := by
    unfold accessTimesOut
    rw [hx]
    exact if_pos hlate
  exact congrArg Host.Outcome.next ((whileRunning_of_running hr _).trans hends)

theorem timeoutEnds (hr : s.running = true) (hx : s.capture.access = some x) (hp : s.capture.port = .ready)
    (hlate : x.started + 16 ≤ s.timebase.uptime) :
    ∃ t, exec .timeout s = .next t ∧ t.capture.failures = s.capture.failures + 1 ∧
      t.link.counts.fault = min 65535 (s.link.counts.fault + 1) ∧ (s.capture.failures < 3 → t.capture.port = .ready) ∧
      (3 ≤ s.capture.failures → t.capture.port = .failed ∧ t.capture.queue = [] ∧ t.capture.access = none ∧
        t.capture.dump = none ∧ ∀ i : Fin 64, t.capture.segments[i] = none) ∧
      t.lanes = s.lanes ∧ SameMeasuring s t ∧ SameSettings s t := by
  refine ⟨_, exec_timeout_eq hr hx hlate, ?_⟩
  have hkept := endAccess_settings .timeout x s
  rcases Nat.lt_or_ge s.capture.failures 3 with hfew | hfour
  · obtain ⟨hfailures, hfaults, hport⟩ := endAccess_missed (x := x) (o := .timeout) rfl hp hfew
    exact ⟨hfailures, hfaults, fun _ => hport, fun h => absurd hfew (Nat.not_lt.2 h), hkept⟩
  · obtain ⟨hport, hqueue, haccess, hdump, hnone, hfailures, hfaults⟩ := endAccess_failed (x := x) (o := .timeout) rfl hp hfour
    exact ⟨hfailures, hfaults, fun h => absurd h (Nat.not_lt.2 hfour), fun _ => ⟨hport, hqueue, haccess, hdump, hnone⟩, hkept⟩

/-- The work of an access neither reserves nor frees a segment. -/
theorem finishOp_held {op : AccessOp} (hb : s.run.bypass = false) : (finishOp op o s).held = s.held := by
  unfold State.held
  refine List.countP_congr fun i _ => ?_
  obtain ⟨f, -, hseg⟩ := finishOp_segment op o hb i
  rw [hseg]
  simp

/-- The instruction with which an access ends FAULT or unanswered carries out the end of the access. -/
theorem exec_access_ends {c : Instr} (hr : s.running = true) (hx : s.capture.access = some x)
    (hc : (o = .fault ∧ (c = match x.op with
        | .write _ => .ringWriteComplete .fault
        | .readout _ _ _ _ => .readoutReadComplete .fault
        | .dump _ _ => .dumpReadComplete .fault)) ∨
      (o = .timeout ∧ c = .timeout ∧ x.started + 16 ≤ s.timebase.uptime)) :
    o.good = false ∧ exec c s = .next (endAccess o x s) := by
  rcases hc with ⟨rfl, rfl⟩ | ⟨rfl, rfl, hlate⟩
  · refine ⟨rfl, ?_⟩
    cases hop : x.op with
    | write w => exact exec_ringWriteComplete_eq hr hx (by rw [hop]; rfl)
    | readout i off line live => exact exec_readoutReadComplete_eq hr hx (by rw [hop]; rfl)
    | dump line live => exact exec_dumpReadComplete_eq hr hx (by rw [hop]; rfl)
  · exact ⟨rfl, exec_timeout_eq hr hx hlate⟩

end

/-- Settles O50: what a ring write leaves, what a missing answer brings, and what the fourth failure in a row brings. -/
theorem writesAndTimeoutsEnd : Obligations.WritesAndTimeoutsEnd := by
  refine ⟨fun w n a s => writeEnds, fun x s => timeoutEnds, ?_⟩
  intro x c o s hr hb hx hp hf hc freed kind told
  obtain ⟨ho, hexec⟩ := exec_access_ends hr hx hc
  obtain ⟨hport, hqueue, haccess, hdump, hnone, hfailures, hfaults⟩ := endAccess_failed (x := x) (o := o) ho hp hf
  refine ⟨_, hexec, hport, hqueue, haccess, hdump, hnone, hfailures, hfaults, fun hfill => ?_, endAccess_settings o x s⟩
  have hsteady : Steady s (finishOp x.op o s) := finishOp_keeps (steady_tests s).toKeepsBlocks _ _ _ (.refl s)
  have hheld : (finishOp x.op o s).held = freed := finishOp_held hb
  have hkind : x.op.kind = kind := by
    show x.op.kind = match x.op with
      | .write _ => AccessKind.ringWrite
      | .readout _ _ _ _ => .readout
      | .dump _ _ => .dump
    cases x.op <;> rfl
  have htold : captureNotice (finishOp x.op o s) x.op.kind o = told := by
    unfold captureNotice
    rw [hheld, hkind, hsteady.run, hsteady.timebase]
  obtain ⟨first, hfirst, hroom, hwrite, hreadout, hdumped⟩ := finishOp_own x.op ho hb (by omega)
  obtain ⟨more, hmore, hends⟩ := failPort_own (k := x.op.kind) (o := o) (finishOp_port x.op o s).1
    (by rw [hsteady.run]; exact hb) (by omega)
  rw [hsteady.run] at hends
  rw [endAccess_fails ho hp hf]
  refine ⟨first, more, by rw [hmore, hfirst, htold], hwrite, hreadout, hdumped, fun hspace => ?_⟩
  obtain ⟨hclosings, hstopped⟩ := hends (by omega)
  refine ⟨fun i g hg => ?_, fun d hd => ?_⟩
  · obtain ⟨f, hworked, hseg⟩ := finishOp_segment x.op o hb i
    obtain ⟨hsensor, harrival, hcut⟩ := hworked g
    have hmem := hclosings i (f g) (by rw [hseg, hg]; rfl)
    refine ⟨(f g).cut, ?_, hcut⟩
    rw [← hsensor, ← harrival]
    exact hmem
  · obtain ⟨f, hf', hd'⟩ := finishOp_dump x.op o s
    have hlast := hstopped (f d) (by rw [hd', hd]; rfl)
    unfold dumpNotice at hlast
    rw [hsteady.run, hsteady.timebase] at hlast
    exact ⟨(f d).sent, (f d).damaged, hlast, fun hw => by rw [hf' hw]; exact ⟨rfl, rfl⟩⟩

end Sys2Proof.Machine
end

section
/-! The end of a test (R154 to R157). -/

namespace Sys2Proof.Machine

/-! ## The DONE condition (R154) -/

theorem inWindow_iff (f : Tick) (w : Nat) (a : Tick) : inWindow f w a = true ↔ (a - f).toNat < w := decide_eq_true_iff

theorem testOver_iff (d : Detector) (f : Tick) (w : Nat) : d.testOver f w = true ↔ (d.state ≠ .off →
    (∃ x, d.horizon = some x ∧ atOrAfter x (f + BitVec.ofNat 48 (w - 1)) = true) ∧
      ∀ o, d.state = .opened o → w ≤ (o.arrival - f).toNat) := by
  unfold Detector.testOver
  by_cases hlive : d.live = true
  · rw [if_pos hlive, Bool.and_eq_true]
    refine Iff.trans (and_congr ?_ ?_) (imp_iff_right ((live_iff d).1 hlive)).symm
    · cases d.horizon with
      | none => simp
      | some x => simp [tickAdd]
    · cases d.state with
      | opened o =>
        have hout : (!(inWindow f w o.arrival)) = true ↔ w ≤ (o.arrival - f).toNat := by
          rw [Bool.not_eq_true', ← Bool.not_eq_true, inWindow_iff, Nat.not_lt]
        exact hout.trans ⟨fun h o' ho => DetState.opened.inj ho ▸ h, fun h => h o rfl⟩
      | off => simp
      | quiet => simp
      | rearm e => simp
  · rw [if_neg hlive]
    exact iff_of_true rfl fun h => absurd ((live_iff d).2 h) hlive

theorem testDone_iff (s : State) (f : Tick) (w : Nat) : testDone s f w = true ↔ ∀ c : Fin 32, s.detectors[c].state ≠ .off →
    (∃ x, s.detectors[c].horizon = some x ∧ atOrAfter x (f + BitVec.ofNat 48 (w - 1)) = true) ∧
      ∀ o, s.detectors[c].state = .opened o → w ≤ (o.arrival - f).toNat := by
  unfold testDone
  rw [List.all_eq_true]
  exact ⟨fun h c => (testOver_iff _ _ _).1 (h c (List.mem_finRange c)), fun h c _ => (testOver_iff _ _ _).2 (h c)⟩

section
variable {s : State} {i : TestInfo} {fire : Option Tick}

theorem doneTest_window {f : Tick} (h : s.pulse.test = .window i f) :
    doneTest s = if testDone s f i.window then endTest (presentWith .done) .made .done s else s := by
  unfold doneTest
  rw [h]

/-! ## The report (R156, R157) -/

theorem inFlight_test (h : InFlight s i fire) : s.pulse.test ≠ .none := by
  rcases h with ⟨f, h, -⟩ | ⟨n, h, -⟩ <;> rw [h] <;> exact nofun

theorem inFlight_congr {t : State} (hp : t.pulse.test = s.pulse.test) (h : InFlight s i fire) : InFlight t i fire := by
  unfold InFlight
  rw [hp]
  exact h

theorem concludeTest_eq (cause : EndCause) (h : InFlight s i fire) :
    concludeTest cause s = offer (.pulse (pulseRecord s i fire cause)) false (s.setPulse Pulse.reset) := by
  unfold concludeTest
  rcases h with ⟨f, h, rfl⟩ | ⟨n, h, rfl⟩ <;> rw [h]

theorem endTest_eq {pres : Presenter} {m : Tests} {cause : EndCause} (h : s.pulse.test ≠ .none) :
    let s1 := if s.listening then forEach allChannels (detectorOff pres .halt) s else s
    endTest pres m cause s = concludeTest cause (emptyHold pres m s1.pulse.hold.length s1) :=
  if_pos ((inFlight_iff _).2 h)

theorem endTest_heard {pres : Presenter} {m : Tests} {cause : EndCause} (h : s.pulse.test ≠ .none) (hidle : s.run.state ≠ .idle) :
    endTest pres m cause s = concludeTest cause (emptyHold pres m s.pulse.hold.length s) := by
  have hno : ¬ s.listening = true := fun hl => hidle ((listening_iff s).1 hl).2
  rw [endTest_eq h, if_neg hno]

end

/-! ## A listening test (R149, R156)

In IDLE every hit is discarded, so that nothing depends on how hits are presented. -/

/-- The presentation of a hit that is discarded. -/
def discardHit : Presenter := fun _ s => s

section
variable {pres : Presenter} {s : State}

theorem releaseHit_idle (h : s.run.state = .idle) (r : HitRecord) : releaseHit pres r s = s := by
  have hno : ¬ s.measuring = true := fun hm => by
    rcases (measuring_iff s).1 hm with hr | hr <;> exact nomatch h.symm.trans hr
  exact if_neg hno

theorem holdHit_idle (h : s.run.state = .idle) (r : HitRecord) : holdHit pres r s = holdHit discardHit r s := by
  unfold holdHit
  split
  · rfl
  · next x xs _ =>
    have hrun : (s.setPulse { s.pulse with hold := xs }).run.state = .idle := h
    rw [releaseHit_idle hrun, releaseHit_idle hrun]

theorem offerToTest_idle (h : s.run.state = .idle) (r : HitRecord) : offerToTest pres r s = offerToTest discardHit r s := by
  unfold offerToTest
  rw [holdHit_idle h]

/-- `g` does not read what the hand-off and the release of hits in IDLE change. -/
structure BlindIdle {β : Type} (g : State → β) : Prop where
  link : ∀ s x, g (s.setLink x) = g s
  capture : ∀ s x, g (s.setCapture x) = g s
  pulse : ∀ s x, x.test = s.pulse.test → g (s.setPulse x) = g s

variable {β : Type} {g : State → β}

theorem releaseHit_discard (r : HitRecord) (s : State) : releaseHit discardHit r s = s := ite_self s

theorem makeTest_idle (h : BlindIdle g) (f : Tick) (r : HitRecord) (s : State) : g (makeTest f r s) = g s := by
  unfold makeTest
  rw [offer_same ⟨h.link⟩]
  exact h.pulse _ _ rfl

theorem offerToTest_discard (h : BlindIdle g) (r : HitRecord) (s : State) : g (offerToTest discardHit r s).1 = g s := by
  unfold offerToTest holdHit
  split
  · rfl
  · split
    · rfl
    · split
      · rfl
      · split
        · rw [releaseHit_discard]
          exact h.pulse _ _ rfl
        · exact h.pulse _ _ rfl
  · split
    · exact makeTest_idle h _ _ _
    · rfl

theorem handOff_discard (h : BlindIdle g) (c : Fin 32) (r : HitRecord) (s : State) : g (handOff discardHit c r s) = g s := by
  have hseal : g (sealed c r s) = g s := sealed_same ⟨⟨h.link⟩, h.capture⟩ c r s
  rw [handOff_eq, releaseHit_discard, ite_self, offerToTest_discard h, hseal]

theorem detectorOff_discard (h : BlindIdle g) (hc : ∀ s x, g (s.setChannels x) = g s) {c : Fin 32}
    (hd : ∀ s x, g (s.setDetector c x) = g s) (k : CloseCause) (s : State) : g (detectorOff discardHit k c s) = g s := by
  have hoff : g (enterOff c s) = g s := by
    rw [enterOff_eq]
    exact (hc _ _).trans (hd _ _)
  cases hs : s.detectors[c].state with
  | off => rw [detectorOff_off _ hs]
  | quiet => rw [detectorOff_quiet _ (.inl hs), hoff]
  | rearm e => rw [detectorOff_quiet _ (.inr ⟨e, hs⟩), hoff]
  | opened o => rw [detectorOff_opened _ hs, handOff_discard h, hoff]

theorem handOff_idle (h : s.run.state = .idle) (c : Fin 32) (r : HitRecord) : handOff pres c r s = handOff discardHit c r s := by
  have hseal : (sealed c r s).run.state = .idle :=
    (sealed_same (g := fun t => t.run.state) ⟨⟨fun _ _ => rfl⟩, fun _ _ => rfl⟩ c r s).trans h
  rw [handOff_offered, handOff_offered, offerToTest_idle hseal, releaseHit_idle hseal, releaseHit_idle hseal]

theorem detectorOff_idle (h : s.run.state = .idle) (k : CloseCause) (c : Fin 32) :
    detectorOff pres k c s = detectorOff discardHit k c s := by
  cases hs : s.detectors[c].state with
  | off => rw [detectorOff_off _ hs, detectorOff_off _ hs]
  | quiet => rw [detectorOff_quiet _ (.inl hs), detectorOff_quiet _ (.inl hs)]
  | rearm e => rw [detectorOff_quiet _ (.inr ⟨e, hs⟩), detectorOff_quiet _ (.inr ⟨e, hs⟩)]
  | opened o =>
    have hoff : (enterOff c s).run.state = .idle := by
      rw [enterOff_eq]
      exact h
    rw [detectorOff_opened _ hs, detectorOff_opened _ hs, handOff_idle hoff]

/-- In IDLE the detectors are put in OFF without a presentation. -/
theorem allOff_idle (h : s.run.state = .idle) (k : CloseCause) (l : List (Fin 32)) :
    forEach l (detectorOff pres k) s = forEach l (detectorOff discardHit k) s := by
  induction l generalizing s with
  | nil => rfl
  | cons c l ih =>
    have hnext : (detectorOff discardHit k c s).run.state = .idle :=
      (detectorOff_discard (g := fun t => t.run.state) ⟨fun _ _ => rfl, fun _ _ => rfl, fun _ _ _ => rfl⟩ (fun _ _ => rfl)
        (fun _ _ => rfl) k s).trans h
    rw [forEach_cons, forEach_cons, detectorOff_idle h, ih hnext]

theorem allOff_discard (h : BlindIdle g) (hc : ∀ s x, g (s.setChannels x) = g s) (hd : ∀ c s x, g (s.setDetector c x) = g s)
    (k : CloseCause) (l : List (Fin 32)) (s : State) : g (forEach l (detectorOff discardHit k) s) = g s :=
  forEach_same g l _ (fun c t => detectorOff_discard h hc (hd c) k t) s

theorem detectorOff_discard_off (k : CloseCause) (c : Fin 32) (s : State) :
    (detectorOff discardHit k c s).detectors[c].state = .off :=
  (congrArg Detector.state (detectorOff_detector k fun _ _ ht => ht)).trans (Detector.departed_off _)

/-- Every detector of the list is OFF at the end. -/
theorem allOff_off (k : CloseCause) (l : List (Fin 32)) (s : State) :
    ∀ c ∈ l, (forEach l (detectorOff discardHit k) s).detectors[c].state = .off := by
  refine forEach_establishes (Q := fun c t => t.detectors[c].state = .off) (fun c t => detectorOff_discard_off k c t)
    (fun c b t hc => ?_) l s
  by_cases hcb : c = b
  · subst hcb
    exact detectorOff_discard_off k c t
  · refine (detectorOff_discard (g := fun t => t.detectors[c].state) ⟨fun _ _ => rfl, fun _ _ => rfl, fun _ _ _ => rfl⟩
      (fun _ _ => rfl) (fun t x => ?_) k t).trans hc
    exact congrArg Detector.state ((State.setDetector_get _ _ _ _).trans (if_neg hcb))

/-! ## The hold list in IDLE with no group open -/

theorem groupTest_none (h : s.grouping.groups = []) (m : Tests) : groupTest m s = s := by
  cases m with
  | withheld => rfl
  | made =>
    show closeTest s = s
    rw [closeTest_eq, h]
    rfl

theorem decideHeld_idle (hg : BlindIdle g) (h : s.run.state = .idle) (r : HitRecord) : g (decideHeld pres r s) = g s := by
  unfold decideHeld
  split
  · rw [releaseHit_idle h]
  · rw [releaseHit_idle h]
  · split
    · exact makeTest_idle hg _ _ _
    · rw [releaseHit_idle h]

/-- In IDLE, with no group open, the hold list is emptied without any effect on hits and groups. -/
theorem emptyHold_idle (hg : BlindIdle g) (m : Tests) (n : Nat) (h : s.run.state = .idle) (hgroups : s.grouping.groups = []) :
    g (emptyHold pres m n s) = g s := by
  induction n generalizing s with
  | zero => rfl
  | succ n ih =>
    unfold emptyHold
    split
    · rfl
    · next r rs _ =>
      have hu : (s.setPulse { s.pulse with hold := rs }).run.state = .idle := h
      have hidle : (decideHeld pres r (s.setPulse { s.pulse with hold := rs })).run.state = .idle :=
        (decideHeld_idle (g := fun t => t.run.state) ⟨fun _ _ => rfl, fun _ _ => rfl, fun _ _ _ => rfl⟩ hu r).trans h
      have hnone : (decideHeld pres r (s.setPulse { s.pulse with hold := rs })).grouping.groups = [] :=
        (decideHeld_idle (g := fun t => t.grouping.groups) ⟨fun _ _ => rfl, fun _ _ => rfl, fun _ _ _ => rfl⟩ hu r).trans hgroups
      rw [groupTest_none hnone, ih hidle hnone, decideHeld_idle hg hu]
      exact hg.pulse _ _ rfl

/-- The end of a listening test: the detectors are OFF, and then the test is reported. -/
theorem endTest_listening {m : Tests} {cause : EndCause} {i : TestInfo} {fire : Option Tick} (ht : InFlight s i fire)
    (hidle : s.run.state = .idle) (hgroups : s.grouping.groups = []) :
    ∃ u, InFlight u i fire ∧ endTest pres m cause s = concludeTest cause u ∧ (∀ c : Fin 32, u.detectors[c].state = .off) ∧
      u.run = s.run ∧ u.tracker = s.tracker ∧ u.grouping = s.grouping ∧ u.lanes = s.lanes := by
  have hlistening : s.listening = true := (listening_iff s).2 ⟨inFlight_test ht, hidle⟩
  have hoff := allOff_off .halt allChannels s
  have hall : ∀ {β : Type} {f : State → β}, BlindIdle f → (∀ s x, f (s.setChannels x) = f s) →
      (∀ c s x, f (s.setDetector c x) = f s) → f (forEach allChannels (detectorOff discardHit .halt) s) = f s :=
    fun hf hc hd => allOff_discard hf hc hd _ _ _
  have htest := hall (f := fun t => t.pulse.test) ⟨fun _ _ => rfl, fun _ _ => rfl, fun _ _ h => h⟩ (fun _ _ => rfl) fun _ _ _ => rfl
  have hrun := hall (f := State.run) ⟨fun _ _ => rfl, fun _ _ => rfl, fun _ _ _ => rfl⟩ (fun _ _ => rfl) fun _ _ _ => rfl
  have htracker := hall (f := State.tracker) ⟨fun _ _ => rfl, fun _ _ => rfl, fun _ _ _ => rfl⟩ (fun _ _ => rfl) fun _ _ _ => rfl
  have hgrouping := hall (f := State.grouping) ⟨fun _ _ => rfl, fun _ _ => rfl, fun _ _ _ => rfl⟩ (fun _ _ => rfl) fun _ _ _ => rfl
  have hlanes := hall (f := State.lanes) ⟨fun _ _ => rfl, fun _ _ => rfl, fun _ _ _ => rfl⟩ (fun _ _ => rfl) fun _ _ _ => rfl
  have hend : endTest pres m cause s = _ := endTest_eq (inFlight_test ht)
  rw [if_pos hlistening, allOff_idle hidle] at hend
  generalize forEach allChannels (detectorOff discardHit .halt) s = v at hend hoff htest hrun htracker hgrouping hlanes
  have hempty : ∀ {β : Type} {f : State → β}, BlindIdle f → f (emptyHold pres m v.pulse.hold.length v) = f v :=
    fun hf => emptyHold_idle hf _ _ (by rw [hrun]; exact hidle) (by rw [hgrouping]; exact hgroups)
  refine ⟨_, inFlight_congr ?_ ht, hend, fun c => ?_, ?_, ?_, ?_, ?_⟩
  · exact (hempty (f := fun t => t.pulse.test) ⟨fun _ _ => rfl, fun _ _ => rfl, fun _ _ h => h⟩).trans htest
  · exact (hempty (f := fun t => t.detectors[c].state) ⟨fun _ _ => rfl, fun _ _ => rfl, fun _ _ _ => rfl⟩).trans
      (hoff c (List.mem_finRange c))
  · exact (hempty (f := State.run) ⟨fun _ _ => rfl, fun _ _ => rfl, fun _ _ _ => rfl⟩).trans hrun
  · exact (hempty (f := State.tracker) ⟨fun _ _ => rfl, fun _ _ => rfl, fun _ _ _ => rfl⟩).trans htracker
  · exact (hempty (f := State.grouping) ⟨fun _ _ => rfl, fun _ _ => rfl, fun _ _ _ => rfl⟩).trans hgrouping
  · exact (hempty (f := State.lanes) ⟨fun _ _ => rfl, fun _ _ => rfl, fun _ _ _ => rfl⟩).trans hlanes

end

end Sys2Proof.Machine
end

section
/-! What a test that ends leaves of the pulse test unit, and the tests' obligations (R150 to R157). -/

namespace Sys2Proof.Machine

/-! ## An empty unit -/

/-- With no test in flight the pulse test unit is empty. -/
def Settled (s : State) : Prop := s.pulse.test = .none → s.pulse = Pulse.reset

/-- The presentation of a hit leaves the pulse test unit alone, or empties it by a declaration. -/
def PresentsSettled (pres : Presenter) : Prop :=
  ∀ r s, Settled s → (pres r s).pulse = s.pulse ∨ (pres r s).pulse = Pulse.reset

section
variable {pres : Presenter} {s t : State}

theorem Settled.of_same (h : Settled s) (hp : t.pulse = s.pulse) : Settled t := by
  unfold Settled
  rw [hp]
  exact h

theorem Settled.of_reset (hp : s.pulse = Pulse.reset) : Settled s := fun _ => hp

theorem Settled.of_kept (h : Settled s) (hp : t.pulse = s.pulse ∨ t.pulse = Pulse.reset) : Settled t :=
  hp.elim h.of_same .of_reset

theorem settled_of_inFlight (h : s.pulse.test ≠ .none) : Settled s := fun hn => absurd hn h

theorem releaseHit_pulse (hp : PresentsSettled pres) (r : HitRecord) (hs : Settled s) :
    (releaseHit pres r s).pulse = s.pulse ∨ (releaseHit pres r s).pulse = Pulse.reset := by
  unfold releaseHit
  split
  · exact hp r s hs
  · exact .inl rfl

theorem makeTest_pulse (f : Tick) (r : HitRecord) (s : State) : (makeTest f r s).pulse =
    { s.pulse with results := recordResult s.pulse.results f r } := offer_same (g := State.pulse) ⟨fun _ _ => rfl⟩ _ _ _

theorem offerToTest_settled (hp : PresentsSettled pres) (r : HitRecord) (hs : Settled s) :
    Settled (offerToTest pres r s).1 := by
  unfold offerToTest holdHit
  split
  · exact hs
  · next i n hw =>
    have hset : ∀ l, Settled (s.setPulse { s.pulse with hold := l }) := fun l hn => nomatch hw.symm.trans hn
    split
    · exact hs
    · split
      · exact hs
      · split
        · exact (hset _).of_kept (releaseHit_pulse hp _ (hset _))
        · exact hset _
  · next i f hw =>
    split
    · refine settled_of_inFlight fun hn => ?_
      rw [makeTest_pulse] at hn
      exact nomatch hw.symm.trans hn
    · exact hs

theorem handOff_settled (hp : PresentsSettled pres) (c : Fin 32) (r : HitRecord) (hs : Settled s) :
    Settled (handOff pres c r s) := by
  have hseal : Settled (sealed c r s) := hs.of_same (sealed_same (g := State.pulse) ⟨⟨fun _ _ => rfl⟩, fun _ _ => rfl⟩ c r s)
  rw [handOff_offered]
  split
  · exact hseal.of_kept (releaseHit_pulse hp _ hseal)
  · exact offerToTest_settled hp _ hseal

theorem enterOff_pulse (c : Fin 32) (s : State) : (enterOff c s).pulse = s.pulse := by
  rw [enterOff_eq]
  rfl

theorem detectorOff_settled (hp : PresentsSettled pres) (k : CloseCause) (c : Fin 32) (hs : Settled s) :
    Settled (detectorOff pres k c s) := by
  have hoff : Settled (enterOff c s) := hs.of_same (enterOff_pulse c s)
  unfold detectorOff
  split
  · exact hs
  · exact hoff
  · exact hoff
  · exact handOff_settled hp _ _ hoff

theorem groupTest_pulse (m : Tests) (s : State) : (groupTest m s).pulse = s.pulse := by
  cases m with
  | made => exact closeTest_same ⟨⟨⟨fun _ _ => rfl⟩, fun _ _ => rfl⟩, fun _ _ => rfl⟩ s
  | withheld => rfl

/-! ## The hold list (R150, R156) -/

theorem decideHeld_pulse (hp : PresentsSettled pres) (r : HitRecord) (hs : Settled s) :
    Settled (decideHeld pres r s) ∧
      ((decideHeld pres r s).pulse.hold = s.pulse.hold ∨ (decideHeld pres r s).pulse.hold = []) := by
  have hrelease := releaseHit_pulse hp r hs
  have hkept : Settled (releaseHit pres r s) ∧
      ((releaseHit pres r s).pulse.hold = s.pulse.hold ∨ (releaseHit pres r s).pulse.hold = []) :=
    ⟨hs.of_kept hrelease, hrelease.imp (congrArg Pulse.hold) (congrArg Pulse.hold)⟩
  unfold decideHeld
  split
  · exact hkept
  · exact hkept
  · next i f hw =>
    split
    · refine ⟨settled_of_inFlight fun hn => ?_, .inl (congrArg Pulse.hold (makeTest_pulse f r s) :)⟩
      rw [makeTest_pulse] at hn
      exact nomatch hw.symm.trans hn
    · exact hkept

/-- The hold list is emptied; a unit whose test has ended meanwhile is empty. -/
theorem emptyHold_empties (hp : PresentsSettled pres) (m : Tests) (n : Nat) (hs : Settled s) (hn : s.pulse.hold.length ≤ n) :
    Settled (emptyHold pres m n s) ∧ (emptyHold pres m n s).pulse.hold = [] := by
  induction n generalizing s with
  | zero => exact ⟨hs, List.length_eq_zero_iff.1 (Nat.le_zero.1 hn)⟩
  | succ n ih =>
    unfold emptyHold
    split
    · next hl => exact ⟨hs, hl⟩
    · next r rs hl =>
      have hset : Settled (s.setPulse { s.pulse with hold := rs }) := settled_of_inFlight fun hnone => by
        rw [hs hnone] at hl
        exact nomatch hl
      obtain ⟨hsettled, hhold⟩ := decideHeld_pulse hp r hset
      refine ih (hsettled.of_same (groupTest_pulse m _)) ?_
      rw [groupTest_pulse]
      rw [hl, List.length_cons] at hn
      rcases hhold with hhold | hhold
      · rw [hhold]
        exact Nat.le_of_succ_le_succ hn
      · rw [hhold]
        exact Nat.zero_le _

theorem concludeTest_reset (k : EndCause) (hs : Settled s) : (concludeTest k s).pulse = Pulse.reset := by
  unfold concludeTest
  split
  · next hn => exact hs hn
  · exact offer_same (g := State.pulse) ⟨fun _ _ => rfl⟩ _ _ _
  · exact offer_same (g := State.pulse) ⟨fun _ _ => rfl⟩ _ _ _

/-- A test's end leaves the unit empty. -/
theorem endTest_reset (hp : PresentsSettled pres) (m : Tests) (k : EndCause) (hs : Settled s) :
    (endTest pres m k s).pulse = Pulse.reset := by
  by_cases hn : s.pulse.test = .none
  · rw [endTest_untested hn]
    exact hs hn
  · have hoff : Settled (if s.listening then forEach allChannels (detectorOff pres .halt) s else s) := by
      split
      · exact forEach_keeps Settled _ _ (fun c _ t ht => detectorOff_settled hp _ c ht) s hs
      · exact hs
    have hend : endTest pres m k s = _ := endTest_eq hn
    rw [hend]
    exact concludeTest_reset k (emptyHold_empties hp m _ hoff (Nat.le_refl _)).1

end

/-! ## Presentations and declarations -/

section
variable {s : State}

theorem presentQuietly_pulse (r : HitRecord) (s : State) : (presentQuietly r s).pulse = s.pulse :=
  (reportSaturation_same (fun _ _ => rfl) _ _).trans (placeHit_same (g := State.pulse) ⟨⟨⟨fun _ _ => rfl⟩, fun _ _ => rfl⟩, fun _ _ => rfl⟩ _ _)

theorem presentQuietly_settled : PresentsSettled presentQuietly := fun r s _ => .inl (presentQuietly_pulse r s)

/-- With no test in flight, a hit that closes as its detector goes OFF does not reach the pulse test unit. -/
theorem detectorOff_untested (k : CloseCause) (c : Fin 32) (h : s.pulse.test = .none) :
    (detectorOff presentQuietly k c s).pulse = s.pulse := by
  have hoff := enterOff_pulse c s
  unfold detectorOff
  split
  · rfl
  · exact hoff
  · exact hoff
  · rw [handOff_untested _ _ _ (by rw [hoff, h])]
    refine (releaseHit_same (g := State.pulse) presentQuietly_pulse _ _).trans ?_
    exact (sealed_same (g := State.pulse) ⟨⟨fun _ _ => rfl⟩, fun _ _ => rfl⟩ _ _ _).trans hoff

theorem tailBlocks_pulse (s : State) : (tailBlocks s).pulse = s.pulse := by
  unfold tailBlocks
  dsimp only
  rw [startDump_same (g := State.pulse) ⟨⟨fun _ _ => rfl⟩, fun _ _ => rfl⟩, notify_same (g := State.pulse) ⟨fun _ _ => rfl⟩,
    freeSegments_same (g := State.pulse) ⟨⟨fun _ _ => rfl⟩, fun _ _ => rfl⟩]
  rfl

theorem tailEnd_pulse (h : s.pulse.test = .none) : (tailEnd s).pulse = s.pulse := by
  have hoff : (forEach allChannels (detectorOff presentQuietly .halt) s).pulse = s.pulse :=
    forEach_keeps (fun t => t.pulse = s.pulse) _ _ (fun c _ t ht => (detectorOff_untested .halt c (by rw [ht, h])).trans ht) s rfl
  have hhits : (tailHits s).pulse = s.pulse :=
    (haltGroups_same ⟨⟨⟨fun _ _ => rfl⟩, fun _ _ => rfl⟩, fun _ _ => rfl⟩ _).trans hoff
  rw [tailEnd_eq, tailBlocks_pulse]
  exact hhits

theorem startTail_pulse (b : Tick) (h : s.pulse.test = .none) : (startTail b s).pulse = s.pulse := by
  unfold startTail
  dsimp only
  split
  · exact tailEnd_pulse (s := s.setRun { s.run with tailExpiry := some (tickAdd b s.run.tailSpan) }) h
  · rfl

theorem declareBurst_pulse (e : EndCause) (k : BurstCause) (hs : Settled s) :
    (declareBurst e k s).pulse = s.pulse ∨ (declareBurst e k s).pulse = Pulse.reset := by
  by_cases hr : s.run.state = .run
  · have hfirst : (declareFirst k s).pulse = s.pulse :=
      declareFirst_first ⟨fun _ _ => rfl, fun _ _ => rfl, fun _ _ => rfl, fun _ _ => rfl⟩ k s
    have hend := endTest_reset presentQuietly_settled (tailTests s) e (hs.of_same hfirst)
    rw [declareBurst_run hr]
    exact .inr ((startTail_pulse _ (congrArg Pulse.test hend)).trans hend)
  · rw [declareBurst, if_neg hr]
    exact .inl rfl

theorem presentWith_settled (e : EndCause) : PresentsSettled (presentWith e) := by
  intro r s hs
  have hquiet := presentQuietly_pulse r s
  unfold presentWith
  dsimp only
  split
  · rw [← hquiet]
    exact declareBurst_pulse _ _ (hs.of_same hquiet)
  · exact .inl hquiet

theorem present_settled : PresentsSettled present := presentWith_settled _

theorem doneTest_settled (hs : Settled s) : Settled (doneTest s) := by
  unfold doneTest
  repeat' split
  · exact hs
  · exact hs
  · exact .of_reset (endTest_reset (presentWith_settled _) _ _ hs)
  · exact hs

theorem offTests_settled (own : Bool) (hs : Settled s) : Settled (offTests own s) := by
  have hclose : Settled (closeTest s) := hs.of_same (groupTest_pulse .made s)
  unfold offTests
  split
  · exact hclose
  · exact doneTest_settled hclose

theorem channelLost_settled (own : Bool) (c : Fin 32) (hs : Settled s) : Settled (channelLost own c s) := by
  have hoff := detectorOff_settled present_settled .lost c hs
  have hlost := hoff.of_same (t := sealChannel c ((detectorOff present .lost c s).setDetector c
    { (detectorOff present .lost c s).detectors[c] with horizon := none }))
    (sealChannel_same (g := State.pulse) ⟨⟨fun _ _ => rfl⟩, fun _ _ => rfl⟩ _ _)
  unfold channelLost
  dsimp only
  split
  · exact offTests_settled own hlost
  · exact hlost

/-- The loss of the source lane leaves no test in flight. -/
theorem podLost_reset {l : Fin 4} (h : s.pulse.test.sourceLane = some l) : (podLost l s).pulse = Pulse.reset := by
  have hs : Settled s := settled_of_inFlight fun hn => by
    rw [hn] at h
    exact nomatch h
  rw [podLost_source h]
  exact endTest_reset (presentWith_settled _) _ _
    (forEach_keeps Settled _ _ (fun c _ t ht => channelLost_settled true c ht) s hs)

theorem sourceLane_inFlight {i : TestInfo} {fire : Option Tick} (h : InFlight s i fire) :
    s.pulse.test.sourceLane = some (laneOf i.channel) := by
  rcases h with ⟨f, h, -⟩ | ⟨n, h, -⟩ <;> rw [h] <;> rfl

theorem laneDown_pod {l : Fin 4} (k : LaneCause) (hup : s.lanes[l].state = .up) (hrole : s.lanes[l].role = .pod) :
    laneDown l k s = podLost l (notify (.lane l .up .down k) (s.setLane l { s.lanes[l].cleared with state := .down })) := by
  unfold laneDown laneLeft
  dsimp only
  rw [if_pos hup, hrole, hup]

/-- LOSS_OF_SIGNAL on the UP source lane of a test ends the test. -/
theorem lossOfSignal_reset {l : Fin 4} {i : TestInfo} {fire : Option Tick} (hr : s.running = true)
    (hup : s.lanes[l].state = .up) (hrole : s.lanes[l].role = .pod) (ht : InFlight s i fire) (hl : laneOf i.channel = l) :
    ∃ t, exec (.lossOfSignal l) s = .next t ∧ t.pulse = Pulse.reset := by
  have hexec : exec (.lossOfSignal l) s = .next (settleCapture (laneSignalLost l s)) := congrArg Host.Outcome.next (if_pos hr)
  have hlane := signalGone_lane (s := s) (l := l)
  have hdown := laneDown_pod .noSignal (s := s.signalGone l) (l := l) (by rw [hlane]; exact hup) (by rw [hlane]; exact hrole)
  refine ⟨_, hexec, ?_⟩
  rw [settleCapture_pulse, laneSignalLost_aligned (.inr hup), hdown]
  refine podLost_reset ?_
  rw [notify_same (g := fun t => t.pulse.test.sourceLane) ⟨fun _ _ => rfl⟩]
  exact (sourceLane_inFlight ht).trans (congrArg some hl)

end

/-- Settles O41. -/
theorem testEnds : Obligations.TestEnds := by
  refine ⟨?done, fun pres m cause s i fire ht hidle => endTest_heard (inFlight_test ht) hidle,
    fun cause s i fire => concludeTest_eq cause, ?listening, fun l s i fire hr hup hrole => lossOfSignal_reset hr hup hrole⟩
  case done =>
    intro s i f ht finished
    rw [doneTest_window ht]
    exact ⟨fun h => if_pos ((testDone_iff _ _ _).2 h), fun h => if_neg fun hd => h ((testDone_iff _ _ _).1 hd)⟩
  case listening =>
    intro pres m cause s i fire ht hidle hgroups
    obtain ⟨u, hu, hend, hoff, hrun, htracker, hgrouping, hlanes⟩ := endTest_listening (pres := pres) (m := m) (cause := cause)
      ht hidle hgroups
    exact ⟨u.setPulse Pulse.reset, pulseRecord u i fire cause, hend.trans (concludeTest_eq cause hu), rfl, rfl, rfl, rfl, rfl,
      rfl, rfl, hoff, hrun, htracker, hgrouping, hlanes⟩

end Sys2Proof.Machine
end

section
/-! The pulse test unit and the hits: held, made TEST or handed back, and the frames of the source lane (R150 to R153, R155). -/

namespace Sys2Proof.Machine

/-! ## A hit offered to the test (R150, R153) -/

section
variable {pres : Presenter} {h : HitRecord} {s : State} {i : TestInfo} {n : Nat} {f : Tick}

theorem offerToTest_early (ht : s.pulse.test = .waiting i n) (he : earlier h.arrival i.sendTick = true) :
    offerToTest pres h s = (s, true) := by
  unfold offerToTest
  rw [ht]
  exact if_pos he

theorem offerToTest_held (ht : s.pulse.test = .waiting i n) (he : earlier h.arrival i.sendTick = false) :
    offerToTest pres h s = (holdHit pres h s, false) := by
  unfold offerToTest
  rw [ht]
  exact if_neg (by rw [he]; exact nofun)

theorem holdHit_room (hn : s.pulse.hold.length < 64) :
    holdHit pres h s = s.setPulse { s.pulse with hold := insertHit h s.pulse.hold } := by
  have hlen := insertHit_length h s.pulse.hold
  unfold holdHit
  split
  · next he =>
    rw [he] at hlen
    exact nomatch hlen
  · next x xs he =>
    rw [he] at hlen ⊢
    exact if_neg (by omega)

/-- In a full hold list the earliest hit makes room (R150). -/
theorem holdHit_full {y : HitRecord} {ys : List HitRecord} (hn : s.pulse.hold.length = 64) (hl : insertHit h s.pulse.hold = y :: ys) :
    holdHit pres h s = releaseHit pres y (s.setPulse { s.pulse with hold := ys }) := by
  have hlen := insertHit_length h s.pulse.hold
  rw [hl] at hlen
  unfold holdHit
  rw [hl]
  exact if_pos (by omega)

theorem recordResult_eq (v : Vector (Option TestEntry) 32) (f : Tick) (h : HitRecord) : recordResult v f h =
    if v[h.sensor] = none then put v h.sensor (some { delay := (h.arrival - f).toNat, peak := h.peak }) else v := by
  unfold recordResult
  cases v[h.sensor] <;> rfl

theorem offerToTest_outside (ht : s.pulse.test = .window i f) (ho : i.window ≤ (h.arrival - f).toNat) :
    offerToTest pres h s = (s, true) := by
  unfold offerToTest
  rw [ht]
  exact if_neg fun hin => absurd ((inWindow_iff _ _ _).1 hin) (Nat.not_lt.2 ho)

theorem offerToTest_inside (ht : s.pulse.test = .window i f) (hin : (h.arrival - f).toNat < i.window) :
    offerToTest pres h s = (makeTest f h s, false) := by
  unfold offerToTest
  rw [ht]
  exact if_pos ((inWindow_iff _ _ _).2 hin)

end

/-! ## The hold list, one hit at a time (R152, R156) -/

section
variable {pres : Presenter} {h : HitRecord} {hs : List HitRecord} {s : State} {i : TestInfo} {fire : Option Tick}

theorem emptyHold_cons (m : Tests) (k : Nat) (hl : s.pulse.hold = h :: hs) : emptyHold pres m (k + 1) s =
    emptyHold pres m k (groupTest m (decideHeld pres h (s.setPulse { s.pulse with hold := hs }))) := by
  rw [emptyHold, hl]

theorem decideHeld_waiting {n : Nat} (ht : s.pulse.test = .waiting i n) : decideHeld pres h s = releaseHit pres h s := by
  unfold decideHeld
  rw [ht]

theorem decideHeld_window {f : Tick} (ht : s.pulse.test = .window i f) : decideHeld pres h s =
    if (h.arrival - f).toNat < i.window then (offerToTest pres h s).1 else releaseHit pres h s := by
  have hdecide : decideHeld pres h s = if inWindow f i.window h.arrival then makeTest f h s else releaseHit pres h s := by
    unfold decideHeld
    rw [ht]
  rw [hdecide]
  by_cases hin : (h.arrival - f).toNat < i.window
  · rw [if_pos hin, if_pos ((inWindow_iff _ _ _).2 hin), offerToTest_inside ht hin]
  · rw [if_neg hin, if_neg fun hw => hin ((inWindow_iff _ _ _).1 hw)]

end

/-! ## The frames of the source lane (R151, R155) -/

section
variable {i : TestInfo} {n : Nat} {l : Fin 4} {t : Tick} {s : State}

theorem doneTest_waiting (ht : s.pulse.test = .waiting i n) : doneTest s = s := by
  unfold doneTest
  rw [ht]

theorem unitTests_waiting (ht : s.pulse.test = .waiting i n) : unitTests s = closeTest s :=
  doneTest_waiting (by rw [closeTest_same (g := State.pulse) ⟨⟨⟨fun _ _ => rfl⟩, fun _ _ => rfl⟩, fun _ _ => rfl⟩]; exact ht)

/-- While the test waits, a slot leaves alone what neither the closing of groups, nor the capture unit, nor its detector changes. -/
theorem deliverSlot_waiting {β : Type} {g : State → β} (hg : BlindGroup g) (hc : ∀ s x, g (s.setCapture x) = g s)
    (hd : ∀ c s x, g (s.setDetector c x) = g s) (f : SampleFrame) (j : Fin 8) (ht : s.pulse.test = .waiting i n) :
    g (deliverSlot l t f j s) = g s := by
  have hring := ringLine_same (g := g) ⟨hg.toBlindLink, hc⟩ (channelOf l j) t (f.slot j) s
  have hkept := ringLine_same (g := State.pulse) ⟨⟨fun _ _ => rfl⟩, fun _ _ => rfl⟩ (channelOf l j) t (f.slot j) s
  unfold deliverSlot
  dsimp only
  split
  · rfl
  · rw [← hring]
    generalize ringLine (channelOf l j) t (f.slot j) s = u at hkept ⊢
    unfold deliverSamples frameDealt
    dsimp only
    split
    · split
      · rw [unitTests_waiting (by rw [← ht, ← hkept]; rfl), closeTest_same hg, hd]
      · exact hd _ _ _
    · exact hd _ _ _

theorem deliverSlots_waiting (f : SampleFrame) (l₀ : List (Fin 8)) (ht : s.pulse.test = .waiting i n) :
    (forEach l₀ (deliverSlot l t f) s).pulse = s.pulse ∧ (forEach l₀ (deliverSlot l t f) s).run = s.run ∧
      (forEach l₀ (deliverSlot l t f) s).tracker = s.tracker := by
  refine forEach_keeps (fun u => u.pulse = s.pulse ∧ u.run = s.run ∧ u.tracker = s.tracker) l₀ (deliverSlot l t f)
    (fun j _ u hu => ?_) s ⟨rfl, rfl, rfl⟩
  obtain ⟨hpulse, hrun, htracker⟩ := hu
  have hwait : u.pulse.test = .waiting i n := by rw [hpulse, ht]
  refine ⟨?_, ?_, ?_⟩
  · exact (deliverSlot_waiting (g := State.pulse) ⟨⟨⟨fun _ _ => rfl⟩, fun _ _ => rfl⟩, fun _ _ => rfl⟩ (fun _ _ => rfl)
      (fun _ _ _ => rfl) f j hwait).trans hpulse
  · exact (deliverSlot_waiting (g := State.run) ⟨⟨⟨fun _ _ => rfl⟩, fun _ _ => rfl⟩, fun _ _ => rfl⟩ (fun _ _ => rfl)
      (fun _ _ _ => rfl) f j hwait).trans hrun
  · exact (deliverSlot_waiting (g := State.tracker) ⟨⟨⟨fun _ _ => rfl⟩, fun _ _ => rfl⟩, fun _ _ => rfl⟩ (fun _ _ => rfl)
      (fun _ _ _ => rfl) f j hwait).trans htracker

theorem testFrame_other (k : Option Nat) (ht : s.pulse.test = .waiting i n) (hl : laneOf i.channel ≠ l) : testFrame l t k s = s := by
  unfold testFrame
  rw [ht]
  exact if_neg hl

theorem testFrame_counts {k : Option Nat} (ht : s.pulse.test = .waiting i n) (hl : laneOf i.channel = l)
    (hk : ∀ m, ¬ (k = some m ∧ atOrAfter (t + BitVec.ofNat 48 m) i.sendTick = true)) : testFrame l t k s = countFrame i n s := by
  unfold testFrame
  rw [ht]
  refine (if_pos hl).trans ?_
  cases k with
  | none => rfl
  | some m => exact if_neg fun hm => hk m ⟨rfl, hm⟩

theorem testFrame_fires {m : Nat} (ht : s.pulse.test = .waiting i n) (hl : laneOf i.channel = l)
    (hm : atOrAfter (t + BitVec.ofNat 48 m) i.sendTick = true) :
    testFrame l t (some m) s = enterWindow i (t + BitVec.ofNat 48 m) s := by
  unfold testFrame
  rw [ht]
  exact (if_pos hl).trans (if_pos hm)

theorem doneTest_hold (hs : Settled s) (hhold : s.pulse.hold = []) : (doneTest s).pulse.hold = [] := by
  unfold doneTest
  repeat' split
  · exact hhold
  · exact hhold
  · rw [endTest_reset (presentWith_settled _) _ _ hs]
    rfl
  · exact hhold

/-- A test that enters WINDOW holds no hit afterwards. -/
theorem enterWindow_hold (i : TestInfo) (fire : Tick) (s : State) : (enterWindow i fire s).pulse.hold = [] := by
  obtain ⟨hsettled, hhold⟩ := emptyHold_empties present_settled .made s.pulse.hold.length
    (s := s.setPulse { s.pulse with test := .window i fire }) (settled_of_inFlight nofun) (Nat.le_refl _)
  exact doneTest_hold hsettled hhold

/-- A sample frame on the lane while a test waits. -/
theorem sampleFrame_tested {frame : List Byte} {f : SampleFrame} (hr : s.running = true) (hup : s.lanes[l].state = .up)
    (hrole : s.lanes[l].role = .pod) (hf : readSampleFrame frame = some f) (hq : s.lanes[l].expSeq = some f.seq)
    (ht : s.pulse.test = .waiting i n) (hfed : ∀ j : Fin 8, s.detectors[channelOf l j].feed = none) :
    ∃ u, u.pulse = s.pulse ∧ u.run = s.run ∧ u.tracker = s.tracker ∧
      exec (.sampleFrame l frame) s = .next (settleCapture (testFrame l (stampNow s l) f.confirmation u)) := by
  have hread : readLaneFrame s.lanes[l].role frame = some (.sample f) := by
    rw [hrole]
    exact congrArg (Option.map LaneFrame.sample) hf
  have harrives : laneArrival l frame s = deliverFrame l (.sample f) s := by
    rw [laneArrival_up hup, upFrame_some hread, drainLane_pod hrole hfed]
    exact classifyFrame_ordered hq
  obtain ⟨hpulse, hrun, htracker⟩ := deliverSlots_waiting (l := l) (t := stampNow s l) (s := s.received l f) f (List.finRange 8) ht
  refine ⟨_, hpulse, hrun, htracker, ?_⟩
  rw [exec_sampleFrame_eq hr, harrives, deliverFrame_sample]

end

/-- Settles O40. -/
theorem testDecidesHits : Obligations.TestDecidesHits := by
  refine ⟨fun pres h s i n ht => ⟨offerToTest_early ht, fun he => ?waiting⟩,
    fun pres h s i f ht => ⟨offerToTest_outside ht, fun hin => ?window⟩, ?held, ?frame⟩
  case waiting =>
    refine ⟨_, insertHit_inserted h s.pulse.hold, fun hn => ?_, fun hn y ys hl => ?_⟩
    · rw [offerToTest_held ht he, holdHit_room hn]
    · intro u
      rw [offerToTest_held ht he, holdHit_full hn hl, releaseHit_eq]
      rfl
  case window =>
    rw [offerToTest_inside ht hin, makeTest, recordResult_eq]
  case held =>
    intro pres m h hs k s i fire ht hl u released decided
    have hdecided : decideHeld pres h u = decided := by
      rcases ht with ⟨f, ht, rfl⟩ | ⟨n, ht, rfl⟩
      · refine (decideHeld_window (s := u) ht).trans ?_
        rw [releaseHit_eq]
        rfl
      · exact (decideHeld_waiting (s := u) ht).trans (releaseHit_eq _ _ _)
    rw [emptyHold_cons m k hl]
    refine congrArg (emptyHold pres m k) ((congrArg (groupTest m) hdecided).trans ?_)
    cases m <;> rfl
  case frame =>
    intro l frame f s i n hr hup hrole hf hq ht hfed tick fires
    obtain ⟨u, hpulse, hrun, htracker, hexec⟩ := sampleFrame_tested hr hup hrole hf hq ht hfed
    have hwait : u.pulse.test = .waiting i n := by rw [hpulse, ht]
    refine ⟨u, _, hpulse, hrun, htracker, hexec, fun hl => testFrame_other _ hwait hl, fun hl hno => ?_, fun hl k hk => ?_⟩
    · exact testFrame_counts hwait hl hno
    · obtain ⟨hconfirmed, hlate⟩ := hk
      have hwindow : testFrame l (stampNow s l) f.confirmation u = enterWindow i (tick k) u := by
        rw [hconfirmed]
        exact testFrame_fires hwait hl hlate
      rw [hwindow]
      refine ⟨enterWindow_hold _ _ _, ?_⟩
      rw [← hpulse]
      rfl

end Sys2Proof.Machine
end

section
/-! What the effects of orders leave of the order intake and the answer queue (R179, R186). -/

namespace Sys2Proof.Machine

/-- The order intake and the answer queue are as they were. -/
structure KeepsQueues (s t : State) : Prop where
  answers : t.link.answers = s.link.answers
  intake : t.link.intake = s.link.intake

section
variable {s t u : State}

theorem KeepsQueues.refl (s : State) : KeepsQueues s s := ⟨rfl, rfl⟩

theorem KeepsQueues.trans (h : KeepsQueues s t) (h' : KeepsQueues t u) : KeepsQueues s u :=
  ⟨h'.answers.trans h.answers, h'.intake.trans h.intake⟩

theorem KeepsQueues.of_link (h : t.link = s.link) : KeepsQueues s t := ⟨by rw [h], by rw [h]⟩

/-- The works on hits, groups, cells and the capture unit only add to the record link. -/
theorem keepsQueues_tests (s : State) : KeepsTests (KeepsQueues s) :=
  { KeepsBlocks.toKeepsWork
      { tracker := fun _ _ _ h => ⟨h.answers, h.intake⟩
        groups := fun _ _ _ h => ⟨h.answers, h.intake⟩
        cells := fun _ _ _ h => ⟨h.answers, h.intake⟩
        capture := fun _ _ _ h => ⟨h.answers, h.intake⟩
        pulse := fun _ _ _ h => ⟨h.answers, h.intake⟩
        link := fun t x hx h => ⟨(by rw [hx.same] : x.answers = t.link.answers).trans h.answers,
          (by rw [hx.same] : x.intake = t.link.intake).trans h.intake⟩ }
      fun _ _ h => ⟨h.answers, h.intake⟩ with
    channels := fun _ _ h => ⟨h.answers, h.intake⟩
    off := fun _ _ _ h => ⟨h.answers, h.intake⟩ }

theorem keepsQueues_blocks (s : State) : KeepsBlocks (KeepsQueues s) := (keepsQueues_tests s).toKeepsBlocks

theorem notify_queues (x : NoticeBody) (s : State) : KeepsQueues s (notify x s) := notify_keeps (keepsQueues_blocks s) _ _ (.refl s)

theorem settleCapture_queues (s : State) : KeepsQueues s (settleCapture s) :=
  settleCapture_keeps (keepsQueues_blocks s) _ (.refl s)

/-! ## Declarations and the tests -/

theorem declaredFrom_queues (k : BurstCause) (s : State) : KeepsQueues s (declaredFrom k s) := by
  have hnotice := notify_queues (.burst k s.timebase.counter s.tracker.burstPressure s.tracker.pmax) (declareBlocks k s)
  have hlink := congrArg State.link (declareFirst_eq k s)
  rw [makeMark_link, State.setLink_link] at hlink
  exact ⟨(congrArg Link.answers hlink).trans hnotice.answers, (congrArg Link.intake hlink).trans hnotice.intake⟩

theorem declareBurst_queues (e : EndCause) (k : BurstCause) (s : State) : KeepsQueues s (declareBurst e k s) := by
  by_cases hr : s.run.state = .run
  · have hsteady := declareBurst_steady hr e k
    refine (declaredFrom_queues k s).trans ⟨?_, ?_⟩ <;> rw [hsteady.link]
  · rw [declareBurst, if_neg hr]
    exact .refl s

theorem presentWith_queues (e : EndCause) (r : HitRecord) (s : State) : KeepsQueues s (presentWith e r s) := by
  have hquiet := presentQuietly_keeps (keepsQueues_tests s).toKeepsWork r s (.refl s)
  unfold presentWith
  dsimp only
  split
  · exact hquiet.trans (declareBurst_queues _ _ _)
  · exact hquiet

theorem present_queues (r : HitRecord) (s : State) : KeepsQueues s (present r s) := presentWith_queues _ r s

theorem endTest_queues {pres : Presenter} (hp : ∀ r s, KeepsQueues s (pres r s)) (m : Tests) (k : EndCause) (s : State) :
    KeepsQueues s (endTest pres m k s) :=
  endTest_keeps (keepsQueues_tests s) (fun r t ht => ht.trans (hp r t)) m k s (.refl s)

theorem closeTest_queues (s : State) : KeepsQueues s (closeTest s) := closeTest_keeps (keepsQueues_blocks s) s (.refl s)

theorem doneTest_queues (s : State) : KeepsQueues s (doneTest s) := by
  unfold doneTest
  repeat' split
  · exact .refl s
  · exact .refl s
  · exact endTest_queues (presentWith_queues _) _ _ s
  · exact .refl s

theorem offTests_queues (own : Bool) (s : State) : KeepsQueues s (offTests own s) := by
  unfold offTests
  split
  · exact closeTest_queues s
  · exact (closeTest_queues s).trans (doneTest_queues _)

/-! ## SET-ROLE (R3 to R5) -/

theorem channelLost_queues (own : Bool) (c : Fin 32) (s : State) : KeepsQueues s (channelLost own c s) := by
  have hoff := detectorOff_keeps (keepsQueues_tests s) (fun r t ht => ht.trans (present_queues r t)) .lost c s (.refl s)
  have hseal : KeepsQueues s (sealChannel c ((detectorOff present .lost c s).setDetector c
      { (detectorOff present .lost c s).detectors[c] with horizon := none })) :=
    sealChannel_keeps (keepsQueues_blocks s) c _ ⟨hoff.answers, hoff.intake⟩
  unfold channelLost
  dsimp only
  split
  · exact hseal.trans (offTests_queues _ _)
  · exact hseal

theorem podLost_queues (l : Fin 4) (s : State) : KeepsQueues s (podLost l s) := by
  have hlost : ∀ own, KeepsQueues s (forEach (channelsOf l) (channelLost own) s) := fun own =>
    forEach_keeps (KeepsQueues s) _ _ (fun c _ t ht => ht.trans (channelLost_queues own c t)) s (.refl s)
  unfold podLost
  dsimp only
  split
  · exact (hlost _).trans (endTest_queues (presentWith_queues _) _ _ _)
  · exact hlost _

theorem phaseEffects_queues (old new : Phase) (s : State) : KeepsQueues s (phaseEffects old new s) := by
  have hnotice := notify_queues (phaseNotice old new s) s
  have hlink := phaseEffects_link (old := old) (new := new) (s := s)
  exact ⟨(congrArg Link.answers hlink).trans hnotice.answers, (congrArg Link.intake hlink).trans hnotice.intake⟩

theorem gaugeGone_queues (s : State) : KeepsQueues s (gaugeGone s) := by
  have hgone : KeepsQueues s (s.setTracker s.tracker.nogauge) := ⟨rfl, rfl⟩
  unfold gaugeGone
  dsimp only
  split
  · exact hgone
  · exact hgone.trans (phaseEffects_queues _ _ _)

theorem laneLeft_queues (l : Fin 4) (r : LaneRole) (s : State) : KeepsQueues s (laneLeft l r s) := by
  cases r with
  | pod => exact podLost_queues l s
  | gauge => exact gaugeGone_queues s
  | off => exact .refl s

theorem tryAlign_queues (l : Fin 4) (s : State) : KeepsQueues s (tryAlign l s) := by
  have hlane : KeepsQueues s (s.setLane l { s.lanes[l] with state := .aligning, alignCount := 0, prevSeq := none }) := ⟨rfl, rfl⟩
  unfold tryAlign
  dsimp only
  split
  · exact hlane.trans (notify_queues _ _)
  · exact .refl s

theorem changeRole_queues (l : Fin 4) (r : LaneRole) (s : State) : KeepsQueues s (changeRole l r s) := by
  have hlane : ∀ x, KeepsQueues s (s.setLane l x) := fun _ => ⟨rfl, rfl⟩
  unfold changeRole
  exact (((hlane _).trans (notify_queues _ _)).trans (laneLeft_queues _ _ _)).trans (tryAlign_queues _ _)

/-! ## START, STOP, RELEASE, RESTART and PULSE -/

theorem makeLive_link (c : Fin 32) (s : State) : (makeLive c s).link = s.link := makeLive_same (fun _ _ => rfl) (fun _ _ => rfl) c s

theorem allLive_queues (l : List (Fin 32)) (s : State) : KeepsQueues s (forEach l makeLive s) :=
  .of_link (forEach_same State.link l makeLive makeLive_link s)

theorem startBlocks_queues (s : State) : KeepsQueues s (startBlocks s) := ⟨rfl, rfl⟩

theorem startRun_queues (s : State) : KeepsQueues s (startRun s) := by
  have hcells := startCells_keeps (keepsQueues_blocks s) _ (startCapture_keeps (keepsQueues_blocks s) s (.refl s))
  rw [startRun_eq]
  exact (hcells.trans (startBlocks_queues _)).trans (allLive_queues _ _)

theorem stopRun_queues (s : State) : KeepsQueues s (stopRun s) := by
  have hquiet := presentQuietly_keeps (keepsQueues_tests s).toKeepsWork
  have hseal := forEach_keeps (KeepsQueues s) allChannels _ (fun c _ t ht => sealChannel_keeps (keepsQueues_blocks s) c t ht) s (.refl s)
  have hhits : KeepsQueues s (haltGroups (stopHits s)) := haltGroups_keeps (keepsQueues_blocks s) _
    (endTest_keeps (keepsQueues_tests s) hquiet _ _ _ (allOff_keeps (keepsQueues_tests s) hquiet _ _ hseal))
  rw [stopRun_eq]
  generalize haltGroups (stopHits s) = u at hhits ⊢
  exact ⟨hhits.answers, hhits.intake⟩

theorem releaseRun_queues (s : State) : KeepsQueues s (releaseRun s) := by
  have hdump := stopDump_keeps (keepsQueues_blocks s) s (.refl s)
  exact ⟨hdump.answers, hdump.intake⟩

theorem clearCell_queues (n : Fin 1024) (s : State) : KeepsQueues s (clearCell n s) := by
  unfold clearCell
  exact changeAlarm_keeps (keepsQueues_blocks s) _ _ _ _ s (.refl s)

theorem clearCells_queues (l : List (Fin 1024)) (s : State) : KeepsQueues s (forEach l clearCell s) :=
  forEach_keeps (KeepsQueues s) l clearCell (fun n _ t ht => ht.trans (clearCell_queues n t)) s (.refl s)

theorem startTest_queues (e : IntakeEntry) (s : State) : KeepsQueues s (startTest e s) := by
  unfold startTest
  split
  · exact .refl s
  · next n c _ =>
    have hsent : ∀ x, KeepsQueues s ((sendFireMark c s).setPulse x) := fun _ => ⟨rfl, rfl⟩
    dsimp only
    split
    · exact (hsent _).trans (allLive_queues _ _)
    · exact hsent _

/-- RESTART empties the answer queue and keeps the orders that wait (R171). -/
theorem restartPart_queues (s : State) :
    (forEach allLanes tryAlign (restartPart s)).link.answers = [] ∧
      (forEach allLanes tryAlign (restartPart s)).link.intake = s.link.intake := by
  have halign : KeepsQueues (restartPart s) (forEach allLanes tryAlign (restartPart s)) :=
    forEach_keeps (KeepsQueues (restartPart s)) _ _ (fun l _ t ht => ht.trans (tryAlign_queues l t)) _ (.refl _)
  exact ⟨halign.answers, halign.intake⟩

end

end Sys2Proof.Machine
end

section
/-! Every order that is served leaves the intake and is answered once (R179, R186). -/

namespace Sys2Proof.Machine

/-! ## One answer -/

/-- The order `e` has left the intake, and its answer stands behind those of `before`. -/
def Answered (e : IntakeEntry) (rest : List IntakeEntry) (before : List Answer) (t : State) : Prop :=
  let names := (e.order.kind = readKind ∨ e.order.kind = writeKind) ∧ 4 ≤ e.order.args.length
  ∃ a, t.link.intake = rest ∧ a.tag = e.order.tag ∧ a.kind = e.order.kind ∧ a.part = t.run.address ∧
    a.item = (if names then byteAt e.order.args 0 else 0) ∧ a.index = (if names then fieldAt e.order.args 2 2 else 0) ∧
    (a.contents ≠ [] → e.order.kind = readKind ∧ a.reason = none) ∧ t.link.answers = before ++ [a]

theorem Order.namesItem_iff (o : Order) :
    o.namesItem = true ↔ (o.kind = readKind ∨ o.kind = writeKind) ∧ 4 ≤ o.args.length := by
  simp [Order.namesItem, Order.short]

theorem answerOf_eq (s : State) (o : Order) (reason : Option Reason) (contents : List Byte) :
    let names := (o.kind = readKind ∨ o.kind = writeKind) ∧ 4 ≤ o.args.length
    answerOf s o reason contents =
      { part := s.run.address, tag := o.tag, kind := o.kind, reason := reason,
        item := if names then byteAt o.args 0 else 0, index := if names then fieldAt o.args 2 2 else 0,
        contents := contents } := by
  intro names
  unfold answerOf
  rw [if_congr o.namesItem_iff rfl rfl, if_congr o.namesItem_iff rfl rfl]
  rfl

section
variable {s u : State} {e : IntakeEntry} {rest : List IntakeEntry} {before : List Answer}

theorem placeAnswer_answered {reason : Option Reason} {contents : List Byte} (hi : u.link.intake = rest)
    (ha : u.link.answers = before) (hc : contents ≠ [] → e.order.kind = readKind ∧ reason = none) :
    Answered e rest before (placeAnswer e.order reason contents u) := by
  have hanswer := answerOf_eq u e.order reason contents
  refine ⟨answerOf u e.order reason contents, hi, rfl, rfl, rfl, ?_, ?_, hc, ?_⟩
  · exact (congrArg Answer.item hanswer :)
  · exact (congrArg Answer.index hanswer :)
  · exact congrArg (· ++ [answerOf u e.order reason contents]) ha

section
variable {want : IntakeEntry → Bool} {check : IntakeEntry → State → Option Reason}
  {effect : IntakeEntry → State → State} {contents : IntakeEntry → State → List Byte}

/-- An execution answers its order, with the answers that its effect leaves. -/
theorem execute_answered (h : Serves s e rest) (hw : want e = true)
    (hchecked : ∀ r, check e (s.headTaken rest) = some r → before = s.link.answers)
    (hi : (effect e (s.headTaken rest)).link.intake = rest) (ha : (effect e (s.headTaken rest)).link.answers = before)
    (hc : ∀ t, contents e t ≠ [] → e.order.kind = readKind) :
    Answered e rest before (execute want check effect contents s) := by
  cases hreason : check e (s.headTaken rest) with
  | none =>
    rw [execute_done h hw hreason]
    exact placeAnswer_answered hi ha fun hne => ⟨hc _ hne, rfl⟩
  | some r =>
    rw [execute_refused h hw hreason, hchecked r hreason]
    exact placeAnswer_answered rfl rfl fun hne => absurd rfl hne

theorem executeOrder_answered (h : Serves s e rest) (hw : want e = true)
    (hk : KeepsQueues (s.headTaken rest) (effect e (s.headTaken rest))) :
    Answered e rest s.link.answers (executeOrder want check effect s) :=
  execute_answered h hw (fun _ _ => rfl) hk.intake hk.answers fun _ hne => absurd rfl hne

/-- A row that ends in the execution of the order answers it. -/
theorem row_answered (h : Serves s e rest) (hw : want e = true)
    (hk : KeepsQueues (s.headTaken rest) (effect e (s.headTaken rest))) :
    ∃ t, Host.Outcome.next (executeOrder want check effect s) = (Host.Outcome.next t : Host.Outcome State Fault Refusal) ∧
      Answered e rest s.link.answers t := ⟨_, rfl, executeOrder_answered h hw hk⟩

theorem writeItem_answered {code : Nat} {conditions : IntakeEntry → State → List (Bool × Reason)} (h : Serves s e rest)
    (hw : WritesItem code e) (hk : ∀ t, KeepsQueues t (effect e t)) :
    ∃ t, writeItem code conditions effect s = .next t ∧ Answered e rest s.link.answers t :=
  ⟨_, rfl, executeOrder_answered h ((writes_iff code e).2 hw) (hk _)⟩

end

end

/-! ## The writes of the items -/

section
variable {e : IntakeEntry} {s : State}

theorem writeBank_link : (writeBank e s).link = s.link := by
  unfold writeBank
  split <;> rfl

theorem writeCapture_link : (writeCapture e s).link = s.link := by
  unfold writeCapture
  dsimp only
  split <;> rfl

theorem writeSensor_link : (writeSensor e s).link = s.link := by
  unfold writeSensor mapSensor
  split <;> rfl

theorem writePhaseMap_link : (writePhaseMap e s).link = s.link := by
  unfold writePhaseMap
  split
  · exact followPhase_same (g := State.link) (fun _ _ => rfl) _
  · rfl

theorem writePair_link : (writePair e s).link = s.link := by
  unfold writePair
  repeat' split
  all_goals rfl

theorem writeCell_link : (writeCell e s).link = s.link := by
  unfold writeCell
  split <;> rfl

theorem writeClass_link : (writeClass e s).link = s.link := by
  unfold writeClass
  split <;> rfl

theorem writeLane_link : (writeLane e s).link = s.link := by
  unfold writeLane
  split <;> rfl

end

/-! ## The row of an order (R186, R193) -/

section
variable {s : State} {e : IntakeEntry} {rest : List IntakeEntry}

theorem writeRow_item {n : Nat} (h : writeRow n ≠ .write) : 1 ≤ n ∧ n ≤ 15 := by
  unfold writeRow at h
  split at h
  case h_16 => exact absurd rfl h
  all_goals omega

/-- A row that serves the order. -/
def RowServes (row : Instr) (s : State) (e : IntakeEntry) (rest : List IntakeEntry) : Prop :=
  row ∈ executionRows ∧ ∃ t, exec row s = .next t ∧ Answered e rest (if row = .restart then [] else s.link.answers) t

theorem rowServes_of {row : Instr} (hmem : row ∈ executionRows) (hne : row ≠ .restart)
    (h : ∃ t, exec row s = .next t ∧ Answered e rest s.link.answers t) : RowServes row s e rest := by
  refine ⟨hmem, ?_⟩
  rw [if_neg hne]
  exact h

theorem writeRow_serves (h : Serves s e rest) (hk : TakenAs writeKind e) : RowServes (rowOf e) s e rest := by
  by_cases hrow : rowOf e = .write
  · rw [hrow]
    refine rowServes_of (by decide) nofun (row_answered h ?_ (.refl _))
    rw [strayWrite, (taken_iff _ _).2 hk, hrow]
    rfl
  · have hitem := rowOf_write hk
    by_cases hstray : (e.order.short 4 || noItem e.order.item e.order.index) = true
    · rw [if_pos hstray] at hitem
      exact absurd hitem hrow
    · rw [if_neg hstray] at hitem
      obtain ⟨hlow, hhigh⟩ := writeRow_item (hitem ▸ hrow)
      have hlong : 4 ≤ e.order.args.length := by
        rw [Bool.or_eq_true, not_or, Order.short_iff] at hstray
        exact Nat.not_lt.1 hstray.1
      have hwrites : ∀ code, e.order.item = code → WritesItem code e := fun code hcode => ⟨hk, hlong, hcode⟩
      rw [hitem]
      obtain ⟨code, hcode⟩ : ∃ code, e.order.item = code := ⟨_, rfl⟩
      rw [hcode] at hlow hhigh ⊢
      interval_cases code
      · exact rowServes_of (by decide) nofun (writeItem_answered h (hwrites _ hcode) fun _ => .of_link writeBank_link)
      · exact rowServes_of (by decide) nofun (writeItem_answered h (hwrites _ hcode) fun _ => .of_link writeCapture_link)
      · exact rowServes_of (by decide) nofun (writeItem_answered h (hwrites _ hcode) fun _ => .of_link writeSensor_link)
      · exact rowServes_of (by decide) nofun (writeItem_answered h (hwrites _ hcode) fun _ => .of_link writePhaseMap_link)
      · exact rowServes_of (by decide) nofun (writeItem_answered h (hwrites _ hcode) fun _ => .of_link rfl)
      · exact rowServes_of (by decide) nofun (writeItem_answered h (hwrites _ hcode) fun _ => .of_link writePair_link)
      · exact rowServes_of (by decide) nofun (writeItem_answered h (hwrites _ hcode) fun _ => .of_link writeCell_link)
      · exact rowServes_of (by decide) nofun (writeItem_answered h (hwrites _ hcode) fun _ => .of_link writeClass_link)
      · exact rowServes_of (by decide) nofun (writeItem_answered h (hwrites _ hcode) fun _ => .of_link rfl)
      · exact rowServes_of (by decide) nofun (writeItem_answered h (hwrites _ hcode) fun _ => .of_link rfl)
      · exact rowServes_of (by decide) nofun (writeItem_answered h (hwrites _ hcode) fun _ => .of_link rfl)
      · exact rowServes_of (by decide) nofun (writeItem_answered h (hwrites _ hcode) fun _ => .of_link writeLane_link)
      · exact rowServes_of (by decide) nofun (writeItem_answered h (hwrites _ hcode) fun _ => .of_link rfl)
      · exact rowServes_of (by decide) nofun (writeItem_answered h (hwrites _ hcode) fun _ => .of_link rfl)
      · exact rowServes_of (by decide) nofun (writeItem_answered h (hwrites _ hcode) fun _ => ⟨rfl, rfl⟩)

/-- The row of a taken order whose kind has the code `n` (R193). -/
def kindRow (e : IntakeEntry) (n : Nat) : Instr :=
  match n with
  | 1 => .assign
  | 2 => .read
  | 3 => if e.order.short 4 || noItem e.order.item e.order.index then .write else writeRow e.order.item
  | 4 => if byteAt e.order.args 4 = 0xFF#8 then .selectBankFollow else .selectBank
  | 5 => .setRole
  | 6 => .sync
  | 7 => .start
  | 8 => .stop
  | 9 => .freeze
  | 10 => .release
  | 11 => .clearCell
  | 12 => .pulse
  | 13 => .restart
  | 14 => if e.order.short 1 = false ∧ byteAt e.order.args 0 = 0#8 then .bypassOff else .bypassOn
  | _ => .unknownOrder

theorem rowOf_kind {n : Nat} (ht : e.take = true) (hn : e.order.kind.toNat = n) : rowOf e = kindRow e n := by
  subst hn
  unfold rowOf
  rw [if_pos ht]
  rfl

theorem selectOne_link (b : Fin 4) (c : Fin 32) (s : State) : (selectOne b c s).link = s.link := by
  unfold selectOne setPending applyPending
  split <;> rfl

theorem followOne_link (c : Fin 32) (s : State) : (followOne c s).link = s.link := by
  unfold followOne setPending applyPending
  split <;> rfl

theorem selectRow_serves (h : Serves s e rest) (hk : TakenAs selectBankKind e) : RowServes (rowOf e) s e rest := by
  have hrow := rowOf_kind (n := 4) hk.1 (by rw [hk.2]; rfl)
  rw [kindRow] at hrow
  by_cases hf : byteAt e.order.args 4 = 0xFF#8
  · have hfollow : asksFollow e = true := beq_iff_eq.2 hf
    rw [hrow, if_pos hf]
    refine rowServes_of (by decide) nofun (row_answered h ?_ (.of_link (forEach_same State.link _ _ followOne_link _)))
    rw [(taken_iff _ _).2 hk, hfollow]
    rfl
  · have hfollow : asksFollow e = false := beq_false_of_ne hf
    rw [hrow, if_neg hf]
    refine rowServes_of (by decide) nofun (row_answered h ?_ ?_)
    · rw [(taken_iff _ _).2 hk, hfollow]
      rfl
    · split
      · exact .of_link (forEach_same State.link _ _ (selectOne_link _) _)
      · exact .refl _

theorem asksOff_bytes : asksOff e = true ↔ e.order.short 1 = false ∧ byteAt e.order.args 0 = 0#8 := by
  rw [asksOff, Bool.and_eq_true, Bool.not_eq_true', beq_iff_eq]

theorem bypassRow_serves (h : Serves s e rest) (hk : TakenAs bypassKind e) : RowServes (rowOf e) s e rest := by
  have hrow := rowOf_kind (n := 14) hk.1 (by rw [hk.2]; rfl)
  rw [kindRow] at hrow
  by_cases hoff : asksOff e = true
  · rw [hrow, if_pos (asksOff_bytes.1 hoff)]
    refine rowServes_of (by decide) nofun (row_answered h ?_ ⟨rfl, rfl⟩)
    rw [(taken_iff _ _).2 hk, hoff]
    rfl
  · rw [hrow, if_neg fun ho => hoff (asksOff_bytes.2 ho)]
    refine rowServes_of (by decide) nofun (row_answered h ?_ ⟨rfl, rfl⟩)
    rw [(taken_iff _ _).2 hk, Bool.eq_false_iff.2 hoff]
    rfl

theorem setRoleRow_serves (h : Serves s e rest) (hk : TakenAs setRoleKind e) : RowServes .setRole s e rest := by
  refine rowServes_of (by decide) nofun (row_answered h ((taken_iff _ _).2 hk) ?_)
  split
  · exact .refl _
  · exact (changeRole_queues _ _ _).trans (settleCapture_queues _)

theorem readRow_serves (h : Serves s e rest) (hk : TakenAs readKind e) : RowServes .read s e rest :=
  rowServes_of (by decide) nofun
    ⟨_, rfl, execute_answered h ((taken_iff _ _).2 hk) (fun _ _ => rfl) rfl rfl fun _ _ => hk.2⟩

theorem restartRow_serves (h : Serves s e rest) (hk : TakenAs restartKind e) : RowServes .restart s e rest := by
  obtain ⟨hanswers, hintake⟩ := restartPart_queues (s := s.headTaken rest)
  refine ⟨by decide, _, rfl, ?_⟩
  rw [if_pos rfl]
  exact execute_answered h ((taken_iff _ _).2 hk) nofun hintake hanswers fun _ hne => absurd rfl hne

/-- The row of a taken order serves it, kind by kind. -/
theorem takenRow_serves (h : Serves s e rest) (ht : e.take = true) : RowServes (rowOf e) s e rest := by
  obtain ⟨n, hn⟩ : ∃ n, e.order.kind.toNat = n := ⟨_, rfl⟩
  have hk : ∀ k : Byte, n = k.toNat → TakenAs k e := fun k hnk => ⟨ht, BitVec.eq_of_toNat_eq (hn.trans hnk)⟩
  have hw : ∀ k : Byte, n = k.toNat → taken k e = true := fun k hnk => (taken_iff _ _).2 (hk k hnk)
  have hrow := rowOf_kind ht hn
  by_cases hkind : 1 ≤ n ∧ n ≤ 14
  · obtain ⟨hlow, hhigh⟩ := hkind
    interval_cases n
    on_goal 14 => exact bypassRow_serves h (hk bypassKind rfl)
    on_goal 4 => exact selectRow_serves h (hk selectBankKind rfl)
    on_goal 3 => exact writeRow_serves h (hk writeKind rfl)
    all_goals rw [hrow, kindRow]
    · exact rowServes_of (by decide) nofun (row_answered h (hw assignKind rfl) ⟨rfl, rfl⟩)
    · exact readRow_serves h (hk readKind rfl)
    · exact setRoleRow_serves h (hk setRoleKind rfl)
    · exact rowServes_of (by decide) nofun (row_answered h (hw syncKind rfl) ⟨rfl, rfl⟩)
    · exact rowServes_of (by decide) nofun (row_answered h (hw startKind rfl) (startRun_queues _))
    · exact rowServes_of (by decide) nofun (row_answered h (hw stopKind rfl) ((stopRun_queues _).trans (settleCapture_queues _)))
    · exact rowServes_of (by decide) nofun
        (row_answered h (hw freezeKind rfl) ((declareBurst_queues _ _ _).trans (settleCapture_queues _)))
    · exact rowServes_of (by decide) nofun (row_answered h (hw releaseKind rfl) (releaseRun_queues _))
    · exact rowServes_of (by decide) nofun (row_answered h (hw clearCellKind rfl) (clearCells_queues _ _))
    · exact rowServes_of (by decide) nofun (row_answered h (hw pulseKind rfl) (startTest_queues _ _))
    · exact restartRow_serves h (hk restartKind rfl)
  · have hunknown : rowOf e = .unknownOrder := by
      rw [hrow]
      unfold kindRow
      split
      case h_15 => rfl
      all_goals omega
    rw [hunknown]
    refine rowServes_of (by decide) nofun (row_answered h ?_ (.refl _))
    rw [unknownKind, ht, hn, Bool.true_and, Bool.not_eq_true', ← Bool.not_eq_true, within_iff]
    exact hkind

theorem rowOf_serves (h : Serves s e rest) : RowServes (rowOf e) s e rest := by
  cases ht : e.take with
  | true => exact takenRow_serves h ht
  | false =>
    have hrow : rowOf e = .unclaimed := by
      unfold rowOf
      rw [ht]
      rfl
    rw [hrow]
    exact rowServes_of (by decide) nofun (row_answered h (by rw [ht]; rfl) (.refl _))

end

/-- Settles O23. -/
theorem everyOrderAnsweredOnce : Obligations.EveryOrderAnsweredOnce := by
  refine ⟨fun s e rest h => ?served, fun o reason contents s => ?placed, fun s t e rest r => ⟨rfl, rfl⟩⟩
  case served =>
    obtain ⟨hmem, t, hexec, a, hanswer⟩ := rowOf_serves h
    exact ⟨hmem, t, a, hexec, hanswer⟩
  case placed =>
    intro names
    rw [placeAnswer, answerOf_eq]

end Sys2Proof.Machine
end
